-- ==== Sys2Proof/Word.lean ====
section
/-! DEFINITION. The plainest data of the booth: a character of the line, a side of the booth, and one value
for each side. -/

namespace Sys2Proof

/-- One character of the booth line: eight data bits (chapter 11). -/
abbrev Character := BitVec 8

/-- A projector, its lamp and its port shutter: "its lamp" and "its port shutter" always mean these pairs
(00_scope, section 7). -/
inductive Side where
  | a
  | b
deriving DecidableEq, Repr

/-- The other projector of the pair. -/
def Side.other : Side → Side
  | .a => .b
  | .b => .a

/-- One value for each side of the booth. -/
structure Both (α : Type) where
  a : α
  b : α
deriving DecidableEq, Repr

/-- The value of one side. -/
def Both.get {α : Type} (x : Both α) : Side → α
  | .a => x.a
  | .b => x.b

/-- The pair with the value of one side replaced. -/
def Both.set {α : Type} (x : Both α) (p : Side) (v : α) : Both α :=
  match p with
  | .a => { x with a := v }
  | .b => { x with b := v }

/-- A station number 1 to 6 (R5), kept as its place 0 to 5. -/
abbrev Station := Fin 6

/-- The number a station carries on the line. -/
def Station.number (n : Station) : Nat := n.val + 1

end Sys2Proof
end

