-- ==== Sys2Proof/Config.lean ====
section
/-! DEFINITION. What the manual leaves open and the model does not fix. -/

namespace Sys2Proof

/-- FREE VALUE (log entry 14). The manual reads a running timer back in whole tenths of a second (R87 item 4, R123 item
12, R178 item 3, R183) while time passes in periods of half a tenth (R1), and it does not say how a part of a tenth is
rounded. Whether it is read upward, for each number of periods counted; nothing fixes it. -/
opaque Config.partTenthReadsUp : Nat → Bool

end Sys2Proof
end

