-- ==== Sys2Proof/Syntax.lean ====
section
/-! DEFINITION. The commands of the controller: one constructor of `Instr` for each row of
spec/opcode_table.json, with its operands. A row of the table that is a request of the line carries the station that
asks and the request's target and data fields (R181); a row that is an event of the booth carries which unit it
comes from and what its sensor reports. -/

namespace Sys2Proof

/-- The two lighting channels (R124). -/
inductive Channel where
  | house
  | aisle
deriving DecidableEq, Repr

/-- The four port shutters (R138). -/
inductive Port where
  | a
  | b
  | observation1
  | observation2
deriving DecidableEq, Repr

/-- The roles a station can be strapped for (R22). -/
inductive Role where
  | console
  | house
  | programmer
  | fire
  | observer
  | absent
deriving DecidableEq, Repr

/-- The position of a switch: a film-loss switch, a gate thermal switch, a limit switch (R150, R155). -/
inductive Contact where
  | closed
  | opened
deriving DecidableEq, Repr

/-- The fire link circuit (R138). -/
inductive FireLink where
  | intact
  | opened
deriving DecidableEq, Repr

/-- What a request names as its target (R23): a function, a setting by its number, the target NONE, or a code that
names no function (R184). -/
inductive Target where
  | noTarget
  | house
  | aisle
  | arc (lamp : Side)
  | proj (projector : Side)
  | shutters
  | automation
  | reels
  | presets
  | setting (n : Nat)
  | unknown (code : Nat)
deriving DecidableEq, Repr

/-- The target of a lighting channel. -/
def Channel.target : Channel → Target
  | .house => .house
  | .aisle => .aisle

/-- One character as it arrived in a slot: its eight data bits, its parity bit (set for a one), and its stop bit as
sampled at its middle (set for mark, clear for space) (R179). -/
structure SlotCharacter where
  value : Character
  parityBit : Bool
  stopBit : Bool
deriving DecidableEq, Repr

/-- What a station's slot held (R4): no start bit, the loop held at space throughout, or characters in the order of
their start bits. -/
inductive Slot where
  | noStartBit
  | heldAtSpace
  | characters (first : SlotCharacter) (rest : List SlotCharacter)
deriving DecidableEq, Repr

/-- The reel entry of ADD and INSERT, decoded (R49, R181): the projector is still its code, 1 for A and 2 for B. -/
structure ReelEntry where
  reel : Nat
  projector : Nat
  endFrame : Nat
  leader : Nat
  last : Bool
  intermission : Bool
deriving DecidableEq, Repr

/-- What the controller senses as power is applied (R6, R138, R173): the straps, the fire link, the DOWN switches of
the four shutters, the film-loss and gate thermal switches, and whether the retained store still agrees with its
check after the time without power. -/
structure PowerOnSensed where
  role1 : Role
  role2 : Role
  role3 : Role
  role4 : Role
  role5 : Role
  role6 : Role
  link : FireLink
  downA : Contact
  downB : Contact
  downObservation1 : Contact
  downObservation2 : Contact
  filmLoss : Both Contact
  gate : Both Contact
  storeAgrees : Bool
deriving DecidableEq, Repr

/-- What the sensors of the lamps read at a period boundary: the arc current in amperes and the arc voltage in tenths
of a volt of each lamp (R108, R111, R113). -/
structure Readings where
  amperes : Both Nat
  volts : Both Nat
deriving DecidableEq, Repr

/-- The commands of the controller, one for each row of spec/opcode_table.json. -/
inductive Instr where
  -- the line and the request unit
  | powerOn (sensed : PowerOnSensed)
  | linePeriodBoundary (readings : Readings)
  | requestSlot (station : Station) (slot : Slot)
  | lineBreak
  | lineBreakEnd
  | takeEntry
  | takePriorityEntry
  -- requests: inquiries
  | inquire (station : Station) (target : Target) (part : Nat)
  | read (station : Station) (target : Target) (item : Nat)
  | readReel (station : Station) (target : Target) (reel : Nat)
  | readConditions (station : Station) (target : Target) (condition part : Nat)
  -- requests: modes and values
  | setMode (station : Station) (target : Target) (mode : Nat)
  | setValueHouse (station : Station) (channel : Channel) (level ramp : Nat)
  | setValueArc (station : Station) (lamp : Side) (rate : Nat)
  | setValueSetting (station : Station) (n value : Nat)
  | setTarget (station : Station) (target : Target) (level ramp : Nat)
  -- requests: lamps
  | strike (station : Station) (target : Target)
  | extinguish (station : Station) (target : Target)
  | newRod (station : Station) (target : Target) (length : Nat)
  -- requests: projectors
  | load (station : Station) (target : Target) (reel f0 : Nat)
  | unload (station : Station) (target : Target)
  | inch (station : Station) (target : Target) (frames : Nat)
  | start (station : Station) (target : Target)
  | stop (station : Station) (target : Target)
  | openDowser (station : Station) (target : Target)
  | swap (station : Station) (target : Target)
  -- requests: the reel list
  | add (station : Station) (target : Target) (entry : ReelEntry)
  | insert (station : Station) (target : Target) (before : Nat) (entry : ReelEntry)
  | remove (station : Station) (target : Target) (reel : Nat)
  | reelCue (station : Station) (target : Target) (reel action point level ramp : Nat)
  | clearList (station : Station) (target : Target)
  | repeatShow (station : Station) (target : Target)
  | skipReel (station : Station) (target : Target) (reel : Nat)
  -- requests: automation
  | engage (station : Station) (target : Target)
  | disengage (station : Station) (target : Target)
  | startShow (station : Station) (target : Target)
  | resume (station : Station) (target : Target)
  -- requests: the console's control
  | clearConditions (station : Station) (target : Target) (condition : Nat)
  | lockStation (station : Station) (target : Target) (n : Nat)
  | unlockStation (station : Station) (target : Target) (n : Nat)
  | generalReset (station : Station) (target : Target)
  | stopAll (station : Station) (target : Target)
  -- requests: fire
  | alert (station : Station) (target : Target)
  | fireClear (station : Station) (target : Target)
  | drop (station : Station) (target : Target)
  | fireAck (station : Station) (target : Target)
  | raise (station : Station) (target : Target) (port : Nat)
  -- requests: presets
  | loadPreset (station : Station) (target : Target) (channel : Nat)
  | savePreset (station : Station) (target : Target) (channel : Nat)
  -- events: settings store
  | saveTimerExpiry
  -- events: projectors
  | tachometerPulse (projector : Side)
  | inchDone (projector : Side)
  | inchTimerExpiry (projector : Side)
  | runUpDone (projector : Side)
  | runUpTimerExpiry (projector : Side)
  | cueMark (projector : Side)
  -- events: the changeover sequencer's own steps
  | swapPoint
  | lateSwap
  | strikeTest
  | motorTest
  | showStartStrike (projector : Side)
  | showStartFadeAndMotor (projector : Side)
  | showStartOpen (projector : Side)
  | houseCueReached
  | douseTimerExpiry (lamp : Side)
  -- events: lamps
  | settlingTimerExpiry (lamp : Side)
  | arcEstablished (lamp : Side) (amperes : Nat)
  | attemptTimerExpiry (lamp : Side) (amperes : Nat)
  | waitTimerExpiry (lamp : Side)
  | warmTimerExpiry (lamp : Side)
  | arcLoss (lamp : Side) (amperes : Nat)
  | feedInterval (lamp : Side) (volts amperes : Nat)
  | highClampAdjust (lamp : Side)
  | lowClampAdjust (lamp : Side)
  | trimConverged (lamp : Side)
  | trimFailed (lamp : Side)
  -- events: film protection, fire link and shutters
  | filmLossSwitch (projector : Side) (position : Contact)
  | gateThermalOpen (projector : Side) (position : Contact)
  | stallTrip (projector : Side)
  | fireLinkOpen
  | fireLinkIntact
  | shutterDownSwitch (port : Port)
  | fallTimerExpiry (port : Port)
  | shutterUpSwitch (port : Port)
  | raiseTimerExpiry (port : Port)
  | shutterLatchLetGo (port : Port)
deriving DecidableEq, Repr

end Sys2Proof
end

