-- ==== Sys2Proof/WellFormed.lean ====
section
/-! DEFINITION. Which commands can be spelled on the line and sensed in the booth: each field of a request fits the data
characters R181 and R182 give it, a target is one the target codes of R184 can name, and a reading lies in the range
its quantity has (00_scope, section 5). `exec` is total and does not ask for well-formedness: an ill-formed command is
one that nothing outside the controller could send. -/

namespace Sys2Proof

/-- A field of one character (R182). -/
def fitsOne (n : Nat) : Bool := n < 256

/-- A field of two characters (R182). -/
def fitsTwo (n : Nat) : Bool := n < 65536

/-- A field of three characters: F0 (R182). -/
def fitsThree (n : Nat) : Bool := n < 16777216

/-- A target that some target code names: settings 1 to 45 by 65 to 109, unknown targets by 11 to 64 and 110 to 255
(R184). -/
def Target.wellFormed : Target → Bool
  | .setting n => 1 ≤ n && n ≤ 45
  | .unknown c => (11 ≤ c && c ≤ 64) || (110 ≤ c && c ≤ 255)
  | _ => true

/-- A reel entry that five characters can carry: one for the reel, two bits for the projector, seventeen for E, nine for
P (R181). -/
def ReelEntry.wellFormed (x : ReelEntry) : Bool :=
  fitsOne x.reel && x.projector < 4 && x.endFrame < 131072 && x.leader < 512

/-- An arc current lies from 0 to 200 A (00_scope, section 5). -/
def ampereReading (i : Nat) : Bool := i ≤ 200

/-- An arc voltage lies from 0 to 999 tenths of a volt (00_scope, section 5). -/
def voltReading (v : Nat) : Bool := v ≤ 999

/-- The characters of one slot: a slot of 6.0 ms has room for the start bits of eleven characters (R179). -/
def Slot.wellFormed : Slot → Bool
  | .noStartBit => true
  | .heldAtSpace => true
  | .characters _ rest => rest.length < 11

/-- A command that the line or the booth could give. -/
def Instr.wellFormed : Instr → Bool
  | .powerOn _ => true
  | .linePeriodBoundary r =>
      ampereReading r.amperes.a && ampereReading r.amperes.b && voltReading r.volts.a && voltReading r.volts.b
  | .requestSlot _ slot => slot.wellFormed
  | .lineBreak => true
  | .lineBreakEnd => true
  | .takeEntry => true
  | .takePriorityEntry => true
  | .inquire _ t part => t.wellFormed && fitsOne part
  | .read _ t item => t.wellFormed && fitsOne item
  | .readReel _ t reel => t.wellFormed && fitsOne reel
  | .readConditions _ t n part => t.wellFormed && fitsOne n && fitsOne part
  | .setMode _ t mode => t.wellFormed && fitsOne mode
  | .setValueHouse _ _ level ramp => fitsOne level && fitsTwo ramp
  | .setValueArc _ _ rate => fitsOne rate
  | .setValueSetting _ n value => (Target.setting n).wellFormed && fitsTwo value
  | .setTarget _ t level ramp => t.wellFormed && fitsOne level && fitsTwo ramp
  | .strike _ t => t.wellFormed
  | .extinguish _ t => t.wellFormed
  | .newRod _ t length => t.wellFormed && fitsTwo length
  | .load _ t reel f0 => t.wellFormed && fitsOne reel && fitsThree f0
  | .unload _ t => t.wellFormed
  | .inch _ t frames => t.wellFormed && fitsOne frames
  | .start _ t => t.wellFormed
  | .stop _ t => t.wellFormed
  | .openDowser _ t => t.wellFormed
  | .swap _ t => t.wellFormed
  | .add _ t entry => t.wellFormed && entry.wellFormed
  | .insert _ t before entry => t.wellFormed && fitsOne before && entry.wellFormed
  | .remove _ t reel => t.wellFormed && fitsOne reel
  | .reelCue _ t reel action point level ramp =>
      t.wellFormed && fitsOne reel && fitsOne action && fitsTwo point && fitsOne level && fitsTwo ramp
  | .clearList _ t => t.wellFormed
  | .repeatShow _ t => t.wellFormed
  | .skipReel _ t reel => t.wellFormed && fitsOne reel
  | .engage _ t => t.wellFormed
  | .disengage _ t => t.wellFormed
  | .startShow _ t => t.wellFormed
  | .resume _ t => t.wellFormed
  | .clearConditions _ t n => t.wellFormed && fitsOne n
  | .lockStation _ t n => t.wellFormed && fitsOne n
  | .unlockStation _ t n => t.wellFormed && fitsOne n
  | .generalReset _ t => t.wellFormed
  | .stopAll _ t => t.wellFormed
  | .alert _ t => t.wellFormed
  | .fireClear _ t => t.wellFormed
  | .drop _ t => t.wellFormed
  | .fireAck _ t => t.wellFormed
  | .raise _ t port => t.wellFormed && fitsOne port
  | .loadPreset _ t channel => t.wellFormed && fitsOne channel
  | .savePreset _ t channel => t.wellFormed && fitsOne channel
  | .saveTimerExpiry => true
  | .tachometerPulse _ => true
  | .inchDone _ => true
  | .inchTimerExpiry _ => true
  | .runUpDone _ => true
  | .runUpTimerExpiry _ => true
  | .cueMark _ => true
  | .swapPoint => true
  | .lateSwap => true
  | .strikeTest => true
  | .motorTest => true
  | .showStartStrike _ => true
  | .showStartFadeAndMotor _ => true
  | .showStartOpen _ => true
  | .houseCueReached => true
  | .douseTimerExpiry _ => true
  | .settlingTimerExpiry _ => true
  | .arcEstablished _ i => ampereReading i
  | .attemptTimerExpiry _ i => ampereReading i
  | .waitTimerExpiry _ => true
  | .warmTimerExpiry _ => true
  | .arcLoss _ i => ampereReading i
  | .feedInterval _ v i => voltReading v && ampereReading i
  | .highClampAdjust _ => true
  | .lowClampAdjust _ => true
  | .trimConverged _ => true
  | .trimFailed _ => true
  | .filmLossSwitch _ _ => true
  | .gateThermalOpen _ _ => true
  | .stallTrip _ => true
  | .fireLinkOpen => true
  | .fireLinkIntact => true
  | .shutterDownSwitch _ => true
  | .fallTimerExpiry _ => true
  | .shutterUpSwitch _ => true
  | .raiseTimerExpiry _ => true
  | .shutterLatchLetGo _ => true

end Sys2Proof
end

