-- ==== Sys2Proof/Decode.lean ====
section
/-! DEFINITION. Reading what arrives: the codes of R184, the data characters of a request (R181, R182), and the
command a table word spells. The opcode table gives no row any bits, so no word spells a command. -/

namespace Sys2Proof

/-- The kinds of request (R23, R184). -/
inductive Kind where
  | inquire | read | readReel | readConditions
  | setMode | setValue | setTarget
  | strike | extinguish | newRod
  | load | unload | inch | start | stop | openDowser | swap
  | add | insert | remove | reelCue | clearList | repeatShow | skipReel
  | engage | disengage | startShow | resume
  | clearConditions | lockStation | unlockStation | generalReset
  | stopAll | drop
  | alert | fireClear | fireAck | raise
  | loadPreset | savePreset
deriving DecidableEq, Repr

/-- The code of a kind on the line (R184). -/
def Kind.code : Kind → Nat
  | .inquire => 1 | .read => 2 | .readReel => 3 | .readConditions => 4
  | .setMode => 8 | .setValue => 9 | .setTarget => 10
  | .strike => 16 | .extinguish => 17 | .newRod => 18
  | .load => 24 | .unload => 25 | .inch => 26 | .start => 27 | .stop => 28 | .openDowser => 29 | .swap => 30
  | .add => 32 | .insert => 33 | .remove => 34 | .reelCue => 35 | .clearList => 36 | .repeatShow => 37
  | .skipReel => 38
  | .engage => 40 | .disengage => 41 | .startShow => 42 | .resume => 43
  | .clearConditions => 48 | .lockStation => 49 | .unlockStation => 50 | .generalReset => 51
  | .stopAll => 56 | .drop => 57
  | .alert => 60 | .fireClear => 61 | .fireAck => 62 | .raise => 63
  | .loadPreset => 64 | .savePreset => 65

/-- The kind a code names; every other code is unknown (R184). -/
def Kind.ofCode : Nat → Option Kind
  | 1 => some .inquire | 2 => some .read | 3 => some .readReel | 4 => some .readConditions
  | 8 => some .setMode | 9 => some .setValue | 10 => some .setTarget
  | 16 => some .strike | 17 => some .extinguish | 18 => some .newRod
  | 24 => some .load | 25 => some .unload | 26 => some .inch | 27 => some .start | 28 => some .stop
  | 29 => some .openDowser | 30 => some .swap
  | 32 => some .add | 33 => some .insert | 34 => some .remove | 35 => some .reelCue | 36 => some .clearList
  | 37 => some .repeatShow | 38 => some .skipReel
  | 40 => some .engage | 41 => some .disengage | 42 => some .startShow | 43 => some .resume
  | 48 => some .clearConditions | 49 => some .lockStation | 50 => some .unlockStation | 51 => some .generalReset
  | 56 => some .stopAll | 57 => some .drop
  | 60 => some .alert | 61 => some .fireClear | 62 => some .fireAck | 63 => some .raise
  | 64 => some .loadPreset | 65 => some .savePreset
  | _ => none

/-- The target a code names (R184). -/
def Target.ofCode (c : Nat) : Target :=
  match c with
  | 0 => .noTarget
  | 1 => .house
  | 2 => .aisle
  | 3 => .arc .a
  | 4 => .arc .b
  | 5 => .proj .a
  | 6 => .proj .b
  | 7 => .shutters
  | 8 => .automation
  | 9 => .reels
  | 10 => .presets
  | c => if 65 ≤ c && c ≤ 109 then .setting (c - 64) else .unknown c

/-- The port a code names (R184). -/
def Port.ofCode : Nat → Option Port
  | 1 => some .a
  | 2 => some .b
  | 3 => some .observation1
  | 4 => some .observation2
  | _ => none

/-- The projector a reel entry's code names (R181). -/
def Side.ofCode : Nat → Option Side
  | 1 => some .a
  | 2 => some .b
  | _ => none

/-- The port shutter in front of a projector: A's is A, B's is B (00_scope, section 7). -/
def Side.port : Side → Port
  | .a => .a
  | .b => .b

/-- The settings are numbered 1 to 45; HALT_k is setting 30 + k (R169). -/
def settingCount : Nat := 45

/-- Data character Dn of a request, 0 where the entry is short (R5: only a BAD entry is). -/
def dataChar (data : List Nat) (n : Nat) : Nat := data.getD (n - 1) 0

/-- A two-character number whose high character is Dn (R182). -/
def dataPair (data : List Nat) (n : Nat) : Nat := dataChar data n * 256 + dataChar data (n + 1)

/-- A three-character number whose high character is Dn (R182). -/
def dataTriple (data : List Nat) (n : Nat) : Nat := dataPair data n * 256 + dataChar data (n + 2)

/-- The reel entry whose first character is Dn (R181): bit 16 of E and bit 8 of P ride in the second character. -/
def dataEntry (data : List Nat) (n : Nat) : ReelEntry :=
  let flags := dataChar data (n + 1)
  { reel := dataChar data n
    projector := flags % 4
    endFrame := (flags / 8 % 2) * 65536 + dataPair data (n + 2)
    leader := (flags / 4 % 2) * 256 + dataChar data (n + 4)
    last := flags / 64 % 2 == 1
    intermission := flags / 128 % 2 == 1 }

/-- The number of ones among the eight data bits of a character. -/
def Character.ones (c : Character) : Nat := (List.range 8).countP fun i => c.getLsbD i

/-- A parity error: an odd count of ones among the eight data bits and the parity bit (R179). -/
def SlotCharacter.parityError (c : SlotCharacter) : Bool :=
  (Character.ones c.value + (if c.parityBit then 1 else 0)) % 2 == 1

/-- A framing error: a stop bit sampled at space (R179). -/
def SlotCharacter.framingError (c : SlotCharacter) : Bool := !c.stopBit

/-- The command a word of the opcode table spells: the table gives no row any bits, so none (log entry 2). -/
def decodeTableWord (_nbits _w : Nat) : Option Instr := none

end Sys2Proof
end

