-- ==== Sys2Proof/Machine/State.lean ====
section
/-! DEFINITION. The state of the controller, block by block as 00_scope section 3 divides it, and its value right after
reset. Plain data. -/

namespace Sys2Proof.Machine

open Sys2Proof

/-- A timer: stopped, or running with the line periods left until the boundary at which it expires (00_scope,
section 7, Time). -/
abbrev Timer := Option Nat

/-- How the periods of a timer that is read back lie against the time it has left (log entry 14): whole for one started
at a boundary; fresh for one started between two boundaries, until the first boundary after; and offset from then on. -/
inductive Phase where
  | whole
  | fresh
  | offset
deriving DecidableEq, Repr

/-- The time left of a timer that is read back: the line periods left, as in `Timer`, and how they lie. -/
structure TimeLeft where
  periods : Nat
  phase : Phase
deriving DecidableEq, Repr

/-- A timer that a READ gives back: stopped, or running (R87, R123, R178). -/
abbrev ReadTimer := Option TimeLeft

/-! ### The line unit (chapter 1) -/

/-- An entry of an inbound queue or of the priority lane (R5). -/
structure Entry where
  station : Station
  bad : Bool
  kind : Nat
  target : Nat
  data : List Nat
deriving DecidableEq, Repr

/-- The record of one station (R6), with its inbound queue, oldest entry first (R7). -/
structure StationRecord where
  role : Role
  locked : Bool
  hold : Bool
  overrun : Bool
  badEntry : Bool
  queue : List Entry
deriving DecidableEq, Repr

/-- The statuses of an answer (R40). -/
inductive Status where
  | done
  | clamped
  | heldAuto
  | heldManual
  | refusedRole
  | refusedLocked
  | refusedState
  | refusedRange
  | refusedFormat
  | refusedBusy
  | full
  | lineFault
deriving DecidableEq, Repr

/-- An answer waiting in the reply queue (R15): A1 to A4 as one 32-bit number, A1 highest. The overrun note is put on
as the answer is sent (R12), and the check is worked out then. -/
structure Answer where
  station : Station
  kind : Nat
  status : Status
  data : Nat
deriving DecidableEq, Repr

/-- The line unit: the station table, the priority lane (R13) and the reply queue (R15), oldest first, whether the line
is broken (R19), and the characters of the last outbound frame (R180), none before the first. -/
structure LineUnit where
  stations : Vector StationRecord 6
  lane : List Entry
  replies : List Answer
  broken : Bool
  frame : List Character
deriving DecidableEq, Repr

/-! ### The reel list (chapter 3) -/

/-- Where a record stands in the show (R44). -/
inductive RecordStatus where
  | waiting
  | bound
  | running
  | showing
  | shown
  | interrupted
  | skipped
deriving DecidableEq, Repr

/-- The house cue of a record (R41). -/
structure HouseCue where
  point : Nat
  level : Nat
  ramp : Nat
deriving DecidableEq, Repr

/-- A reel record (R41). -/
structure Reel where
  number : Nat
  projector : Side
  endFrame : Nat
  leader : Nat
  last : Bool
  intermission : Bool
  cue : Option HouseCue
  cueTaken : Bool
  measuredEnd : Option Nat
  status : RecordStatus
deriving DecidableEq, Repr

/-- The reel list: the records in show order (R42), the format code and the fault reel of the last evaluation (R54). -/
structure ReelList where
  records : List Reel
  code : Nat
  faultReel : Nat
deriving DecidableEq, Repr

/-! ### The projector units (chapters 4 and 8) -/

/-- The projector states (R59). -/
inductive ProjectorState where
  | idle
  | threaded
  | inching
  | starting
  | running
  | onScreen
  | runout
  | stopped
  | broken
deriving DecidableEq, Repr

/-- A projector unit (R59, R60, R154, R155). `window` holds the pulses of the last 40 line periods, oldest first, and
`pulses` those of the period under way; `lossCheck` marks a projector that has gone to INCHING or STARTING since the
last boundary (R151). -/
structure Projector where
  state : ProjectorState
  f : Nat
  rate : Nat
  window : List Nat
  pulses : Nat
  motorRunning : Bool
  dowserOpen : Bool
  startPending : Bool
  startFade : Bool
  inchCount : Nat
  marks : Nat
  windowOpen : Bool
  inchTimer : Timer
  runUpTimer : Timer
  filmLoss : Contact
  gate : Contact
  stall : Nat
  lossCheck : Bool
deriving DecidableEq, Repr

/-! ### The changeover sequencer (chapters 4 and 5) -/

/-- The automation states (R70). -/
inductive Automation where
  | off
  | engaged
  | halted
deriving DecidableEq, Repr

/-- Whether a countdown was evaluated and gave a number (R88). -/
inductive CountdownState where
  | none
  | ordered
  | unordered
deriving DecidableEq, Repr

/-- The countdown record (R88). -/
structure Countdown where
  state : CountdownState
  n : Option Nat
  t : Option Nat
  overrun : Bool
  unordered : Bool
  inexact : Bool
  saturated : Bool
  raised : Bool
deriving DecidableEq, Repr

/-- A strike withheld for a short rod (R75): the lamp, the reel it was made for, and the outgoing projector of a strike
test, or none for a show start. -/
structure Withholding where
  lamp : Side
  reel : Nat
  outgoing : Option Side
deriving DecidableEq, Repr

/-- The changeover sequencer (R70). -/
structure Sequencer where
  automation : Automation
  strikeTaken : Bool
  motorTaken : Bool
  swapReached : Bool
  swapDue : Bool
  withholding : Option Withholding
  douse : Both ReadTimer
  countdown : Countdown
deriving DecidableEq, Repr

/-! ### The lamp units (chapter 6) -/

/-- The lamp states (R103). -/
inductive LampState where
  | dark
  | settling
  | striking
  | warming
  | lit
deriving DecidableEq, Repr

/-- The modes of a function (R33). -/
inductive Mode where
  | manual
  | auto
  | trim
deriving DecidableEq, Repr

/-- A lamp unit (R103); `feedClock` is the feed interval clock (R113). -/
structure Lamp where
  state : LampState
  rectifierClosed : Bool
  iset : Nat
  strikerClosed : Bool
  attempt : Nat
  mode : Mode
  f : Nat
  amperes : Nat
  volts : Nat
  stock : Nat
  fed : Nat
  carry : Nat
  rodValid : Bool
  highLimit : Bool
  lowLimit : Bool
  rodOut : Bool
  lowCurrent : Nat
  highClamp : Nat
  lowClamp : Nat
  trimIntervals : Nat
  trimConverge : Nat
  settlingTimer : Timer
  attemptTimer : Timer
  waitTimer : Timer
  warmTimer : ReadTimer
  feedClock : Timer
deriving DecidableEq, Repr

/-! ### The house unit (chapter 7) -/

/-- The record of one lighting channel (R124). A ramp is running exactly while it has a step. -/
structure Light where
  level : Nat
  target : Nat
  step : Option Nat
  mode : Mode
deriving DecidableEq, Repr

/-- The house unit: its two channels. -/
structure HouseUnit where
  house : Light
  aisle : Light
deriving DecidableEq, Repr

/-! ### The fire unit (chapter 8) -/

/-- The fire states (R145). -/
inductive FireState where
  | clear
  | alert
  | dropped
  | resetPending
deriving DecidableEq, Repr

/-- The states of a shutter (R139). -/
inductive ShutterState where
  | down
  | raising
  | up
  | falling
  | jammed
deriving DecidableEq, Repr

/-- The record of one port shutter (R138). -/
structure Shutter where
  state : ShutterState
  latchHolding : Bool
  motorRunning : Bool
  fallTimer : Timer
  raiseTimer : Timer
deriving DecidableEq, Repr

/-- The fire unit (R138). -/
structure FireUnit where
  state : FireState
  link : FireLink
  a : Shutter
  b : Shutter
  observation1 : Shutter
  observation2 : Shutter
  stations : Nat
deriving DecidableEq, Repr

/-! ### The condition unit (chapter 9) -/

/-- The fifteen conditions, in order of priority (R156). -/
inductive Condition where
  | fire
  | filmBreak
  | arcOut
  | gateTrip
  | missedChangeover
  | fireAlert
  | shutterJam
  | strikeFail
  | startFail
  | rodShort
  | unordered
  | trimFailed
  | strayCue
  | lineFault
  | storeLost
deriving DecidableEq, Repr

/-- The unit of a detail (R156). -/
inductive DetailUnit where
  | nothing
  | projector (p : Side)
  | lamp (l : Side)
  | port (q : Port)
  | station (n : Station)
deriving DecidableEq, Repr

/-- The detail of a condition: a unit, an F and a T, each present or absent (R156). -/
structure Detail where
  unit : DetailUnit
  f : Option Nat
  t : Option Nat
deriving DecidableEq, Repr

/-- A condition record (R156). Its current flag follows its cause and is worked out from it (R157, log entry 5). -/
structure ConditionRecord where
  accrued : Bool
  detail : Detail
deriving DecidableEq, Repr

/-! ### The settings store (chapter 10) -/

/-- The ten settings of one lamp, in the order of their numbers (R169). -/
structure LampSettings where
  vt : Nat
  gain : Nat
  burn : Nat
  dead : Nat
  fmax : Nat
  inom : Nat
  imin : Nat
  manualRate : Nat
  warm : Nat
  reserve : Nat
deriving DecidableEq, Repr

/-- The forty-five settings (R169); `halts` holds HALT_3 to HALT_15. -/
structure Settings where
  sLead : Nat
  runUp : Nat
  cueWindow : Nat
  douse : Nat
  stall : Nat
  rounding : Nat
  lamp : Both LampSettings
  showLevel : Nat
  intermissionLevel : Nat
  breakLevel : Nat
  aisleMin : Nat
  showRamp : Nat
  endRamp : Nat
  halts : Vector Nat 13
deriving DecidableEq, Repr

/-- A save in progress: the channel, the image taken and the save timer (R173, R174). -/
structure SaveJob where
  channel : Nat
  image : Settings
  timer : TimeLeft
deriving DecidableEq, Repr

/-- The settings store (R173): the working settings, the retained store and the working flags. Channel 0 is the factory
defaults and is fixed. -/
structure Store where
  working : Settings
  channel1 : Settings
  channel2 : Settings
  channel3 : Settings
  startChannel : Nat
  checkGood : Bool
  save : Option SaveJob
  rebuilt : Bool
deriving DecidableEq, Repr

/-! ### The whole -/

/-- The state of the controller. `rotation` is the request unit's rotation pointer (R17); `pending` holds the commands
that wait, first in, first out, and is the model's own (log entry 1). -/
structure State where
  line : LineUnit
  rotation : Station
  reels : ReelList
  proj : Both Projector
  seq : Sequencer
  lamp : Both Lamp
  lights : HouseUnit
  fire : FireUnit
  cond : Vector ConditionRecord 15
  store : Store
  pending : List Instr
deriving DecidableEq, Repr

/-- Why the machine would stop. No rule of the spec stops the controller, so there is no constructor: no command of the
model ever answers a fault. -/
inductive Fault where
deriving DecidableEq, Repr

/-- Why a command has no meaning. -/
inductive Refusal where
  /-- Raised by an arm of `exec` whose command has no meaning yet; safe, for the machine stops there. No arm raises it
  now. -/
  | notModelled (mnemonic : String)
deriving DecidableEq, Repr

/-! ### The values after reset -/

/-- The factory defaults of one lamp (R169). -/
def LampSettings.factory : LampSettings :=
  { vt := 560, gain := 12, burn := 18, dead := 10, fmax := 160, inom := 80, imin := 60, manualRate := 90, warm := 80,
    reserve := 20 }

/-- The factory defaults: channel 0 (R169). -/
def Settings.factory : Settings :=
  { sLead := 200, runUp := 15, cueWindow := 300, douse := 50, stall := 32, rounding := 0
    lamp := { a := LampSettings.factory, b := LampSettings.factory }
    showLevel := 0, intermissionLevel := 60, breakLevel := 30, aisleMin := 15, showRamp := 100, endRamp := 80
    halts := #v[1, 1, 1, 0, 0, 0, 1, 0, 0, 0, 0, 0, 0] }

/-- A station record at power-on (R6). -/
def StationRecord.powerOn (role : Role) : StationRecord :=
  { role := role, locked := false, hold := false, overrun := false, badEntry := false, queue := [] }

/-- A projector unit at power-on (R59), with its two switches as sensed (log entry 13). -/
def Projector.powerOn (filmLoss gate : Contact) : Projector :=
  { state := .idle, f := 0, rate := 0, window := [], pulses := 0, motorRunning := false, dowserOpen := false
    startPending := false, startFade := false, inchCount := 0, marks := 0, windowOpen := false, inchTimer := none
    runUpTimer := none, filmLoss := filmLoss, gate := gate, stall := 0, lossCheck := false }

/-- The countdown record when none is evaluated (R88). -/
def Countdown.absent : Countdown :=
  { state := .none, n := none, t := none, overrun := false, unordered := false, inexact := false, saturated := false
    raised := false }

/-- The changeover sequencer after both resets (R70). -/
def Sequencer.reset : Sequencer :=
  { automation := .off, strikeTaken := false, motorTaken := false, swapReached := false, swapDue := false
    withholding := none, douse := { a := none, b := none }, countdown := Countdown.absent }

/-- A lamp unit at power-on (R103). -/
def Lamp.powerOn : Lamp :=
  { state := .dark, rectifierClosed := false, iset := 0, strikerClosed := false, attempt := 0, mode := .manual, f := 0
    amperes := 0, volts := 0, stock := 0, fed := 0, carry := 0, rodValid := false, highLimit := false
    lowLimit := false, rodOut := false, lowCurrent := 0, highClamp := 0, lowClamp := 0, trimIntervals := 0
    trimConverge := 0, settlingTimer := none, attemptTimer := none, waitTimer := none, warmTimer := none
    feedClock := none }

/-- A lighting channel after both resets (R124). -/
def Light.reset : Light := { level := 1600, target := 1600, step := none, mode := .manual }

/-- A shutter at power-on (R138): DOWN if its DOWN switch is closed, else JAMMED. -/
def Shutter.powerOn (downSwitch : Contact) : Shutter :=
  { state := if downSwitch = .closed then .down else .jammed
    latchHolding := false, motorRunning := false, fallTimer := none, raiseTimer := none }

/-- An empty detail (R156). -/
def Detail.empty : Detail := { unit := .nothing, f := none, t := none }

/-- A condition record with nothing accrued (R168). -/
def ConditionRecord.clear : ConditionRecord := { accrued := false, detail := Detail.empty }

/-- The retained store as it left the factory, loaded (R176, log entry 13). -/
def Store.factory : Store :=
  { working := Settings.factory, channel1 := Settings.factory, channel2 := Settings.factory
    channel3 := Settings.factory, startChannel := 0, checkGood := true, save := none, rebuilt := false }

/-- The controller right after power-on, in the house of chapter 12 (console, house panel, programmer and fire panel at
stations 1 to 4, no station at 5 and 6), with the link intact, every shutter on its DOWN switch and the store good
(log entry 13). -/
def State.reset : State :=
  { line :=
      { stations := #v[StationRecord.powerOn .console, StationRecord.powerOn .house, StationRecord.powerOn .programmer,
          StationRecord.powerOn .fire, StationRecord.powerOn .absent, StationRecord.powerOn .absent]
        lane := [], replies := [], broken := false, frame := [] }
    rotation := 5
    reels := { records := [], code := 1, faultReel := 0 }
    proj := { a := Projector.powerOn .closed .closed, b := Projector.powerOn .closed .closed }
    seq := Sequencer.reset
    lamp := { a := Lamp.powerOn, b := Lamp.powerOn }
    lights := { house := Light.reset, aisle := Light.reset }
    fire :=
      { state := .clear, link := .intact, a := Shutter.powerOn .closed, b := Shutter.powerOn .closed
        observation1 := Shutter.powerOn .closed, observation2 := Shutter.powerOn .closed, stations := 1 }
    cond := Vector.replicate 15 ConditionRecord.clear
    store := Store.factory
    pending := [] }

end Sys2Proof.Machine
end

