-- ==== Sys2Proof/Machine/Ops.lean ====
section
/-! DEFINITION. The named operations over the state: one update for each block, timers, and the arithmetic of
00_scope section 5. -/

namespace Sys2Proof.Machine

open Sys2Proof

/-- What `exec` and `step` answer. -/
abbrev Result := Host.Outcome State Fault Refusal

/-! ### Arithmetic (00_scope, section 5) -/

/-- Division rounded up: the least whole number not below the quotient. -/
def divUp (n d : Nat) : Nat := (n + d - 1) / d

/-- A value brought within a range, at the nearer limit (R37). -/
def clamp (low high v : Nat) : Nat := if v < low then low else if high < v then high else v

/-- The highest film position; F does not wrap (R60). -/
def maxF : Nat := 131071

/-! ### One update for each block -/

/-- The line unit changed by `g`. -/
def State.onLine (s : State) (g : LineUnit → LineUnit) : State := { s with line := g s.line }

/-- The record of one station changed by `g`. -/
def State.onStation (s : State) (n : Station) (g : StationRecord → StationRecord) : State :=
  s.onLine fun u => { u with stations := u.stations.set n (g u.stations[n]) }

/-- The reel list changed by `g`. -/
def State.onReels (s : State) (g : ReelList → ReelList) : State := { s with reels := g s.reels }

/-- One projector unit changed by `g`. -/
def State.onProj (s : State) (p : Side) (g : Projector → Projector) : State :=
  { s with proj := s.proj.set p (g (s.proj.get p)) }

/-- The changeover sequencer changed by `g`. -/
def State.onSeq (s : State) (g : Sequencer → Sequencer) : State := { s with seq := g s.seq }

/-- One lamp unit changed by `g`. -/
def State.onLamp (s : State) (l : Side) (g : Lamp → Lamp) : State :=
  { s with lamp := s.lamp.set l (g (s.lamp.get l)) }

/-- The record of one channel. -/
def HouseUnit.get (u : HouseUnit) : Channel → Light
  | .house => u.house
  | .aisle => u.aisle

/-- The house unit with the record of one channel replaced. -/
def HouseUnit.set (u : HouseUnit) (c : Channel) (x : Light) : HouseUnit :=
  match c with
  | .house => { u with house := x }
  | .aisle => { u with aisle := x }

/-- One lighting channel changed by `g`. -/
def State.onLight (s : State) (c : Channel) (g : Light → Light) : State :=
  { s with lights := s.lights.set c (g (s.lights.get c)) }

/-- The fire unit changed by `g`. -/
def State.onFire (s : State) (g : FireUnit → FireUnit) : State := { s with fire := g s.fire }

/-- The record of one shutter. -/
def FireUnit.get (u : FireUnit) : Port → Shutter
  | .a => u.a
  | .b => u.b
  | .observation1 => u.observation1
  | .observation2 => u.observation2

/-- The fire unit with the record of one shutter replaced. -/
def FireUnit.set (u : FireUnit) (q : Port) (x : Shutter) : FireUnit :=
  match q with
  | .a => { u with a := x }
  | .b => { u with b := x }
  | .observation1 => { u with observation1 := x }
  | .observation2 => { u with observation2 := x }

/-- One shutter changed by `g`. -/
def State.onShutter (s : State) (q : Port) (g : Shutter → Shutter) : State :=
  s.onFire fun u => u.set q (g (u.get q))

/-- The settings store changed by `g`. -/
def State.onStore (s : State) (g : Store → Store) : State := { s with store := g s.store }

/-- The condition records replaced. -/
def State.withConditions (s : State) (v : Vector ConditionRecord 15) : State := { s with cond := v }

/-! ### Timers (00_scope, section 7, Time) -/

/-- When an event falls: in the work of a period boundary, or between two boundaries. -/
inductive Moment where
  | atBoundary
  | between
deriving DecidableEq, Repr

/-- A timer started at a boundary has its first period counted at the next; one started between two boundaries runs past
one boundary more before its time is up, since it expires at the first boundary at or after that time. -/
def Moment.extra : Moment → Nat
  | .atBoundary => 0
  | .between => 1

/-- A timer started for a number of tenths; a line period is half a tenth. -/
def startTimer (tenths : Nat) (m : Moment) : Timer := some (tenths * 2 + m.extra)

/-- The timer is in its last period: the boundary now coming, or being worked, is the one at which it expires. -/
def Timer.due : Timer → Bool
  | none => false
  | some n => n ≤ 1

/-- One boundary's counting of a timer that does not expire at it. -/
def Timer.counted : Timer → Timer
  | none => none
  | some n => some (n - 1)

/-- How the periods of a timer lie that is started at a moment. -/
def Moment.phase : Moment → Phase
  | .atBoundary => .whole
  | .between => .fresh

/-- The time left of a timer that is read back, as it starts. -/
def startTimeLeft (tenths : Nat) (m : Moment) : TimeLeft := { periods := tenths * 2 + m.extra, phase := m.phase }

/-- The time left is in its last period. -/
def TimeLeft.due (x : TimeLeft) : Bool := x.periods ≤ 1

/-- A timer that is read back is in its last period. -/
def ReadTimer.due (x : ReadTimer) : Bool := x.any TimeLeft.due

/-- A boundary has passed since the start. -/
def Phase.passed : Phase → Phase
  | .fresh => .offset
  | x => x

/-- One boundary's counting of a time left that does not end at it. -/
def TimeLeft.counted (x : TimeLeft) : TimeLeft := { periods := x.periods - 1, phase := x.phase.passed }

/-- One boundary's counting of a timer that is read back and does not expire at it. -/
def ReadTimer.counted (x : ReadTimer) : ReadTimer := x.map TimeLeft.counted

/-- A number of periods read in whole tenths, a part of a tenth upward or downward (log entry 14). -/
def roundedTenths (periods : Nat) : Nat :=
  if Config.partTenthReadsUp periods then (periods + 1) / 2 else (periods + 1) / 2 - 1

/-- The tenths left as a READ gives them: a whole number of tenths is read so, as one just started always is, and a part of
a tenth either way (log entry 14). -/
def TimeLeft.tenths (x : TimeLeft) : Nat :=
  match x.phase with
  | .whole => if x.periods % 2 = 0 then x.periods / 2 else roundedTenths x.periods
  | .fresh => x.periods / 2
  | .offset => roundedTenths x.periods

/-- The inch timer: 6.0 s (R62). -/
def inchTenths : Nat := 60
/-- The run-up timer: 6.0 s (R63). -/
def runUpTenths : Nat := 60
/-- The settling timer: 2.0 s (R105). -/
def settlingTenths : Nat := 20
/-- The attempt timer: 3.0 s (R108). -/
def attemptTenths : Nat := 30
/-- The wait timer between attempts: 2.0 s (R108). -/
def waitTenths : Nat := 20
/-- The fall timer: 1.5 s (R140). -/
def fallTenths : Nat := 15
/-- The raise timer: 4.0 s (R141). -/
def raiseTenths : Nat := 40
/-- The save timer: 1.0 s (R174). -/
def saveTenths : Nat := 10
/-- The ramp of the break fade: 20 tenths (R134). -/
def breakTenths : Nat := 20
/-- Ten periods between two feed intervals (R113). -/
def feedPeriods : Nat := 10

end Sys2Proof.Machine
end

