-- ==== Sys2Proof/Machine/Countdown.lean ====
section
/-! DEFINITION. The arithmetic of chapter 5: the evaluator stage by stage, the motor lead and the rod need. -/

namespace Sys2Proof.Machine

open Sys2Proof

/-- The four classes of a remainder (R91). -/
inductive RemainderClass where
  | exact
  | belowHalf
  | half
  | aboveHalf
deriving DecidableEq, Repr

/-- The fourth stage: the class of the remainder `r` of a division by `rate` (R91). -/
def remainderClass (r rate : Nat) : RemainderClass :=
  if r = 0 then .exact
  else if 2 * r < rate then .belowHalf
  else if 2 * r = rate then .half
  else .aboveHalf

/-- The fifth stage: what each rounding adds to the quotient `q` (R92). The rounding is held as its code: 0 NEAREST,
1 EARLY, 2 LATE (R169). -/
def roundingAdds (rounding q : Nat) (c : RemainderClass) : Nat :=
  match rounding, c with
  | _, .exact => 0
  | 0, .belowHalf => 0
  | 0, .half => q % 2
  | 0, .aboveHalf => 1
  | 1, _ => 0
  | _, _ => 1

/-- The largest countdown that is carried (R93). -/
def maxT : Nat := 9999

/-- The six stages of one evaluation (R89 to R93): F, the effective end and RATE, with the working STALL and ROUNDING.
`raised` is the unordered-raised flag as it stood: an ordered evaluation clears it and an unordered one keeps it
(R97). -/
def evaluate (f effectiveEnd rate stall rounding : Nat) (raised : Bool) : Countdown :=
  let n := effectiveEnd - f
  let overrun := decide (effectiveEnd ≤ f)
  if rate < stall then
    { state := .unordered, n := some n, t := none, overrun := overrun, unordered := true, inexact := false
      saturated := false, raised := raised }
  else
    let q := 20 * n / rate
    let c := remainderClass (20 * n % rate) rate
    let rounded := q + roundingAdds rounding q c
    { state := .ordered, n := some n, t := some (min rounded maxT), overrun := overrun, unordered := false
      inexact := decide (c ≠ .exact), saturated := decide (maxT < rounded), raised := false }

/-- The motor lead of a record: P × 10 / 24 rounded up, plus RUNUP (R100). -/
def motorLead (r : Reel) (t : Settings) : Nat := divUp (r.leader * 10) 24 + t.runUp

/-- The rod need of a record, in micrometres, for the settings of its projector's lamp (R101). DESIGN CHOICE (log entry
29): a picture length E − P below 0, which R101 does not have, is taken as 0. -/
def rodNeed (r : Reel) (x : LampSettings) : Nat :=
  let burnRate := divUp (x.inom * x.burn) 16
  let burn := divUp ((r.endFrame - r.leader) * burnRate) 24
  min (burn + x.reserve * 1000) 999999

/-- The cue window's fallback in frames: CUE_WINDOW × 24 / 10, rounded down (R98). -/
def windowFrames (t : Settings) : Nat := t.cueWindow * 24 / 10

end Sys2Proof.Machine
end

