-- ==== Sys2Proof/Machine/Format.lean ====
section
/-! DEFINITION. What the reel list derives from its records: binding, the remaining show, linked pairs, the next
record, and the six format checks (chapter 3). -/

namespace Sys2Proof.Machine

open Sys2Proof

/-- A record is bound exactly while its status is BOUND, RUNNING or SHOWING (R44). -/
def Reel.isBound (r : Reel) : Bool :=
  match r.status with
  | .bound => true
  | .running => true
  | .showing => true
  | _ => false

/-- The effective end: Em when present, otherwise E (R41). -/
def Reel.effectiveEnd (r : Reel) : Nat := r.measuredEnd.getD r.endFrame

/-- A record that is neither SHOWN nor SKIPPED (R43). -/
def Reel.remains (r : Reel) : Bool :=
  match r.status with
  | .shown => false
  | .skipped => false
  | _ => true

/-- The remaining show, in show order (R43). -/
def remainingShow (records : List Reel) : List Reel := records.filter Reel.remains

/-- The linked pairs of the remaining show, in show order (R43). -/
def linkedPairs (records : List Reel) : List (Reel × Reel) :=
  let rest := remainingShow records
  (rest.zip rest.tail).filter fun x => !x.1.intermission

/-- The record of a reel number. -/
def findReel (records : List Reel) (n : Nat) : Option Reel := records.find? fun r => r.number == n

/-- The record bound to a projector (R44). -/
def boundTo (records : List Reel) (p : Side) : Option Reel :=
  records.find? fun r => decide (r.projector = p) && r.isBound

/-- The next record for a projector (R43). -/
def nextFor (records : List Reel) (p : Side) : Option Reel :=
  (remainingShow records).find? fun r => decide (r.projector = p)

/-- The record that follows a record in a linked pair (R43, R73). -/
def incomingOf (records : List Reel) (outgoing : Reel) : Option Reel :=
  ((linkedPairs records).find? fun x => x.1.number == outgoing.number).map (·.2)

/-- The position of a record in the list, from 1 (R42); 0 when there is none. -/
def positionOf (records : List Reel) (n : Nat) : Nat :=
  match records.findIdx? (fun r => r.number == n) with
  | some i => i + 1
  | none => 0

/-- Check 3 for one record (R54). -/
def longEnough (r : Reel) : Bool := decide (r.leader + 240 ≤ r.endFrame)

/-- Check 4 for the first record of a linked pair (R54). -/
def strikeLeadFits (t : Settings) (r : Reel) : Bool := decide (t.sLead ≤ (r.endFrame - r.leader) * 10 / 24)

/-- Check 5 for an incoming record (R54). -/
def motorLeadFits (t : Settings) (r : Reel) : Bool :=
  decide (motorLead r t + (t.lamp.get r.projector).warm ≤ t.sLead)

/-- Check 6 for one record (R54). -/
def cueFits (r : Reel) : Bool :=
  match r.cue with
  | none => true
  | some c => decide (c.point ≤ r.endFrame - r.leader)

/-- The six format checks in order: the format code and the fault reel (R54). -/
def formatCheck (t : Settings) (records : List Reel) : Nat × Nat :=
  let rest := remainingShow records
  let pairs := linkedPairs records
  if rest.isEmpty then (1, 0)
  else
    match pairs.find? fun x => decide (x.1.projector = x.2.projector) with
    | some x => (2, x.2.number)
    | none =>
      match rest.find? fun r => !longEnough r with
      | some r => (3, r.number)
      | none =>
        match pairs.find? fun x => !strikeLeadFits t x.1 with
        | some x => (4, x.1.number)
        | none =>
          match pairs.find? fun x => !motorLeadFits t x.2 with
          | some x => (5, x.2.number)
          | none =>
            match rest.find? fun r => !cueFits r with
            | some r => (6, r.number)
            | none => (0, 0)

end Sys2Proof.Machine
end

