-- ==== Sys2Proof/Machine/Flags.lean ====
section
/-! DEFINITION. The flags and levels the blocks work out from what they hold: readiness, the current flags and the
attention level of the conditions, the detail of a raise, and the marks of an inbound queue. -/

namespace Sys2Proof.Machine

open Sys2Proof

/-! ### The screen and the fire state -/

/-- The projector is ON_SCREEN. -/
def State.onScreen (s : State) (p : Side) : Bool := decide ((s.proj.get p).state = .onScreen)

/-- The outgoing projector: the one that is ON_SCREEN (R73). -/
def State.outgoing (s : State) : Option Side :=
  if s.onScreen .a then some .a else if s.onScreen .b then some .b else none

/-- The fire state is CLEAR or ALERT. -/
def State.fireAllows (s : State) : Bool :=
  match s.fire.state with
  | .clear => true
  | .alert => true
  | _ => false

/-- The projector's lamp is LIT, its port shutter UP and the fire state CLEAR or ALERT: what every entry to ON_SCREEN
requires (R66). -/
def State.screenAllowed (s : State) (p : Side) : Bool :=
  decide ((s.lamp.get p).state = .lit) && decide ((s.fire.get p.port).state = .up) && s.fireAllows

/-- The projector is ready (R66). -/
def State.ready (s : State) (p : Side) : Bool :=
  decide ((s.proj.get p).state = .running) && s.screenAllowed p

/-- What OPEN requires (R65). -/
def State.openAllowed (s : State) (p : Side) : Bool := s.ready p && !s.onScreen p.other

/-- The states in which film is driven past the roller, and from which a stop is made (R64, R151). -/
def ProjectorState.moving : ProjectorState → Bool
  | .inching => true
  | .starting => true
  | .running => true
  | .onScreen => true
  | .runout => true
  | _ => false

/-- The record bound to a projector (R44). -/
def State.boundReel (s : State) (p : Side) : Option Reel := boundTo s.reels.records p

/-- F of a projector has reached the effective end of its bound record (R151). With no record bound the model takes the
reel as at its end; no reachable state drives film with none (log entry 11). -/
def State.atEnd (s : State) (p : Side) : Bool :=
  match s.boundReel p with
  | some r => decide (r.effectiveEnd ≤ (s.proj.get p).f)
  | none => true

/-! ### Conditions -/

/-- The place of a condition's record. -/
def Condition.index : Condition → Fin 15
  | .fire => 0
  | .filmBreak => 1
  | .arcOut => 2
  | .gateTrip => 3
  | .missedChangeover => 4
  | .fireAlert => 5
  | .shutterJam => 6
  | .strikeFail => 7
  | .startFail => 8
  | .rodShort => 9
  | .unordered => 10
  | .trimFailed => 11
  | .strayCue => 12
  | .lineFault => 13
  | .storeLost => 14

/-- The fifteen conditions in order of priority (R156). -/
def allConditions : List Condition :=
  [.fire, .filmBreak, .arcOut, .gateTrip, .missedChangeover, .fireAlert, .shutterJam, .strikeFail, .startFail, .rodShort,
    .unordered, .trimFailed, .strayCue, .lineFault, .storeLost]

/-- The number of a condition, 1 to 15 (R156). -/
def Condition.number (k : Condition) : Nat := k.index.val + 1

/-- The record of a condition. -/
def State.record (s : State) (k : Condition) : ConditionRecord := s.cond[k.index]

/-- A station's bad-entry flag is set (R11). -/
def State.anyBadEntry (s : State) : Bool := s.line.stations.toList.any StationRecord.badEntry

/-- The current flag of a condition: whether its cause stands (R156, R157). The nine conditions that have none are never
current. -/
def State.current (s : State) : Condition → Bool
  | .fire => !s.fireAllows
  | .filmBreak => decide (s.proj.a.state = .broken) || decide (s.proj.b.state = .broken)
  | .fireAlert => decide (s.fire.state = .alert)
  | .rodShort => s.seq.withholding.isSome
  | .unordered => decide (s.seq.countdown.state = .unordered)
  | .lineFault => s.line.broken || s.anyBadEntry
  | _ => false

/-- The attention level: the number of the first condition in order of priority that is accrued, or 0 (R161). -/
def State.attention (s : State) : Nat :=
  match allConditions.find? fun k => (s.record k).accrued with
  | some k => k.number
  | none => 0

/-- A raise of the condition halts: FIRE and FILM_BREAK always, the others by their halt setting (R159). -/
def haltsAutomation (t : Settings) (k : Condition) : Bool :=
  match k with
  | .fire => true
  | .filmBreak => true
  | k => t.halts[k.number - 3]?.getD 0 == 1

/-- The T a detail carries: that of the countdown record while it is ORDERED (R95). -/
def State.detailT (s : State) : Option Nat :=
  if s.seq.countdown.state = .ordered then s.seq.countdown.t else none

/-! ### The marks of a queue -/

/-- The hold mark after a change of depth (R10). -/
def holdAfter (hold : Bool) (depth : Nat) : Bool :=
  if 6 ≤ depth then true else if depth ≤ 2 then false else hold

/-- A station record whose queue has changed: hold mark and bad-entry flag brought up to date (R10, R11). -/
def StationRecord.withQueue (x : StationRecord) (q : List Entry) : StationRecord :=
  { x with queue := q, hold := holdAfter x.hold q.length, badEntry := q.any Entry.bad }

/-! ### Reported levels -/

/-- The reported level of a channel in whole percent (R125). -/
def Light.reported (x : Light) : Nat := (x.level + 8) / 16

/-- The rod stock in whole millimetres (R2). -/
def Lamp.stockMillimetres (x : Lamp) : Nat := x.stock / 1000

end Sys2Proof.Machine
end

