-- ==== Sys2Proof/Machine/SettingTable.lean ====
section
/-! DEFINITION. The table of the forty-five settings (R169): value, range and change by number, the dependent
changes of R172, and the preset channels (R173). -/

namespace Sys2Proof.Machine

open Sys2Proof

/-- The value of a lamp setting by its place 1 to 10 in the table (R169). -/
def LampSettings.value (x : LampSettings) : Nat → Nat
  | 1 => x.vt
  | 2 => x.gain
  | 3 => x.burn
  | 4 => x.dead
  | 5 => x.fmax
  | 6 => x.inom
  | 7 => x.imin
  | 8 => x.manualRate
  | 9 => x.warm
  | 10 => x.reserve
  | _ => 0

/-- A lamp's settings with one changed, and IMIN and the manual rate kept within INOM and FMAX (R172). -/
def LampSettings.change (x : LampSettings) (k v : Nat) : LampSettings :=
  match k with
  | 1 => { x with vt := v }
  | 2 => { x with gain := v }
  | 3 => { x with burn := v }
  | 4 => { x with dead := v }
  | 5 => { x with fmax := v, manualRate := min x.manualRate v }
  | 6 => { x with inom := v, imin := min x.imin v }
  | 7 => { x with imin := v }
  | 8 => { x with manualRate := v }
  | 9 => { x with warm := v }
  | 10 => { x with reserve := v }
  | _ => x

/-- The range of a lamp setting, a limit that is another setting taken at its working value (R169). -/
def LampSettings.range (x : LampSettings) : Nat → Nat × Nat
  | 1 => (400, 700)
  | 2 => (0, 32)
  | 3 => (4, 40)
  | 4 => (0, 50)
  | 5 => (50, 255)
  | 6 => (40, 160)
  | 7 => (30, x.inom)
  | 8 => (0, x.fmax)
  | 9 => (30, 300)
  | 10 => (0, 100)
  | _ => (0, 0)

/-- The lamp and the place in its table of a lamp setting's number: 7 to 16 for lamp A, 17 to 26 for lamp B (R169). -/
def lampSetting (n : Nat) : Option (Side × Nat) :=
  if 7 ≤ n ∧ n ≤ 16 then some (.a, n - 6)
  else if 17 ≤ n ∧ n ≤ 26 then some (.b, n - 16)
  else none

/-- The number names a setting of the table (R169). -/
def settingExists (n : Nat) : Bool := 1 ≤ n && n ≤ settingCount

/-- The value of setting `n` (R169). -/
def Settings.value (t : Settings) (n : Nat) : Nat :=
  match lampSetting n with
  | some (l, k) => (t.lamp.get l).value k
  | none =>
    match n with
    | 1 => t.sLead
    | 2 => t.runUp
    | 3 => t.cueWindow
    | 4 => t.douse
    | 5 => t.stall
    | 6 => t.rounding
    | 27 => t.showLevel
    | 28 => t.intermissionLevel
    | 29 => t.breakLevel
    | 30 => t.aisleMin
    | 31 => t.showRamp
    | 32 => t.endRamp
    | n => if 33 ≤ n then t.halts[n - 33]?.getD 0 else 0

/-- The settings with setting `n` changed, the dependent changes of R172 made. -/
def Settings.change (t : Settings) (n v : Nat) : Settings :=
  match lampSetting n with
  | some (l, k) => { t with lamp := t.lamp.set l ((t.lamp.get l).change k v) }
  | none =>
    match n with
    | 1 => { t with sLead := v }
    | 2 => { t with runUp := v }
    | 3 => { t with cueWindow := v }
    | 4 => { t with douse := v }
    | 5 => { t with stall := v }
    | 6 => { t with rounding := v }
    | 27 => { t with showLevel := v }
    | 28 => { t with intermissionLevel := v }
    | 29 => { t with breakLevel := v }
    | 30 => { t with aisleMin := v }
    | 31 => { t with showRamp := v }
    | 32 => { t with endRamp := v }
    | n => if 33 ≤ n then { t with halts := t.halts.setIfInBounds (n - 33) v } else t

/-- The lower and upper limit of setting `n` (R169, R30). -/
def Settings.range (t : Settings) (n : Nat) : Nat × Nat :=
  match lampSetting n with
  | some (l, k) => (t.lamp.get l).range k
  | none =>
    match n with
    | 1 => (50, 600)
    | 2 => (5, 40)
    | 3 => (100, 600)
    | 4 => (0, 600)
    | 5 => (16, 48)
    | 6 => (0, 2)
    | 27 => (0, 100)
    | 28 => (0, 100)
    | 29 => (0, 100)
    | 30 => (5, 50)
    | 31 => (0, 600)
    | 32 => (0, 600)
    | n => if settingExists n then (0, 1) else (0, 0)

/-- A value as a SET_VALUE of setting `n` would use it (R37, R170). -/
def Settings.clamped (t : Settings) (n v : Nat) : Nat := clamp (t.range n).1 (t.range n).2 v

/-- The eight format-bearing settings: S_LEAD, RUNUP, WARM, BURN and INOM of either lamp (R170). -/
def formatBearing (n : Nat) : Bool := [1, 2, 9, 12, 15, 19, 22, 25].contains n

/-- The settings whose change makes the reel list evaluate the format: S_LEAD, RUNUP and either WARM (R170). -/
def formatEvaluating (n : Nat) : Bool := [1, 2, 15, 25].contains n

/-- The lamp a manual-rate setting belongs to: 14 and 24 (R23, R169). -/
def manualRateLamp : Nat → Option Side
  | 14 => some .a
  | 24 => some .b
  | _ => none

/-- The image in a preset channel: channel 0 is the factory defaults (R173). -/
def Store.channel (x : Store) : Nat → Settings
  | 1 => x.channel1
  | 2 => x.channel2
  | 3 => x.channel3
  | _ => Settings.factory

/-- The store with the image of a channel 1 to 3 replaced (R174). -/
def Store.write (x : Store) (n : Nat) (image : Settings) : Store :=
  match n with
  | 1 => { x with channel1 := image }
  | 2 => { x with channel2 := image }
  | 3 => { x with channel3 := image }
  | _ => x

end Sys2Proof.Machine
end

