-- ==== Sys2Proof/Machine/Booth.lean ====
section
/-! DEFINITION. The shared effects of the booth's blocks on one another: raising a condition, taking a lamp to DARK,
putting a projector on the screen and taking it off, the swap, the ramps, and the entry to DROPPED. Each meaning is
written over these. -/

namespace Sys2Proof.Machine

open Sys2Proof

/-! ### Conditions (chapter 9) -/

/-- The detail of a raise about a unit of one side: the unit, the F of that side's projector, and T as R95 gives. -/
def State.detailOf (s : State) (u : DetailUnit) (p : Side) : Detail :=
  { unit := u, f := some (s.proj.get p).f, t := s.detailT }

/-- A record after a raise: accrued, with the detail of the first raise since the last clear (R158). -/
def ConditionRecord.raised (r : ConditionRecord) (d : Detail) : ConditionRecord :=
  if r.accrued then r else { accrued := true, detail := d }

/-- A halting raise, STOP_ALL and the entry to DROPPED take ENGAGED to HALTED and leave the other states (R159). -/
def Automation.halt : Automation → Automation
  | .engaged => .halted
  | x => x

/-- The raise of a condition: accrual, and the halt when the condition halts (R158, R159). -/
def raiseCondition (k : Condition) (d : Detail) (s : State) : State :=
  let s1 := s.withConditions (s.cond.set k.index ((s.record k).raised d))
  if haltsAutomation s.store.working k then s1.onSeq fun q => { q with automation := q.automation.halt } else s1

/-! ### Withholding and the start-pending flags (R75, R84) -/

/-- What keeps a withholding standing (R75): the lamp DARK, its record still bound to the lamp's projector, the outgoing
projector still ON_SCREEN or the start still pending, and automation not OFF. -/
def Withholding.stands (w : Withholding) (s : State) : Bool :=
  decide ((s.lamp.get w.lamp).state = .dark)
    && decide ((s.boundReel w.lamp).map Reel.number = some w.reel)
    && decide (s.seq.automation ≠ .off)
    && match w.outgoing with
      | some p => s.onScreen p
      | none => (s.proj.get w.lamp).startPending

/-- A withholding ends in the event that ends what keeps it standing (R75). -/
def settleWithholding (s : State) : State :=
  match s.seq.withholding with
  | none => s
  | some w => if w.stands s then s else s.onSeq fun q => { q with withholding := none }

/-- The withholding of a strike is made, with ROD_SHORT raised, or continued with nothing raised (R75). -/
def withholdStrike (w : Withholding) (d : Detail) (s : State) : State :=
  if s.seq.withholding = some w then s
  else raiseCondition .rodShort d (s.onSeq fun q => { q with withholding := some w })

/-- A projector unit with its start-pending flag cleared; the start fade flag is cleared with it (R84). -/
def Projector.withoutStart (x : Projector) : Projector := { x with startPending := false, startFade := false }

/-- The start-pending flag of one projector is cleared. -/
def clearStart (p : Side) (s : State) : State := settleWithholding (s.onProj p Projector.withoutStart)

/-- Automation goes to OFF with the effects of DISENGAGE: start-pending flags and withholding (R72). -/
def automationOff (s : State) : State :=
  ((s.onProj .a Projector.withoutStart).onProj .b Projector.withoutStart).onSeq fun q =>
    { q with automation := .off, withholding := none }

/-! ### The reel list (chapter 3) -/

/-- The status of the record bound to a projector changes with the projector's state (R45). -/
def setBoundStatus (p : Side) (st : RecordStatus) (s : State) : State :=
  s.onReels fun x =>
    { x with records := x.records.map fun r => if r.projector = p && r.isBound then { r with status := st } else r }

/-- The format checks are evaluated anew (R54, R55). -/
def evaluateFormat (s : State) : State :=
  s.onReels fun x =>
    { x with
      code := (formatCheck s.store.working x.records).1
      faultReel := (formatCheck s.store.working x.records).2 }

/-- The record of a projector becomes SHOWN: the format is evaluated, and a code other than 0 takes automation to OFF
(R45, R55). -/
def markShown (p : Side) (s : State) : State :=
  let s1 := evaluateFormat (setBoundStatus p .shown s)
  if s1.reels.code ≠ 0 ∧ s1.seq.automation ≠ .off then automationOff s1 else s1

/-! ### The house unit (chapter 7) -/

/-- A ramp begun from the level standing, toward a target in sixteenths over a time in tenths (R126). -/
def Light.rampTo (x : Light) (target tenths : Nat) : Light :=
  let d := if target ≤ x.level then x.level - target else target - x.level
  if tenths * 2 = 0 ∨ d = 0 then { x with level := target, target := target, step := none }
  else { x with target := target, step := some (divUp d (tenths * 2)) }

/-- One step of a running ramp (R127). -/
def Light.advance (x : Light) : Light :=
  match x.step with
  | none => x
  | some n =>
    let next :=
      if x.target ≤ x.level then (if x.level - x.target ≤ n then x.target else x.level - n)
      else if x.target - x.level ≤ n then x.target else x.level + n
    { x with level := next, step := if next = x.target then none else some n }

/-- A channel set at once to a level in sixteenths, any ramp ended. -/
def Light.jump (x : Light) (level : Nat) : Light := { x with level := level, target := level, step := none }

/-- A channel put in another mode: a running ramp stops where it stands (R133). -/
def Light.changeMode (x : Light) (m : Mode) : Light :=
  if x.mode = m then x else { x with mode := m, target := x.level, step := none }

/-- The target in sixteenths that a level in percent gives a channel: an aisle target is held at AISLE_MIN or above
(R126, R128). -/
def targetOf (t : Settings) (c : Channel) (percent : Nat) : Nat :=
  match c with
  | .house => percent * 16
  | .aisle => max percent t.aisleMin * 16

/-- A channel is given a new target by a source it accepts (R126). -/
def giveTarget (c : Channel) (percent tenths : Nat) (s : State) : State :=
  s.onLight c fun x => x.rampTo (targetOf s.store.working c percent) tenths

/-- An automatic source of the house channel: applied in AUTO while the fire state is CLEAR or ALERT, else left (R131,
R132). -/
def automaticFade (percent tenths : Nat) (s : State) : State :=
  if s.lights.house.mode = .auto ∧ s.fireAllows = true then giveTarget .house percent tenths s else s

/-- The aisle channel after AISLE_MIN is raised to `m` percent (R128). -/
def Light.liftTo (x : Light) (m : Nat) : Light :=
  let least := m * 16
  if x.level < least then
    if x.step.isSome ∧ least ≤ x.target then { x with level := least }
    else { x with level := least, target := least, step := none }
  else if x.target < least then { x with target := least }
  else x

/-! ### The screen (chapter 4) -/

/-- A projector unit as it leaves ON_SCREEN for another state: dowser closed, cue window closed, stall count 0 (R59, R68,
R154). -/
def Projector.offScreen (x : Projector) (st : ProjectorState) : Projector :=
  { x with state := st, dowserOpen := false, windowOpen := false, stall := 0 }

/-- The ON_SCREEN projector leaves the screen for another state; swap due is cleared (R70). -/
def leaveScreen (p : Side) (st : ProjectorState) (s : State) : State :=
  settleWithholding ((s.onProj p fun x => x.offScreen st).onSeq fun q => { q with swapDue := false })

/-- The projector leaves the screen for RUNNING, its motor left as it stands: a gate trip, a lamp leaving LIT, an unbidden
shutter fall (R45, R86, R144, R154). -/
def darkenScreen (p : Side) (s : State) : State := setBoundStatus p .running (leaveScreen p .running s)

/-- A projector enters ON_SCREEN: its dowser opens, its record is SHOWING, the changeover flags and both start-pending
flags are cleared (R59, R70, R84, R154). -/
def enterScreen (p : Side) (s : State) : State :=
  let s1 := s.onProj p fun x => { x with state := .onScreen, dowserOpen := true, windowOpen := false, stall := 0 }
  let s2 := (s1.onProj .a Projector.withoutStart).onProj .b Projector.withoutStart
  let s3 := s2.onSeq fun q =>
    { q with strikeTaken := false, motorTaken := false, swapReached := false, swapDue := false }
  settleWithholding (setBoundStatus p .showing s3)

/-! ### The lamps (chapter 6) -/

/-- A lamp unit taken to DARK: striker withdrawn, rectifier open, every timer and the feed clock stopped, marks and clamp
counts cleared, a running trim abandoned (R109, R111, R112, R121). The low-current count is left to the caller. -/
def Lamp.darkened (x : Lamp) : Lamp :=
  { x with
    state := .dark, rectifierClosed := false, iset := 0, strikerClosed := false, f := 0, highLimit := false
    lowLimit := false, highClamp := 0, lowClamp := 0, trimIntervals := 0, trimConverge := 0
    mode := if x.mode = .trim then .manual else x.mode
    settlingTimer := none, attemptTimer := none, waitTimer := none, warmTimer := none, feedClock := none }

/-- A lamp goes to DARK and reports it: its douse timer is cancelled and the start-pending flag of its projector cleared
(R112). -/
def lampToDark (l : Side) (g : Lamp → Lamp) (s : State) : State :=
  let s1 := s.onLamp l fun x => g x.darkened
  clearStart l (s1.onSeq fun q => { q with douse := q.douse.set l none })

/-- An extinguished lamp's low-current count is cleared with the rest (R112). -/
def Lamp.noLowCurrent (x : Lamp) : Lamp := { x with lowCurrent := 0 }

/-- An extinguish: nothing in DARK; otherwise the lamp goes to DARK, and an ON_SCREEN projector of it leaves the screen
without a swap (R112, R86). -/
def extinguishLamp (l : Side) (s : State) : State :=
  if (s.lamp.get l).state = .dark then s
  else
    let s1 := lampToDark l Lamp.noLowCurrent s
    if s.onScreen l then darkenScreen l s1 else s1

/-- The douse timer of a lamp whose projector has entered RUNOUT starts while automation is ENGAGED and the lamp is not
DARK; a DOUSE of 0 extinguishes it in the same event (R82). -/
def startDouse (l : Side) (m : Moment) (s : State) : State :=
  if s.seq.automation = .engaged ∧ (s.lamp.get l).state ≠ .dark then
    if s.store.working.douse = 0 then lampToDark l Lamp.noLowCurrent s
    else s.onSeq fun q => { q with douse := q.douse.set l (some (startTimeLeft s.store.working.douse m)) }
  else s

/-- The swap: the outgoing projector to RUNOUT and the incoming one to ON_SCREEN, in one event (R78). -/
def swapScreens (incoming outgoing : Side) (m : Moment) (s : State) : State :=
  startDouse outgoing m (enterScreen incoming (leaveScreen outgoing .runout s))

/-- The arc of a lamp is lost: the lamp goes to DARK, an ON_SCREEN projector of it passes the screen by the emergency swap
or leaves it dark, and ARC_OUT is raised (R111, R86). -/
def loseArc (l : Side) (m : Moment) (s : State) : State :=
  let s1 := lampToDark l (fun x => { x with lowCurrent := 10 }) s
  let s2 :=
    if s.onScreen l then
      if s1.seq.automation = .engaged ∧ s1.ready l.other = true then swapScreens l.other l m s1
      else darkenScreen l s1
    else s1
  raiseCondition .arcOut (s2.detailOf (.lamp l) l) s2

/-- The rectifier closes at INOM and the lamp goes to SETTLING (R105, R106, R119). -/
def beginStrike (l : Side) (m : Moment) (s : State) : State :=
  settleWithholding (s.onLamp l fun x =>
    { x with
      state := .settling, rectifierClosed := true, iset := (s.store.working.lamp.get l).inom, attempt := 0
      settlingTimer := startTimer settlingTenths m })

/-- The next strike attempt begins (R107, R108). -/
def beginAttempt (l : Side) (m : Moment) (s : State) : State :=
  s.onLamp l fun x =>
    { x with
      state := .striking, attempt := x.attempt + 1, strikerClosed := true, settlingTimer := none, waitTimer := none
      attemptTimer := startTimer attemptTenths m }

/-- The reading of arc current that establishes an arc, and below which one is failing: 30 A (R108, R111). -/
def arcAmperes : Nat := 30

/-- The arc is established: WARMING, with the warm timer, the feed interval clock and the current watch started (R108,
R110, R113). The first feed interval falls at the tenth boundary after this one. -/
def establishArc (l : Side) (amperes : Nat) (m : Moment) (s : State) : State :=
  s.onLamp l fun x =>
    { x with
      state := .warming, strikerClosed := false, amperes := amperes, lowCurrent := 0, attemptTimer := none
      warmTimer := some (startTimeLeft (s.store.working.lamp.get l).warm m), feedClock := some (feedPeriods + 1) }

/-- The third attempt has failed: the lamp goes to DARK with its attempt count kept, and STRIKE_FAIL is raised (R109). -/
def failStrike (l : Side) (s : State) : State :=
  let s1 := lampToDark l id s
  raiseCondition .strikeFail (s1.detailOf (.lamp l) l) s1

/-- The attempt timer has expired with the current below 30 A: a wait, or after the third attempt the strike fails
(R108). -/
def failAttempt (l : Side) (amperes : Nat) (m : Moment) (s : State) : State :=
  let s1 := s.onLamp l fun x =>
    { x with amperes := amperes, strikerClosed := false, attemptTimer := none }
  if (s.lamp.get l).attempt < 3 then s1.onLamp l fun x => { x with waitTimer := startTimer waitTenths m }
  else failStrike l s1

/-- Warming ends: LIT, with both clamp counts 0 (R110, R118). -/
def becomeLit (l : Side) (s : State) : State :=
  s.onLamp l fun x => { x with state := .lit, warmTimer := none, highClamp := 0, lowClamp := 0 }

/-- Iset brought within the working range of a lamp whose rectifier is closed (R119). -/
def Lamp.isetWithin (x : Lamp) (t : LampSettings) : Lamp :=
  if x.rectifierClosed then { x with iset := clamp t.imin t.inom x.iset } else x

/-! ### The projectors (chapter 4) -/

/-- A projector unit with motor stopped and dowser closed, back at THREADED with F kept (R64, R85, R147). -/
def Projector.rethreaded (x : Projector) : Projector :=
  { x.withoutStart with
    state := .threaded, motorRunning := false, dowserOpen := false, windowOpen := false, stall := 0, inchTimer := none
    runUpTimer := none, lossCheck := false }

/-- A moving projector is stopped and returns to THREADED, its record to BOUND; leaving ON_SCREEN clears swap due, and
leaving RUNOUT cancels the douse timer (R64, R70, R82). -/
def stopProjector (p : Side) (s : State) : State :=
  let before := (s.proj.get p).state
  let s1 := setBoundStatus p .bound (s.onProj p Projector.rethreaded)
  settleWithholding (s1.onSeq fun q =>
    { q with
      swapDue := if before = .onScreen then false else q.swapDue
      douse := if before = .runout then q.douse.set p none else q.douse })

/-- The run-up or the inch has timed out: THREADED, start-pending cleared, START_FAIL raised with the projector and F
(R62, R63, R84). -/
def failStart (p : Side) (s : State) : State :=
  let s1 := stopProjector p s
  raiseCondition .startFail { unit := .projector p, f := some (s1.proj.get p).f, t := none } s1

/-- The inch count has reached 0: the motor stops and the projector returns to THREADED (R62). -/
def finishInch (p : Side) (s : State) : State :=
  s.onProj p fun x =>
    { x with state := .threaded, motorRunning := false, inchTimer := none, lossCheck := false }

/-- The motor starts, or runs on from an inch, and the projector goes to STARTING (R63). -/
def startMotor (p : Side) (m : Moment) (s : State) : State :=
  s.onProj p fun x =>
    { x with
      state := .starting, motorRunning := true, inchCount := 0, inchTimer := none
      runUpTimer := startTimer runUpTenths m, lossCheck := true }

/-- What START requires (R63). -/
def State.startAllowed (s : State) (p : Side) : Bool :=
  (decide ((s.proj.get p).state = .threaded) || decide ((s.proj.get p).state = .inching)) && s.fireAllows

/-- A start asked by the sequencer, carried out as R63 gives (R76, R84). -/
def askStart (p : Side) (m : Moment) (s : State) : State :=
  if s.startAllowed p then startMotor p m s else s

/-- A STARTING projector is at speed: RUNNING, its record RUNNING (R63). -/
def reachSpeed (p : Side) (s : State) : State :=
  setBoundStatus p .running (s.onProj p fun x => { x with state := .running, runUpTimer := none })

/-- A projector unit whose film has run out: STOPPED (R152). -/
def Projector.tailedOut (x : Projector) : Projector :=
  { x.withoutStart with
    state := .stopped, motorRunning := false, dowserOpen := false, windowOpen := false, stall := 0, inchTimer := none
    runUpTimer := none, lossCheck := false }

/-- A tail-out of any form: STOPPED, the record SHOWN and the format evaluated (R152). -/
def tailOut (p : Side) (s : State) : State :=
  let s1 := s.onProj p Projector.tailedOut
  let s2 := if s.onScreen p then s1.onSeq fun q => { q with swapDue := false } else s1
  settleWithholding (markShown p s2)

/-- A projector unit whose film has broken: BROKEN (R153). -/
def Projector.filmBroken (x : Projector) : Projector :=
  { x.withoutStart with
    state := .broken, motorRunning := false, dowserOpen := false, windowOpen := false, stall := 0, inchTimer := none
    runUpTimer := none, inchCount := 0, lossCheck := false }

/-- A film break: BROKEN, the record INTERRUPTED, the break fade when no projector is left ON_SCREEN, and FILM_BREAK raised
(R153, R134). -/
def breakFilm (p : Side) (s : State) : State :=
  let s1 := setBoundStatus p .interrupted (s.onProj p Projector.filmBroken)
  let s2 := settleWithholding (s1.onSeq fun q => { q with swapDue := false })
  let s3 :=
    if s2.outgoing.isNone ∧ s2.fireAllows = true then giveTarget .house s2.store.working.breakLevel breakTenths s2
    else s2
  raiseCondition .filmBreak (s3.detailOf (.projector p) p) s3

/-- A film-loss switch standing open is judged against the projector's state and the effective end (R151). -/
def judgeFilmLoss (p : Side) (s : State) : State :=
  match (s.proj.get p).state with
  | .runout => tailOut p s
  | .onScreen => if s.atEnd p then tailOut p s else breakFilm p s
  | .inching => if s.atEnd p then tailOut p s else breakFilm p s
  | .starting => if s.atEnd p then tailOut p s else breakFilm p s
  | .running => if s.atEnd p then tailOut p s else breakFilm p s
  | _ => s

/-- A gate trip of an ON_SCREEN projector (R154). -/
def gateTrip (p : Side) (s : State) : State :=
  let s1 := darkenScreen p s
  raiseCondition .gateTrip (s1.detailOf (.projector p) p) s1

/-! ### The fire unit (chapter 8) -/

/-- A release: an UP or RAISING shutter falls, with its fall timer started; any other stays as it is (R140). -/
def Shutter.released (x : Shutter) (m : Moment) : Shutter :=
  match x.state with
  | .up =>
    { x with state := .falling, latchHolding := false, motorRunning := false, raiseTimer := none
             fallTimer := startTimer fallTenths m }
  | .raising =>
    { x with state := .falling, latchHolding := false, motorRunning := false, raiseTimer := none
             fallTimer := startTimer fallTenths m }
  | _ => x

/-- What entering DROPPED does to one projector (R147): a moving one is stopped; inch and run-up timers, inch count and
start-pending flag are cleared in every state. -/
def fireStop (p : Side) (s : State) : State :=
  let s1 := if (s.proj.get p).state.moving then stopProjector p s else s
  s1.onProj p fun x => { x.withoutStart with inchTimer := none, runUpTimer := none, inchCount := 0 }

/-- What entering DROPPED does to one lamp (R147): it is extinguished, and its douse timer is cancelled. -/
def fireExtinguish (l : Side) (s : State) : State :=
  (extinguishLamp l s).onSeq fun q => { q with douse := q.douse.set l none }

/-- Both channels full up at once: the panic (R136). -/
def panicLights (s : State) : State := (s.onLight .house fun x => x.jump 1600).onLight .aisle fun x => x.jump 1600

/-- The entry to DROPPED with the effects of R147, all in one event, FIRE raised last with the unit given (R146). -/
def enterDropped (u : DetailUnit) (m : Moment) (s : State) : State :=
  let s1 := s.onFire fun x =>
    { x with
      state := .dropped, a := x.a.released m, b := x.b.released m, observation1 := x.observation1.released m
      observation2 := x.observation2.released m }
  let s2 := fireStop .b (fireStop .a s1)
  let s3 := panicLights (fireExtinguish .b (fireExtinguish .a s2))
  let s4 := settleWithholding (s3.onSeq fun q => { q with automation := q.automation.halt })
  raiseCondition .fire { unit := u, f := none, t := none } s4

/-- The fire state enters DROPPED from any other state; in DROPPED nothing changes (R146). -/
def dropFire (u : DetailUnit) (m : Moment) (s : State) : State :=
  if s.fire.state = .dropped then s else enterDropped u m s

/-! ### The settings store (chapter 10) -/

/-- The working settings are replaced and the neighbours act: Iset within its new range, the aisle lifted by a raised
AISLE_MIN (R172, R119, R128). -/
def applySettings (t : Settings) (s : State) : State :=
  let old := s.store.working
  let s1 := s.onStore fun x => { x with working := t }
  let isets := fun (l : Side) (y : State) =>
    if (t.lamp.get l).inom ≠ (old.lamp.get l).inom ∨ (t.lamp.get l).imin ≠ (old.lamp.get l).imin then
      y.onLamp l fun x => x.isetWithin (t.lamp.get l)
    else y
  let s2 := isets .b (isets .a s1)
  if old.aisleMin < t.aisleMin then s2.onLight .aisle fun x => x.liftTo t.aisleMin else s2

end Sys2Proof.Machine
end

