-- ==== Sys2Proof/Machine/Events.lean ====
section
/-! DEFINITION. The events of the booth: what the tachometers, the timers, the arc currents, the film-loss and gate
switches, the fire link and the limit switches report (chapters 4, 6 and 8). The function behind each row is also the
one the period boundary takes for its own work. -/

namespace Sys2Proof.Machine

open Sys2Proof

/-! ### Projectors -/

/-- A projector unit after one pulse: F rises, held at its top and ignored in IDLE, the period's pulse is counted, and an
inch loses a frame (R60, R62). -/
def Projector.pulsed (x : Projector) : Projector :=
  { x with
    f := if x.state = .idle then x.f else min (x.f + 1) maxF
    pulses := x.pulses + 1
    inchCount := if x.state = .inching then x.inchCount - 1 else x.inchCount }

/-- The inch ends when its count has reached 0 (R62). -/
def endInch (p : Side) (s : State) : State :=
  if (s.proj.get p).state = .inching ∧ (s.proj.get p).inchCount = 0 then finishInch p s else s

/-- A tachometer pulse; the inch that it completes ends in the same event (R60, R62). -/
def countPulse (p : Side) (s : State) : State := endInch p (s.onProj p Projector.pulsed)

/-- The inch timer expires, when it is due, with the inch count above 0 (R62). -/
def expireInch (p : Side) (s : State) : State :=
  if (s.proj.get p).state = .inching ∧ Timer.due (s.proj.get p).inchTimer = true ∧ 0 < (s.proj.get p).inchCount then
    failStart p s
  else s

/-- The rate at which a run-up is done (R63). -/
def speedRate : Nat := 44

/-- The run-up is done when RATE is 44 or more (R63). -/
def endRunUp (p : Side) (s : State) : State :=
  if (s.proj.get p).state = .starting ∧ speedRate ≤ (s.proj.get p).rate then reachSpeed p s else s

/-- The run-up timer expires, when it is due: RATE is compared first (R63). -/
def expireRunUp (p : Side) (s : State) : State :=
  if (s.proj.get p).state = .starting ∧ Timer.due (s.proj.get p).runUpTimer = true then
    if speedRate ≤ (s.proj.get p).rate then reachSpeed p s else failStart p s
  else s

/-- A film-loss switch takes a position; its opening is judged (R151). -/
def moveFilmLoss (p : Side) (position : Contact) (s : State) : State :=
  let s1 := s.onProj p fun x => { x with filmLoss := position }
  if position = .opened then judgeFilmLoss p s1 else s1

/-- A gate thermal switch takes a position; its opening on an ON_SCREEN projector is a gate trip (R154). -/
def moveGate (p : Side) (position : Contact) (s : State) : State :=
  let s1 := s.onProj p fun x => { x with gate := position }
  if position = .opened ∧ s1.onScreen p = true then gateTrip p s1 else s1

/-- A RATE below this stalls (R154). -/
def stallRate : Nat := 8

/-- The stall count reaches 10 (R154). -/
def expireStall (p : Side) (s : State) : State :=
  if s.onScreen p = true ∧ (s.proj.get p).rate < stallRate ∧ 9 ≤ (s.proj.get p).stall then gateTrip p s else s

/-! ### Lamps -/

/-- The settling timer expires, when it is due: attempt 1 begins (R107). -/
def expireSettling (l : Side) (m : Moment) (s : State) : State :=
  if (s.lamp.get l).state = .settling ∧ Timer.due (s.lamp.get l).settlingTimer = true then beginAttempt l m s else s

/-- An attempt is under way (R108). -/
def Lamp.attempting (x : Lamp) : Bool := decide (x.state = .striking) && x.attemptTimer.isSome

/-- The arc current during an attempt is 30 A or more (R108). -/
def judgeArc (l : Side) (amperes : Nat) (m : Moment) (s : State) : State :=
  if (s.lamp.get l).attempting = true ∧ arcAmperes ≤ amperes then establishArc l amperes m s else s

/-- The attempt timer expires, when it is due: the reading is judged first (R108). -/
def expireAttempt (l : Side) (amperes : Nat) (m : Moment) (s : State) : State :=
  if (s.lamp.get l).attempting = true ∧ Timer.due (s.lamp.get l).attemptTimer = true then
    if arcAmperes ≤ amperes then establishArc l amperes m s else failAttempt l amperes m s
  else s

/-- The wait timer expires, when it is due: the next attempt begins (R108). -/
def expireWait (l : Side) (m : Moment) (s : State) : State :=
  if (s.lamp.get l).state = .striking ∧ Timer.due (s.lamp.get l).waitTimer = true then beginAttempt l m s else s

/-- The warm timer expires, when it is due: LIT (R110). -/
def expireWarm (l : Side) (s : State) : State :=
  if (s.lamp.get l).state = .warming ∧ ReadTimer.due (s.lamp.get l).warmTimer = true then becomeLit l s else s

/-- The arc is watched while the lamp is WARMING or LIT (R111). -/
def Lamp.watched (x : Lamp) : Bool := decide (x.state = .warming) || decide (x.state = .lit)

/-- The tenth consecutive boundary with the current below 30 A: the arc is lost (R111). -/
def expireArc (l : Side) (amperes : Nat) (m : Moment) (s : State) : State :=
  if (s.lamp.get l).watched = true ∧ amperes < arcAmperes ∧ 9 ≤ (s.lamp.get l).lowCurrent then
    loseArc l m (s.onLamp l fun x => { x with amperes := amperes })
  else s

/-! ### The fire link and the shutters -/

/-- The fire link is sensed open (R146). -/
def openLink (m : Moment) (s : State) : State := dropFire .nothing m (s.onFire fun u => { u with link := .opened })

/-- Without a FIRE station, a link judged intact takes DROPPED to RESET_PENDING (R148). -/
def judgeLink (s : State) : State :=
  if s.fire.state = .dropped ∧ s.fire.link = .intact ∧ s.fire.stations = 0 then
    s.onFire fun u => { u with state := .resetPending }
  else s

/-- The fire link closes and is recorded intact; R148 judges it at a boundary. -/
def closeLink (s : State) : State := s.onFire fun u => { u with link := .intact }

/-- The fire link is found intact: recorded open, that is its closing; recorded intact already, a boundary's judging of it
as it stands (R148, log entry 19). -/
def findLink (s : State) : State :=
  match s.fire.link with
  | .opened => closeLink s
  | .intact => judgeLink s

/-- A shutter standing DOWN, its fall timer stopped (R140, R143). -/
def Shutter.landed (x : Shutter) : Shutter :=
  match x.state with
  | .falling => { x with state := .down, fallTimer := none }
  | .jammed => { x with state := .down }
  | _ => x

/-- A shutter whose fall or raise has run out of time (R140, R142). -/
def Shutter.jammed (x : Shutter) : Shutter :=
  { x with state := .jammed, latchHolding := false, motorRunning := false, fallTimer := none, raiseTimer := none }

/-- SHUTTER_JAM is raised with the port (R156). -/
def raiseJam (q : Port) (s : State) : State :=
  raiseCondition .shutterJam { unit := .port q, f := none, t := none } s

/-- The fall timer expires, when it is due (R140). -/
def expireFall (q : Port) (s : State) : State :=
  if (s.fire.get q).state = .falling ∧ Timer.due (s.fire.get q).fallTimer = true then
    raiseJam q (s.onShutter q Shutter.jammed)
  else s

/-- A raise that has reached its UP switch (R142). -/
def Shutter.caught (x : Shutter) : Shutter :=
  match x.state with
  | .raising => { x with state := .up, latchHolding := true, motorRunning := false, raiseTimer := none }
  | _ => x

/-- The raise timer expires, when it is due (R142). -/
def expireRaise (q : Port) (s : State) : State :=
  if (s.fire.get q).state = .raising ∧ Timer.due (s.fire.get q).raiseTimer = true then
    raiseJam q (s.onShutter q Shutter.jammed)
  else s

/-- The projector behind a port, where there is one (00_scope, section 7). -/
def portProjector : Port → Option Side
  | .a => some .a
  | .b => some .b
  | _ => none

/-- A projector on the screen behind a fallen shutter leaves the screen (R144). -/
def darkenPort (q : Port) (s : State) : State :=
  match portProjector q with
  | none => s
  | some p => if s.onScreen p then darkenScreen p s else s

/-- The latch of an UP shutter has let go (R144). -/
def loseLatch (q : Port) (m : Moment) (s : State) : State :=
  if (s.fire.get q).state = .up then raiseJam q (darkenPort q (s.onShutter q fun x => x.released m)) else s

/-! ### The commands -/

/-- TACHOMETER_PULSE (R60). -/
def execTachometerPulse (p : Side) (s : State) : Result := .next (countPulse p s)

/-- INCH_DONE (R62). -/
def execInchDone (p : Side) (s : State) : Result := .next (endInch p s)

/-- INCH_TIMER_EXPIRY (R62). -/
def execInchTimerExpiry (p : Side) (s : State) : Result := .next (expireInch p s)

/-- RUN_UP_DONE (R63). -/
def execRunUpDone (p : Side) (s : State) : Result := .next (endRunUp p s)

/-- RUN_UP_TIMER_EXPIRY (R63). -/
def execRunUpTimerExpiry (p : Side) (s : State) : Result := .next (expireRunUp p s)

/-- FILM_LOSS_SWITCH (R151). -/
def execFilmLossSwitch (p : Side) (position : Contact) (s : State) : Result := .next (moveFilmLoss p position s)

/-- GATE_THERMAL_OPEN (R154). -/
def execGateThermalOpen (p : Side) (position : Contact) (s : State) : Result := .next (moveGate p position s)

/-- STALL_TRIP (R154). -/
def execStallTrip (p : Side) (s : State) : Result := .next (expireStall p s)

/-- SETTLING_TIMER_EXPIRY (R107). -/
def execSettlingTimerExpiry (l : Side) (s : State) : Result := .next (expireSettling l .between s)

/-- ARC_ESTABLISHED (R108). -/
def execArcEstablished (l : Side) (amperes : Nat) (s : State) : Result := .next (judgeArc l amperes .between s)

/-- ATTEMPT_TIMER_EXPIRY (R108). -/
def execAttemptTimerExpiry (l : Side) (amperes : Nat) (s : State) : Result := .next (expireAttempt l amperes .between s)

/-- WAIT_TIMER_EXPIRY (R108). -/
def execWaitTimerExpiry (l : Side) (s : State) : Result := .next (expireWait l .between s)

/-- WARM_TIMER_EXPIRY (R110). -/
def execWarmTimerExpiry (l : Side) (s : State) : Result := .next (expireWarm l s)

/-- ARC_LOSS (R111). -/
def execArcLoss (l : Side) (amperes : Nat) (s : State) : Result := .next (expireArc l amperes .between s)

/-- FIRE_LINK_OPEN (R146). -/
def execFireLinkOpen (s : State) : Result := .next (openLink .between s)

/-- FIRE_LINK_INTACT (R148). -/
def execFireLinkIntact (s : State) : Result := .next (findLink s)

/-- SHUTTER_DOWN_SWITCH (R140, R143). -/
def execShutterDownSwitch (q : Port) (s : State) : Result := .next (s.onShutter q Shutter.landed)

/-- FALL_TIMER_EXPIRY (R140). -/
def execFallTimerExpiry (q : Port) (s : State) : Result := .next (expireFall q s)

/-- SHUTTER_UP_SWITCH (R142). -/
def execShutterUpSwitch (q : Port) (s : State) : Result := .next (s.onShutter q Shutter.caught)

/-- RAISE_TIMER_EXPIRY (R142). -/
def execRaiseTimerExpiry (q : Port) (s : State) : Result := .next (expireRaise q s)

/-- SHUTTER_LATCH_LET_GO (R144). -/
def execShutterLatchLetGo (q : Port) (s : State) : Result := .next (loseLatch q .between s)

end Sys2Proof.Machine
end

