-- ==== Sys2Proof/Machine/Feed.lean ====
section
/-! DEFINITION. The feed of the carbon: the regulator, feed before current, trim and the rod (R113 to R121), and the
rows of a feed interval. -/

namespace Sys2Proof.Machine

open Sys2Proof

/-- What an interval's feed comes to: f, the two limit marks, and whether the error lies within the deadband (R114). -/
structure Feed where
  f : Nat
  highLimit : Bool
  lowLimit : Bool
  inBand : Bool
deriving DecidableEq, Repr

/-- The error e of an interval (R114). -/
def feedError (t : LampSettings) (volts : Nat) : Int := (volts : Int) - t.vt

/-- The error lies within the deadband, both ends included (R114). -/
def withinDeadband (t : LampSettings) (e : Int) : Bool := decide (-(t.dead : Int) ≤ e) && decide (e ≤ t.dead)

/-- The base rate b: I × BURN / 16 rounded up (R114). -/
def baseRate (t : LampSettings) (amperes : Nat) : Nat := divUp (amperes * t.burn) 16

/-- The feed before it is held within 0 to FMAX: the correction is truncated toward zero (R114). -/
def unheldFeed (t : LampSettings) (volts amperes : Nat) : Int :=
  let e := feedError t volts
  if withinDeadband t e then baseRate t amperes else baseRate t amperes + ((t.gain : Int) * e).tdiv 8

/-- The feed regulator (R114). -/
def regulate (t : LampSettings) (volts amperes : Nat) : Feed :=
  let raw := unheldFeed t volts amperes
  { f := if (t.fmax : Int) < raw then t.fmax else raw.toNat
    highLimit := decide ((t.fmax : Int) < raw)
    lowLimit := decide (raw < 0)
    inBand := withinDeadband t (feedError t volts) }

/-- The feed of an interval: the regulator while WARMING and in AUTO and TRIM, the manual rate no higher than FMAX while
LIT in MANUAL (R115). -/
def intervalFeed (t : LampSettings) (x : Lamp) (volts amperes : Nat) : Feed :=
  if x.state = .lit ∧ x.mode = .manual then
    { f := min t.manualRate t.fmax, highLimit := false, lowLimit := false
      inBand := withinDeadband t (feedError t volts) }
  else regulate t volts amperes

/-- Steps 1 and 2 of an interval: the readings, f and the marks (R113). -/
def Lamp.read (x : Lamp) (t : LampSettings) (volts amperes : Nat) : Lamp :=
  let d := intervalFeed t x volts amperes
  { x with amperes := amperes, volts := volts, f := d.f, highLimit := d.highLimit, lowLimit := d.lowLimit }

/-- The high-clamp count has reached 10: Iset falls by 1 A, not below IMIN, and the count starts again (R118). -/
def Lamp.lowered (x : Lamp) (t : LampSettings) : Lamp :=
  { x with iset := if t.imin < x.iset then x.iset - 1 else x.iset, highClamp := 0 }

/-- The low-clamp count has reached 10: Iset rises by 1 A, not above INOM, and the count starts again (R118). -/
def Lamp.lifted (x : Lamp) (t : LampSettings) : Lamp :=
  { x with iset := if x.iset < t.inom then x.iset + 1 else x.iset, lowClamp := 0 }

/-- A clamp count or a converge count reaches 10 with one interval more. -/
def tenthNow (count : Nat) : Bool := 9 ≤ count

/-- Feed before current is counted in LIT under AUTO alone (R118). -/
def Lamp.countsClamp (x : Lamp) : Bool := decide (x.state = .lit) && decide (x.mode = .auto)

/-- Step 3: the clamp counts (R118). -/
def Lamp.countClamp (x : Lamp) (t : LampSettings) : Lamp :=
  if x.countsClamp then
    if x.highLimit then
      if tenthNow x.highClamp then { x with lowClamp := 0 }.lowered t
      else { x with highClamp := x.highClamp + 1, lowClamp := 0 }
    else if x.lowLimit then
      if tenthNow x.lowClamp then { x with highClamp := 0 }.lifted t
      else { x with lowClamp := x.lowClamp + 1, highClamp := 0 }
    else { x with highClamp := 0, lowClamp := 0 }
  else x

/-- A trim runs only in a LIT lamp (R120). -/
def Lamp.trimming (x : Lamp) : Bool := decide (x.state = .lit) && decide (x.mode = .trim)

/-- A lamp unit at the end of a trim (R120, R121). -/
def Lamp.trimEnded (x : Lamp) : Lamp := { x with mode := .manual, trimIntervals := 0, trimConverge := 0 }

/-- The trim has converged: the working manual rate becomes the f of the interval (R120). -/
def convergeTrim (l : Side) (rate : Nat) (s : State) : State :=
  let t := s.store.working.lamp.get l
  (s.onLamp l Lamp.trimEnded).onStore fun x =>
    { x with working := { x.working with lamp := x.working.lamp.set l { t with manualRate := rate } } }

/-- The trim has failed: TRIM_FAILED is raised (R121). -/
def failTrim (l : Side) (s : State) : State :=
  let s1 := s.onLamp l Lamp.trimEnded
  raiseCondition .trimFailed (s1.detailOf (.lamp l) l) s1

/-- The 120th interval of a trim (R121). -/
def lastTrimInterval (count : Nat) : Bool := 119 ≤ count

/-- Step 4: a running trim counts the interval, whose feed is f still; convergence is judged before failure (R120,
R121). -/
def countTrim (l : Side) (inBand : Bool) (s : State) : State :=
  let x := s.lamp.get l
  if x.trimming then
    if inBand = true ∧ tenthNow x.trimConverge = true then convergeTrim l x.f s
    else if lastTrimInterval x.trimIntervals then failTrim l s
    else
      s.onLamp l fun y =>
        { y with
          trimIntervals := y.trimIntervals + 1
          trimConverge := if inBand then y.trimConverge + 1 else 0 }
  else s

/-- Step 5: the carbon is advanced and the rod accounted, or the rod runs out (R116, R117). -/
def Lamp.fedOnce (x : Lamp) : Lamp :=
  if x.rodOut then { x with f := 0 }
  else
    let advance := (x.f + x.carry) / 2
    if x.stock < advance then { x with fed := x.fed + x.stock, stock := 0, f := 0, carry := 0, rodOut := true }
    else { x with stock := x.stock - advance, fed := x.fed + advance, carry := (x.f + x.carry) % 2 }

/-- One feed interval, its five steps in order (R113). -/
def feedOnce (l : Side) (volts amperes : Nat) (s : State) : State :=
  let t := s.store.working.lamp.get l
  let d := intervalFeed t (s.lamp.get l) volts amperes
  let s1 := s.onLamp l fun x => (x.read t volts amperes).countClamp t
  (countTrim l d.inBand s1).onLamp l Lamp.fedOnce

/-- The lamp burns: WARMING or LIT (R111, R113). -/
def Lamp.burning (x : Lamp) : Bool := decide (x.state = .warming) || decide (x.state = .lit)

/-- A feed interval falls, when the feed interval clock is due; the next is ten boundaries on (R113). -/
def feedInterval (l : Side) (volts amperes : Nat) (m : Moment) (s : State) : State :=
  if (s.lamp.get l).burning = true ∧ Timer.due (s.lamp.get l).feedClock = true then
    (feedOnce l volts amperes s).onLamp l fun x => { x with feedClock := some (feedPeriods + m.extra) }
  else s

/-! ### The commands -/

/-- FEED_INTERVAL (R113). -/
def execFeedInterval (l : Side) (volts amperes : Nat) (s : State) : Result :=
  .next (feedInterval l volts amperes .between s)

/-- HIGH_CLAMP_ADJUST: the tenth interval clamped at FMAX in LIT under AUTO (R118). -/
def execHighClampAdjust (l : Side) (s : State) : Result :=
  let x := s.lamp.get l
  .next
    (if x.countsClamp = true ∧ x.highLimit = true ∧ tenthNow x.highClamp = true then
      s.onLamp l fun y => y.lowered (s.store.working.lamp.get l)
    else s)

/-- LOW_CLAMP_ADJUST: the tenth interval clamped at 0 in LIT under AUTO (R118). -/
def execLowClampAdjust (l : Side) (s : State) : Result :=
  let x := s.lamp.get l
  .next
    (if x.countsClamp = true ∧ x.lowLimit = true ∧ tenthNow x.lowClamp = true then
      s.onLamp l fun y => y.lifted (s.store.working.lamp.get l)
    else s)

/-- The f of an interval within the deadband: the base rate at an arc current, no higher than FMAX (R114, R120). -/
def bandedFeed (t : LampSettings) (amperes : Nat) : Nat := min (baseRate t amperes) t.fmax

/-- TRIM_CONVERGED: the tenth interval together within the deadband, its f found from the arc current as last read (R120,
log entry 21). -/
def execTrimConverged (l : Side) (s : State) : Result :=
  let x := s.lamp.get l
  .next
    (if x.trimming = true ∧ tenthNow x.trimConverge = true then
      convergeTrim l (bandedFeed (s.store.working.lamp.get l) x.amperes) s
    else s)

/-- TRIM_FAILED: the 120th interval without convergence (R121). -/
def execTrimFailed (l : Side) (s : State) : Result :=
  let x := s.lamp.get l
  .next (if x.trimming = true ∧ lastTrimInterval x.trimIntervals = true then failTrim l s else s)

end Sys2Proof.Machine
end

