-- ==== Sys2Proof/Machine/Operands.lean ====
section
/-! DEFINITION. The operands of a request and how the request unit judges them (chapter 2): the authority table, the
targets each kind takes, the seven steps of R25 up to the owning block's own, and the packing of an answer's data
(R183). -/

namespace Sys2Proof.Machine

open Sys2Proof

/-! ### Answers -/

/-- What a request is answered: a status and the data A1 to A4 as one number (R40, R183). -/
structure Reply where
  status : Status
  data : Nat
deriving DecidableEq, Repr

/-- The state and the answer a request leaves. -/
abbrev Judged := State × Reply

/-- The request was carried out, or its effect begun, and returns `d`. -/
def answerDone (s : State) (d : Nat) : Judged := (s, { status := .done, data := d })

/-- The request is answered without being carried out. -/
def answerRefused (s : State) (st : Status) (d : Nat) : Judged := (s, { status := st, data := d })

/-- DONE with data zero, or CLAMPED with the applied value when a clamp moved a value (R38). -/
def answerApplied (s : State) (moved : Bool) (applied : Nat) : Judged :=
  (s, if moved then { status := .clamped, data := applied } else { status := .done, data := 0 })

/-- A flag as a number. -/
def flag (b : Bool) : Nat := if b then 1 else 0

/-- A set of flags in A4, the first at bit 0 (R183). -/
def flagSet : List Bool → Nat
  | [] => 0
  | b :: rest => flag b + 2 * flagSet rest

/-- A code in A1 and a number in A2 to A4 (R183). -/
def codeAndNumber (code number : Nat) : Nat := code * 16777216 + number

/-- Four characters A1 to A4 as one number. -/
def fourChars (a1 a2 a3 a4 : Nat) : Nat := ((a1 * 256 + a2) * 256 + a3) * 256 + a4

/-! ### The authority table (R24) -/

/-- The groups of the authority table (R24). -/
inductive Group where
  | inquiry
  | houseByHand
  | houseTarget
  | arc
  | projector
  | reelList
  | skip
  | show
  | consoleControl
  | emergencyStop
  | drop
  | firePanel
  | fireReset
  | settings
deriving DecidableEq, Repr

/-- The authority table: whether a role's column shows yes (R24). A station strapped ABSENT has none (R22). -/
def Group.allows (g : Group) (r : Role) : Bool :=
  match r with
  | .absent => false
  | .observer => decide (g = .inquiry)
  | .console => decide (g ≠ .houseTarget) && decide (g ≠ .firePanel)
  | .house => [.inquiry, .houseByHand, .emergencyStop].contains g
  | .programmer => [.inquiry, .houseTarget, .reelList, .show, .settings].contains g
  | .fire => [.inquiry, .drop, .firePanel].contains g

/-- The group of a request, by its kind and, for SET_MODE, SET_VALUE and SET_TARGET, by its target (R24). None where the
target places it in no group. -/
def groupOf (k : Kind) (t : Target) : Option Group :=
  match k with
  | .inquire | .read | .readReel | .readConditions => some .inquiry
  | .setMode =>
    match t with
    | .house | .aisle => some .houseByHand
    | .arc _ => some .arc
    | _ => none
  | .setValue =>
    match t with
    | .house | .aisle => some .houseByHand
    | .arc _ => some .arc
    | .setting n =>
      if (manualRateLamp n).isSome then some .arc else if settingExists n then some .settings else none
    | _ => none
  | .setTarget =>
    match t with
    | .house | .aisle => some .houseTarget
    | _ => none
  | .strike | .extinguish | .newRod => some .arc
  | .load | .unload | .inch | .start | .stop | .openDowser | .swap => some .projector
  | .add | .insert | .remove | .reelCue | .clearList | .repeatShow => some .reelList
  | .skipReel => some .skip
  | .engage | .disengage | .startShow => some .show
  | .resume | .clearConditions | .lockStation | .unlockStation | .generalReset => some .consoleControl
  | .stopAll => some .emergencyStop
  | .drop => some .drop
  | .alert | .fireClear => some .firePanel
  | .fireAck | .raise => some .fireReset
  | .loadPreset | .savePreset => some .settings

/-- The target is a lamp. -/
def isArc : Target → Bool
  | .arc _ => true
  | _ => false

/-- The target is a projector. -/
def isProjector : Target → Bool
  | .proj _ => true
  | _ => false

/-- The target is a function or names a setting of the table: what READ takes (R23, R32), and what has a function record
(R31). -/
def targetPresent : Target → Bool
  | .noTarget => false
  | .unknown _ => false
  | .setting n => settingExists n
  | _ => true

/-- The targets a kind takes (R23). -/
def takesTarget (k : Kind) (t : Target) : Bool :=
  match k with
  | .inquire => true
  | .read => targetPresent t
  | .readReel => decide (t = .reels)
  | .readConditions => decide (t = .noTarget)
  | .setMode => decide (t = .house) || decide (t = .aisle) || isArc t
  | .setValue =>
    match t with
    | .house | .aisle | .arc _ => true
    | .setting n => settingExists n
    | _ => false
  | .setTarget => decide (t = .house) || decide (t = .aisle)
  | .strike | .extinguish | .newRod => isArc t
  | .load | .unload | .inch | .start | .stop | .openDowser | .swap => isProjector t
  | .add | .insert | .remove | .reelCue | .clearList | .repeatShow | .skipReel => decide (t = .reels)
  | .engage | .disengage | .startShow | .resume => decide (t = .automation)
  | .clearConditions | .lockStation | .unlockStation | .generalReset | .stopAll => decide (t = .noTarget)
  | .alert | .fireClear | .drop | .fireAck | .raise => decide (t = .shutters)
  | .loadPreset | .savePreset => decide (t = .presets)

/-- Steps 1 to 3 of R25, then the work of the owning block (steps 4 to 7). -/
def judge (n : Station) (k : Kind) (t : Target) (work : State → Judged) (s : State) : Judged :=
  match groupOf k t with
  | none => answerRefused s .refusedFormat 0
  | some g =>
    if g.allows s.line.stations[n].role = false then answerRefused s .refusedRole 0
    else if s.line.stations[n].locked = true ∧ g ≠ .inquiry then answerRefused s .refusedLocked 0
    else if takesTarget k t = false then answerRefused s .refusedFormat 0
    else work s

/-! ### Taking a request (R16, R18, R13, R14) -/

/-- The most answers that wait while an ordinary entry is still taken, and the depth of the reply queue (R16, R15). -/
def ordinaryRoom : Nat := 14
/-- The reply queue holds at most 16 answers (R15). -/
def replyDepth : Nat := 16
/-- An inbound queue holds at most 8 entries (R7). -/
def queueDepth : Nat := 8

/-- The request unit may take an ordinary entry: no priority entry waits, and fewer than 14 answers do (R13, R16). -/
def State.mayTake (s : State) : Bool := s.line.lane.isEmpty && decide (s.line.replies.length < ordinaryRoom)

/-- An answer joins the end of the reply queue (R15). -/
def queueAnswer (n : Station) (kind : Nat) (x : Judged) : State :=
  x.1.onLine fun u =>
    { u with replies := u.replies ++ [{ station := n, kind := kind, status := x.2.status, data := x.2.data }] }

/-- An entry lost from a full inbound queue, or an answer from a full reply queue: the station's overrun mark is set and
LINE_FAULT raised with the station (R9, R14). -/
def loseForStation (n : Station) (s : State) : State :=
  raiseCondition .lineFault { unit := .station n, f := none, t := none } (s.onStation n fun x => { x with overrun := true })

/-- A priority entry's answer joins the reply queue while it holds fewer than 16, and is lost when it is full (R14). -/
def queuePriorityAnswer (n : Station) (kind : Nat) (x : Judged) : State :=
  if x.1.line.replies.length < replyDepth then queueAnswer n kind x else loseForStation n x.1

/-- A station is strapped ABSENT: it never has an entry taken (R6). -/
def State.absent (s : State) (n : Station) : Bool := decide (s.line.stations[n].role = .absent)

/-- A request of an ordinary kind as a command: handled by the request unit as R18 gives, steps 2 and 3, when it may take
one; else it waits (log entry 3). -/
def takeRequest (n : Station) (k : Kind) (t : Target) (work : State → Judged) (s : State) : Result :=
  .next (if s.absent n = false ∧ s.mayTake = true then queueAnswer n k.code (judge n k t work s) else s)

/-- A DROP or STOP_ALL as a command: taken at once, its answer placed as R14 states (log entry 3). -/
def takePriority (n : Station) (k : Kind) (t : Target) (work : State → Judged) (s : State) : Result :=
  .next (if s.absent n then s else queuePriorityAnswer n k.code (judge n k t work s))

end Sys2Proof.Machine
end

