-- ==== Sys2Proof/Machine/Codes.lean ====
section
/-! DEFINITION. The codes of R184 for the values carried in requests, answers and the outbound frame. -/

namespace Sys2Proof.Machine

open Sys2Proof

/-- The code of a projector state (R184). -/
def ProjectorState.code : ProjectorState → Nat
  | .idle => 0 | .threaded => 1 | .inching => 2 | .starting => 3 | .running => 4 | .onScreen => 5 | .runout => 6
  | .stopped => 7 | .broken => 8

/-- The code of a lamp state (R184). -/
def LampState.code : LampState → Nat
  | .dark => 0 | .settling => 1 | .striking => 2 | .warming => 3 | .lit => 4

/-- The code of an automation state (R30). -/
def Automation.code : Automation → Nat
  | .off => 0 | .engaged => 1 | .halted => 2

/-- The code of a fire state (R150). -/
def FireState.code : FireState → Nat
  | .clear => 0 | .alert => 1 | .dropped => 2 | .resetPending => 3

/-- The code of a countdown state (R94). -/
def CountdownState.code : CountdownState → Nat
  | .none => 0 | .ordered => 1 | .unordered => 2

/-- The code of a shutter state (R184). -/
def ShutterState.code : ShutterState → Nat
  | .down => 0 | .raising => 1 | .up => 2 | .falling => 3 | .jammed => 4

/-- The code of a record status (R184). -/
def RecordStatus.code : RecordStatus → Nat
  | .waiting => 0 | .bound => 1 | .running => 2 | .showing => 3 | .shown => 4 | .interrupted => 5 | .skipped => 6

/-- The code of a mode (R184). -/
def Mode.code : Mode → Nat
  | .manual => 0 | .auto => 1 | .trim => 2

/-- The mode a code names (R184). -/
def Mode.ofCode : Nat → Option Mode
  | 0 => some .manual
  | 1 => some .auto
  | 2 => some .trim
  | _ => none

/-- The code of an answer status (R184). -/
def Status.code : Status → Nat
  | .done => 0 | .clamped => 1 | .heldAuto => 2 | .heldManual => 3 | .refusedRole => 4 | .refusedLocked => 5
  | .refusedState => 6 | .refusedRange => 7 | .refusedFormat => 8 | .refusedBusy => 9 | .full => 10 | .lineFault => 11

/-- The code of a side where a table names A before B at 0 (R183). -/
def sideBit : Side → Nat
  | .a => 0
  | .b => 1

/-- The code of a port (R184). -/
def portCode : Port → Nat
  | .a => 1 | .b => 2 | .observation1 => 3 | .observation2 => 4

/-- The code of the unit of a detail (R184). -/
def DetailUnit.code : DetailUnit → Nat
  | .nothing => 0
  | .projector .a => 1
  | .projector .b => 2
  | .lamp .a => 3
  | .lamp .b => 4
  | .port .a => 5
  | .port .b => 6
  | .port .observation1 => 7
  | .port .observation2 => 8
  | .station n => 9 + n.val

/-- Open or closed: 0 open, 1 closed (R184, log entry 12). -/
def contactCode : Contact → Nat
  | .opened => 0
  | .closed => 1

/-- Intact or open: 0 intact, 1 open (R184). -/
def linkCode : FireLink → Nat
  | .intact => 0
  | .opened => 1

/-- A timer as READ gives it: 65,535 when stopped, else the tenths left (R183). -/
def ReadTimer.readCode (x : ReadTimer) : Nat := x.elim 65535 TimeLeft.tenths

end Sys2Proof.Machine
end

