-- ==== Sys2Proof/Machine/Frame.lean ====
section
/-! DEFINITION. The outbound frame: its 23 characters (R2, R3, R180), the answer it carries (R12, R15), and the check
(R1). -/

namespace Sys2Proof.Machine

open Sys2Proof

/-- A value as one character. -/
def char (n : Nat) : Character := BitVec.ofNat 8 n

/-- A number in two characters, high first (chapter 11). -/
def twoChars (n : Nat) : List Nat := [n / 256 % 256, n % 256]

/-- The character that makes a sum 0 modulo 256 (R1, R15). -/
def checkOf (values : List Nat) : Nat := (256 - values.sum % 256) % 256

/-- The eight characters of an answer, the overrun note at bit 7 of the third (chapter 11, 11.4). -/
def answerChars (x : Answer) (overrun : Bool) : List Nat :=
  let seven :=
    [x.station.val + 1, x.kind, x.status.code + 128 * flag overrun, x.data / 16777216 % 256, x.data / 65536 % 256,
      x.data / 256 % 256, x.data % 256]
  seven ++ [checkOf seven]

/-- The item tags (R3): countdown, rod stock A, rod stock B, answer. -/
def itemTags (s : State) : Nat :=
  flagSet [decide (s.seq.countdown.state = .ordered), s.lamp.a.rodValid, s.lamp.b.rodValid, !s.line.replies.isEmpty]

/-- The six hold marks, station n at bit n − 1 (R10, R180). -/
def holdMarks (s : State) : Nat := flagSet (s.line.stations.toList.map StationRecord.hold)

/-- The rod stock item of a lamp: zeros while its tag is clear (R2, R3). -/
def rodItem (x : Lamp) : Nat := if x.rodValid then x.stockMillimetres else 0

/-- The countdown item: T while the countdown is ORDERED, else zeros (R94). -/
def countdownItem (s : State) : Nat :=
  if s.seq.countdown.state = .ordered then s.seq.countdown.t.getD 0 else 0

/-- The answer item: the oldest answer with the overrun note of its station, or zeros (R12, R15). -/
def answerItem (u : LineUnit) : List Nat :=
  match u.replies with
  | [] => List.replicate 8 0
  | x :: _ => answerChars x u.stations[x.station].overrun

/-- The 22 characters before the check (R180). -/
def frameItems (s : State) : List Nat :=
  [150, itemTags s, holdMarks s, s.attention + 16 * s.seq.automation.code + 64 * s.fire.state.code,
    s.proj.a.state.code + 16 * s.proj.b.state.code, s.lamp.a.state.code + 16 * s.lamp.b.state.code,
    s.lights.house.reported, s.lights.aisle.reported]
    ++ twoChars (countdownItem s) ++ twoChars (rodItem s.lamp.a) ++ twoChars (rodItem s.lamp.b) ++ answerItem s.line

/-- The whole frame (R1, R180). -/
def frameOf (s : State) : List Character := (frameItems s ++ [checkOf (frameItems s)]).map char

/-- The oldest answer leaves the reply queue, and the note clears its station's overrun mark (R12, R15). -/
def LineUnit.answerSent (u : LineUnit) : LineUnit :=
  match u.replies with
  | [] => u
  | x :: rest =>
    { u with
      replies := rest
      stations := u.stations.set x.station { u.stations[x.station] with overrun := false } }

/-- The frame builder builds and sends the frame of a boundary (R1). -/
def sendFrame (s : State) : State :=
  let chars := frameOf s
  s.onLine fun u => { u.answerSent with frame := chars }

end Sys2Proof.Machine
end

