-- ==== Sys2Proof/Machine/PresetRequests.lean ====
section
/-! DEFINITION. The preset channels: LOAD_PRESET (R175), SAVE_PRESET and the end of a save (R174). -/

namespace Sys2Proof.Machine

open Sys2Proof

/-- LOAD_PRESET (R175). -/
def loadPresetWork (n : Nat) (s : State) : Judged :=
  if 3 < n then answerRefused s .refusedRange 1
  else if s.store.save.isSome = true then answerRefused s .refusedBusy 0
  else if s.outgoing.isSome = true ∨ s.seq.automation ≠ .off then answerRefused s .refusedState 0
  else
    let s1 := applySettings (s.store.channel n) s
    let s2 := evaluateFormat (s1.onStore fun x => { x with startChannel := n, checkGood := true })
    answerDone s2 s2.reels.code

/-- SAVE_PRESET (R174). -/
def savePresetWork (n : Nat) (s : State) : Judged :=
  if n = 0 ∨ 3 < n then answerRefused s .refusedRange 1
  else if s.store.save.isSome = true then answerRefused s .refusedBusy 0
  else
    answerDone
      (s.onStore fun x =>
        { x with
          checkGood := false
          save := some { channel := n, image := x.working, timer := startTimeLeft saveTenths .between } }) 0

/-- A save has run to its end (R174). -/
def Store.saved (x : Store) (j : SaveJob) : Store :=
  { x.write j.channel j.image with startChannel := j.channel, checkGood := true, save := none }

/-- The save timer expires, when it is due (R174). -/
def finishSave (s : State) : State :=
  match s.store.save with
  | some j => if j.timer.due then s.onStore fun x => x.saved j else s
  | none => s

/-! ### The commands -/

/-- LOAD_PRESET (R175). -/
def execLoadPreset (n : Station) (t : Target) (channel : Nat) (s : State) : Result :=
  takeRequest n .loadPreset t (loadPresetWork channel) s

/-- SAVE_PRESET (R174). -/
def execSavePreset (n : Station) (t : Target) (channel : Nat) (s : State) : Result :=
  takeRequest n .savePreset t (savePresetWork channel) s

/-- SAVE_TIMER_EXPIRY (R174). -/
def execSaveTimerExpiry (s : State) : Result := .next (finishSave s)

end Sys2Proof.Machine
end

