-- ==== Sys2Proof/Machine/Inquiry.lean ====
section
/-! DEFINITION. The Inquiry group: INQUIRE (R31), READ (R32 and the item tables of each chapter), READ_REEL (R58) and
READ_CONDITIONS (R162). None of them changes anything but the reply queue. -/

namespace Sys2Proof.Machine

open Sys2Proof

/-! ### Function records (R30) -/

/-- The modes available to a target, MANUAL at bit 0, AUTO at bit 1, TRIM at bit 2 (R30, R183). -/
def targetModes : Target → Nat
  | .house => 3
  | .aisle => 3
  | .arc _ => 7
  | _ => 0

/-- The current mode of a target by its code, 3 for a target without modes (R31, R183). -/
def targetMode (s : State) : Target → Nat
  | .house => s.lights.house.mode.code
  | .aisle => s.lights.aisle.mode.code
  | .arc l => (s.lamp.get l).mode.code
  | _ => 3

/-- The minimum of a target's function record (R30). -/
def targetMinimum (s : State) : Target → Nat
  | .aisle => s.store.working.aisleMin
  | .setting n => (s.store.working.range n).1
  | _ => 0

/-- The maximum of a target's function record (R30). -/
def targetMaximum (s : State) : Target → Nat
  | .house => 100
  | .aisle => 100
  | .arc l => (s.store.working.lamp.get l).fmax
  | .proj _ => maxF
  | .shutters => 4
  | .automation => 2
  | .reels => 24
  | .presets => 3
  | .setting n => (s.store.working.range n).2
  | _ => 0

/-- The number of port shutters UP (R139). -/
def shuttersUp (u : FireUnit) : Nat :=
  flag (decide (u.a.state = .up)) + flag (decide (u.b.state = .up)) + flag (decide (u.observation1.state = .up))
    + flag (decide (u.observation2.state = .up))

/-- The value of a target's function record (R30). -/
def targetValue (s : State) : Target → Nat
  | .house => s.lights.house.reported
  | .aisle => s.lights.aisle.reported
  | .arc l => (s.store.working.lamp.get l).manualRate
  | .proj p => (s.proj.get p).f
  | .shutters => shuttersUp s.fire
  | .automation => s.seq.automation.code
  | .reels => s.reels.records.length
  | .presets => s.store.startChannel
  | .setting n => s.store.working.value n
  | _ => 0

/-- One part of a function record; a target that has none reads as zeros with the present flag clear (R31). -/
def functionPart (s : State) (t : Target) (part : Nat) : Option Nat :=
  match part with
  | 1 => some (if targetPresent t then fourChars 1 (targetModes t) (targetMode s t) 0 else 0)
  | 2 => some (if targetPresent t then targetMinimum s t else 0)
  | 3 => some (if targetPresent t then targetMaximum s t else 0)
  | 4 => some (if targetPresent t then targetValue s t else 0)
  | _ => none

/-- INQUIRE: a part other than the four is refused (R31). -/
def inquireWork (t : Target) (part : Nat) (s : State) : Judged :=
  match functionPart s t part with
  | some d => answerDone s d
  | none => answerRefused s .refusedRange 1

/-! ### The items of READ -/

/-- The items of HOUSE and AISLE (R137). -/
def lightItem (x : Light) : Nat → Option Nat
  | 1 => some x.mode.code
  | 2 => some x.level
  | 3 => some x.target
  | 4 => some (codeAndNumber (flag x.step.isNone) (x.step.getD 0))
  | 5 =>
    match x.step with
    | none => some 0
    | some n => some (divUp (if x.target ≤ x.level then x.level - x.target else x.target - x.level) n)
  | _ => none

/-- The items of ARC_A and ARC_B (R123). -/
def lampItem (x : Lamp) : Nat → Option Nat
  | 1 => some x.state.code
  | 2 => some x.mode.code
  | 3 => some (codeAndNumber (flag x.rectifierClosed) x.iset)
  | 4 => some x.amperes
  | 5 => some x.volts
  | 6 => some x.f
  | 7 => some x.stock
  | 8 => some x.fed
  | 9 => some (flagSet [x.highLimit, x.lowLimit, x.rodOut, x.rodValid])
  | 10 => some x.attempt
  | 11 => some (fourChars x.trimIntervals 0 0 x.trimConverge)
  | 12 => some (ReadTimer.readCode x.warmTimer)
  | _ => none

/-- The items of PROJ_A and PROJ_B (R87, R155). -/
def projectorItem (s : State) (p : Side) : Nat → Option Nat
  | 1 => some (s.proj.get p).state.code
  | 2 => some (s.proj.get p).f
  | 3 => some (s.proj.get p).rate
  | 4 => some ((s.boundReel p).elim 0 Reel.number)
  | 5 => some (flag (s.proj.get p).startPending)
  | 6 => some (s.proj.get p).marks
  | 7 => some (flag (s.proj.get p).windowOpen)
  | 8 => some (contactCode (s.proj.get p).filmLoss)
  | 9 => some (contactCode (s.proj.get p).gate)
  | 10 => some (s.proj.get p).stall
  | _ => none

/-- The items of SHUTTERS (R150). -/
def fireItem (u : FireUnit) : Nat → Option Nat
  | 1 => some u.state.code
  | 2 => some (linkCode u.link)
  | 3 => some u.a.state.code
  | 4 => some u.b.state.code
  | 5 => some u.observation1.state.code
  | 6 => some u.observation2.state.code
  | 7 => some u.stations
  | _ => none

/-- The outgoing record: the SHOWING record of the outgoing projector (R73). -/
def State.outgoingReel (s : State) : Option Reel := s.outgoing.bind s.boundReel

/-- The incoming record: the record that follows the outgoing record in a linked pair (R73). -/
def State.incomingReel (s : State) : Option Reel := s.outgoingReel.bind (incomingOf s.reels.records)

/-- The items of AUTOMATION (R87, R94). -/
def automationItem (s : State) : Nat → Option Nat
  | 1 => some s.seq.automation.code
  | 2 => some (match s.outgoing with | none => 0 | some .a => 1 | some .b => 2)
  | 3 => some (flagSet [s.seq.strikeTaken, s.seq.motorTaken, s.seq.swapReached, s.seq.swapDue])
  | 4 => some (ReadTimer.readCode s.seq.douse.a * 65536 + ReadTimer.readCode s.seq.douse.b)
  | 5 => some s.seq.countdown.state.code
  | 6 => some (if s.seq.countdown.state = .ordered then s.seq.countdown.t.getD 0 else 0)
  | 7 => some (if s.seq.countdown.state = .none then 0 else s.seq.countdown.n.getD 0)
  | 8 =>
    some (flagSet [s.seq.countdown.overrun, s.seq.countdown.unordered, s.seq.countdown.inexact,
      s.seq.countdown.saturated])
  | 9 => some (s.incomingReel.elim 0 fun r => motorLead r s.store.working)
  | 10 => some (s.incomingReel.elim 0 fun r => rodNeed r (s.store.working.lamp.get r.projector))
  | _ => none

/-- The items of REELS (R58). -/
def reelsItem (x : ReelList) : Nat → Option Nat
  | 1 => some x.records.length
  | 2 => some x.code
  | 3 => some x.faultReel
  | 4 => some ((nextFor x.records .a).elim 0 Reel.number)
  | 5 => some ((nextFor x.records .b).elim 0 Reel.number)
  | 6 => some ((boundTo x.records .a).elim 0 Reel.number)
  | 7 => some ((boundTo x.records .b).elim 0 Reel.number)
  | _ => none

/-- The items of PRESETS (R178). -/
def presetsItem (x : Store) : Nat → Option Nat
  | 1 => some x.startChannel
  | 2 => some (x.save.elim 0 SaveJob.channel)
  | 3 => some (x.save.elim 0 fun j => j.timer.tenths)
  | 4 => some (flag x.rebuilt)
  | _ => none

/-- The items of a SETTING target: the working value and that of each channel (R178). -/
def settingItem (x : Store) (n : Nat) : Nat → Option Nat
  | 1 => some (x.working.value n)
  | 2 => some ((x.channel 0).value n)
  | 3 => some ((x.channel 1).value n)
  | 4 => some ((x.channel 2).value n)
  | 5 => some ((x.channel 3).value n)
  | _ => none

/-- One item of a target's state, as the owning block holds it (R32). -/
def targetItem (s : State) (t : Target) (item : Nat) : Option Nat :=
  match t with
  | .house => lightItem s.lights.house item
  | .aisle => lightItem s.lights.aisle item
  | .arc l => lampItem (s.lamp.get l) item
  | .proj p => projectorItem s p item
  | .shutters => fireItem s.fire item
  | .automation => automationItem s item
  | .reels => reelsItem s.reels item
  | .presets => presetsItem s.store item
  | .setting n => settingItem s.store n item
  | _ => none

/-- READ: an item the target does not have is refused (R32). -/
def readWork (t : Target) (item : Nat) (s : State) : Judged :=
  match targetItem s t item with
  | some d => answerDone s d
  | none => answerRefused s .refusedRange 1

/-! ### READ_REEL and READ_CONDITIONS -/

/-- The record a reel number names: the number lies in 1 to 99 and is in the list (R46, R50). -/
def namedReel (s : State) (n : Nat) : Option Reel :=
  if 1 ≤ n ∧ n ≤ 99 then findReel s.reels.records n else none

/-- The packing of READ_REEL (R183). -/
def reelSummary (records : List Reel) (r : Reel) : Nat :=
  let e := r.effectiveEnd
  fourChars
    (positionOf records r.number % 32 + 32 * flag r.measuredEnd.isSome + 64 * (e / 65536 % 2))
    (r.status.code + 8 * sideBit r.projector + 16 * flag r.last + 32 * flag r.intermission + 64 * flag r.cue.isSome
      + 128 * flag r.cueTaken)
    (e / 256 % 256) (e % 256)

/-- READ_REEL: a number that names no record is refused (R58). -/
def readReelWork (n : Nat) (s : State) : Judged :=
  match namedReel s n with
  | some r => answerDone s (reelSummary s.reels.records r)
  | none => answerRefused s .refusedRange 1

/-- A set of conditions as a 16-bit number: condition k has weight 2 to the power k − 1 (R183). -/
def conditionSet (f : Condition → Bool) : Nat := flagSet (allConditions.map f)

/-- The condition a number 1 to 15 names (R156). -/
def conditionOf (n : Nat) : Option Condition := if n = 0 then none else allConditions[n - 1]?

/-- The detail a record shows: none while its accrued flag is clear (R162). -/
def ConditionRecord.shown (r : ConditionRecord) : Detail := if r.accrued then r.detail else Detail.empty

/-- Part 1 of a condition record (R162, R183). -/
def conditionPart1 (s : State) (k : Condition) : Nat :=
  let d := (s.record k).shown
  fourChars (flagSet [(s.record k).accrued, s.current k, d.t.isSome]) d.unit.code (d.t.getD 0 / 256) (d.t.getD 0 % 256)

/-- Part 2 of a condition record (R162, R183). -/
def conditionPart2 (s : State) (k : Condition) : Nat :=
  let d := (s.record k).shown
  fourChars (flag d.f.isSome) (d.f.getD 0 / 65536) (d.f.getD 0 / 256 % 256) (d.f.getD 0 % 256)

/-- READ_CONDITIONS: both sets for number 0, or one part of one record; a field out of range is refused with its number
(R162). -/
def readConditionsWork (n part : Nat) (s : State) : Judged :=
  if n = 0 then
    answerDone s (conditionSet (fun k => (s.record k).accrued) * 65536 + conditionSet s.current)
  else
    match conditionOf n with
    | none => answerRefused s .refusedRange 1
    | some k =>
      match part with
      | 1 => answerDone s (conditionPart1 s k)
      | 2 => answerDone s (conditionPart2 s k)
      | _ => answerRefused s .refusedRange 2

/-! ### The commands -/

/-- INQUIRE (R31). -/
def execInquire (n : Station) (t : Target) (part : Nat) (s : State) : Result :=
  takeRequest n .inquire t (inquireWork t part) s

/-- READ (R32). -/
def execRead (n : Station) (t : Target) (item : Nat) (s : State) : Result := takeRequest n .read t (readWork t item) s

/-- READ_REEL (R58). -/
def execReadReel (n : Station) (t : Target) (reel : Nat) (s : State) : Result :=
  takeRequest n .readReel t (readReelWork reel) s

/-- READ_CONDITIONS (R162). -/
def execReadConditions (n : Station) (t : Target) (condition part : Nat) (s : State) : Result :=
  takeRequest n .readConditions t (readConditionsWork condition part) s

end Sys2Proof.Machine
end

