-- ==== Sys2Proof/Machine/Sequence.lean ====
section
/-! DEFINITION. The changeover sequencer's own steps (chapters 4, 5 and 7): the swap point and its endings, the late
swap, the lead tests, the show start, the house cue, the douse and the cue marks. Each is one function that the period
boundary and the row of its own both use (log entry 4). -/

namespace Sys2Proof.Machine

open Sys2Proof

/-- Automation is ENGAGED: the automatic actions are taken only then (R70). -/
def State.engaged (s : State) : Bool := decide (s.seq.automation = .engaged)

/-- A record is bound to its projector (R73). -/
def State.reelBound (s : State) (r : Reel) : Bool :=
  decide ((s.boundReel r.projector).map Reel.number = some r.number)

/-- The incoming projector, when it is ready with the incoming record bound (R77). -/
def State.incomingReady (s : State) : Option Side :=
  match s.incomingReel with
  | none => none
  | some r => if s.reelBound r = true ∧ s.ready r.projector = true then some r.projector else none

/-! ### The swap point (R77 to R81) -/

/-- The swap point with the incoming not ready: the changeover is missed (R79). -/
def missChangeover (outgoing : Side) (s : State) : State :=
  let s1 := s.onSeq fun q => { q with swapDue := q.swapDue || s.incomingReel.isSome }
  raiseCondition .missedChangeover (s1.detailOf (.projector outgoing) outgoing) s1

/-- The intermission ending (R80). -/
def intermissionEnding (outgoing : Side) (m : Moment) (s : State) : State :=
  let t := s.store.working
  startDouse outgoing m (automaticFade t.intermissionLevel t.showRamp (leaveScreen outgoing .runout s))

/-- The last-reel ending: automation goes to OFF last, so that the douse timer starts under ENGAGED (R81, R82). -/
def lastReelEnding (outgoing : Side) (m : Moment) (s : State) : State :=
  automationOff (startDouse outgoing m (automaticFade 100 s.store.working.endRamp (leaveScreen outgoing .runout s)))

/-- The outgoing record's ending (R77). -/
def takeEnding (outgoing : Side) (r : Reel) (m : Moment) (s : State) : State :=
  if r.intermission then intermissionEnding outgoing m s
  else if r.last then lastReelEnding outgoing m s
  else
    match s.incomingReady with
    | some p => swapScreens p outgoing m s
    | none => missChangeover outgoing s

/-- The swap point is reached, once for an outgoing record (R77). -/
def reachSwapPoint (m : Moment) (s : State) : State :=
  match s.outgoing, s.outgoingReel with
  | some p, some r =>
    if s.seq.swapReached then s else takeEnding p r m (s.onSeq fun q => { q with swapReached := true })
  | _, _ => s

/-- The countdown meets the swap point (R96). -/
def State.countdownAtSwap (s : State) : Bool :=
  decide (s.seq.countdown.state = .ordered) && decide (s.seq.countdown.t = some 0) && s.seq.countdown.overrun

/-- The swap-point test (R77). -/
def swapPointTest (m : Moment) (s : State) : State :=
  if s.engaged = true ∧ s.countdownAtSwap = true then reachSwapPoint m s else s

/-- The late swap (R79). -/
def lateSwapTest (m : Moment) (s : State) : State :=
  if s.engaged = true ∧ s.seq.swapDue = true then
    match s.outgoing, s.incomingReady with
    | some o, some p => swapScreens p o m s
    | _, _ => s
  else s

/-! ### The lead tests (R74 to R76, R97) -/

/-- The outgoing projector and the incoming record for which a lead test is made: the outgoing record has neither flag
set and the incoming record is bound (R74, R76). -/
def State.leadPair (s : State) : Option (Side × Reel) :=
  match s.outgoing, s.outgoingReel, s.incomingReel with
  | some p, some o, some r =>
    if o.intermission = false ∧ o.last = false ∧ s.reelBound r = true then some (p, r) else none
  | _, _, _ => none

/-- An ordered countdown has reached a lead. -/
def State.countdownWithin (s : State) (lead : Nat) : Bool :=
  match s.seq.countdown.t with
  | some t => decide (s.seq.countdown.state = .ordered) && decide (t ≤ lead)
  | none => false

/-- A lead test is due and the countdown is unordered: UNORDERED is raised once in the spell (R97). -/
def raiseUnordered (outgoing : Side) (s : State) : State :=
  if s.seq.countdown.raised then s
  else
    raiseCondition .unordered { unit := .projector outgoing, f := some (s.proj.get outgoing).f, t := none }
      (s.onSeq fun q => { q with countdown := { q.countdown with raised := true } })

/-- An unaware test: its action when the ordered countdown has reached the lead, UNORDERED when there is no number. -/
def unawareTest (outgoing : Side) (lead : Nat) (act : State → State) (s : State) : State :=
  if s.seq.countdown.state = .unordered then raiseUnordered outgoing s
  else if s.countdownWithin lead then act s
  else s

/-- An automatic strike (R106): asked of a DARK lamp while the fire state is CLEAR or ALERT. -/
def automaticStrike (l : Side) (m : Moment) (s : State) : State :=
  if (s.lamp.get l).state = .dark ∧ s.fireAllows = true then beginStrike l m s else s

/-- The rod of the lamp of a record's projector meets the record's need (R102). -/
def State.rodSuffices (s : State) (r : Reel) : Bool :=
  decide (rodNeed r (s.store.working.lamp.get r.projector) ≤ (s.lamp.get r.projector).stock)

/-- The action of the strike test: the strike, or its withholding (R74, R75). -/
def strikeIncoming (outgoing : Side) (r : Reel) (m : Moment) (s : State) : State :=
  if s.rodSuffices r then
    (automaticStrike r.projector m s).onSeq fun q => { q with strikeTaken := true }
  else
    withholdStrike { lamp := r.projector, reel := r.number, outgoing := some outgoing }
      (s.detailOf (.lamp r.projector) outgoing) s

/-- The strike test (R74). -/
def strikeTest (m : Moment) (s : State) : State :=
  match s.leadPair with
  | none => s
  | some (p, r) =>
    if s.engaged = true ∧ (s.lamp.get r.projector).state = .dark ∧ s.seq.strikeTaken = false then
      unawareTest p s.store.working.sLead (strikeIncoming p r m) s
    else s

/-- The start of the incoming projector, by the test or by the cue (R76). -/
def startIncoming (r : Reel) (m : Moment) (s : State) : State :=
  (askStart r.projector m s).onSeq fun q => { q with motorTaken := true }

/-- The conditions of the motor test other than the countdown (R76). -/
def State.motorPair (s : State) : Option (Side × Reel) :=
  match s.leadPair with
  | none => none
  | some (p, r) =>
    if s.engaged = true ∧ (s.proj.get r.projector).state = .threaded ∧ s.seq.motorTaken = false then some (p, r)
    else none

/-- The motor test (R76). -/
def motorTest (m : Moment) (s : State) : State :=
  match s.motorPair with
  | none => s
  | some (p, r) => unawareTest p (motorLead r s.store.working) (startIncoming r m) s

/-- The motor cue applies the same start by the mark (R76). -/
def applyMotorCue (m : Moment) (s : State) : State :=
  match s.motorPair with
  | none => s
  | some (_, r) => startIncoming r m s

/-! ### The show start (R84) -/

/-- The step is the sequencer's to take: ENGAGED, with the projector's start pending. -/
def State.starting (s : State) (p : Side) : Bool := s.engaged && (s.proj.get p).startPending

/-- Step 1: the strike, or its withholding (R84, R102). -/
def showStartStrike (p : Side) (m : Moment) (s : State) : State :=
  match s.boundReel p with
  | none => s
  | some r =>
    if s.starting p = true ∧ (s.lamp.get p).state = .dark then
      if s.rodSuffices r then automaticStrike p m s
      else
        withholdStrike { lamp := p, reel := r.number, outgoing := none } (s.detailOf (.lamp p) p) s
    else s

/-- Step 2: the show fade and the start (R84, R131). -/
def showStartFadeAndMotor (p : Side) (m : Moment) (s : State) : State :=
  if s.starting p = true ∧ (s.lamp.get p).state = .lit ∧ (s.proj.get p).startFade = false then
    let s1 := automaticFade s.store.working.showLevel s.store.working.showRamp s
    askStart p m (s1.onProj p fun x => { x with startFade := true })
  else s

/-- Step 3: the open (R84). -/
def showStartOpen (p : Side) (s : State) : State :=
  match s.boundReel p with
  | none => s
  | some r =>
    if s.starting p = true ∧ r.leader ≤ (s.proj.get p).f ∧ s.openAllowed p = true then enterScreen p s else s

/-! ### The house cue, the douse and the cue marks -/

/-- The house cue is reached: the record's flag is set, and in AUTO its ramp begins (R132). -/
def takeHouseCue (r : Reel) (c : HouseCue) (s : State) : State :=
  automaticFade c.level c.ramp
    (s.onReels fun x =>
      { x with records := x.records.map fun y => if y.number = r.number then { y with cueTaken := true } else y })

/-- The house cue of the outgoing record is judged (R132). -/
def judgeHouseCue (s : State) : State :=
  match s.outgoingReel with
  | none => s
  | some r =>
    match r.cue, s.seq.countdown.n with
    | some c, some n =>
      if s.engaged = true ∧ r.cueTaken = false ∧ n ≤ c.point then takeHouseCue r c s else s
    | _, _ => s

/-- A douse timer expires, when it is due: the lamp is extinguished unless automation is HALTED (R82). -/
def expireDouse (l : Side) (s : State) : State :=
  if ReadTimer.due (s.seq.douse.get l) then
    let s1 := s.onSeq fun q => { q with douse := q.douse.set l none }
    if s.seq.automation = .halted then s1 else extinguishLamp l s1
  else s

/-- Em of the record bound to a projector is learned (R57). -/
def learnEnd (p : Side) (s : State) : State :=
  s.onReels fun x =>
    { x with
      records := x.records.map fun r =>
        if r.projector = p && r.isBound then { r with measuredEnd := some (s.proj.get p).f } else r }

/-- Marks counted on a projector. -/
def setMarks (p : Side) (n : Nat) (s : State) : State := s.onProj p fun x => { x with marks := n }

/-- A mark counted as the changeover cue (R69, R57, R77). -/
def countChangeoverCue (p : Side) (m : Moment) (s : State) : State :=
  let s1 := setMarks p 2 s
  match s.seq.automation with
  | .halted => s1
  | .off => learnEnd p s1
  | .engaged => reachSwapPoint m (learnEnd p s1)

/-- A mark counted as the motor cue (R69, R76). -/
def countMotorCue (p : Side) (m : Moment) (s : State) : State :=
  let s1 := setMarks p 1 s
  if s.engaged then applyMotorCue m s1 else s1

/-- The cue detector reports a mark (R69). -/
def judgeMark (p : Side) (m : Moment) (s : State) : State :=
  if (s.proj.get p).state.moving then
    if s.onScreen p = false ∨ (s.proj.get p).windowOpen = false ∨ 2 ≤ (s.proj.get p).marks then
      raiseCondition .strayCue { unit := .projector p, f := some (s.proj.get p).f, t := none } s
    else if (s.proj.get p).marks = 0 then countMotorCue p m s
    else countChangeoverCue p m s
  else s

/-! ### The commands -/

/-- CUE_MARK (R69). -/
def execCueMark (p : Side) (s : State) : Result := .next (judgeMark p .between s)

/-- SWAP_POINT (R77). -/
def execSwapPoint (s : State) : Result := .next (swapPointTest .between s)

/-- LATE_SWAP (R79). -/
def execLateSwap (s : State) : Result := .next (lateSwapTest .between s)

/-- STRIKE_TEST (R74). -/
def execStrikeTest (s : State) : Result := .next (strikeTest .between s)

/-- MOTOR_TEST (R76). -/
def execMotorTest (s : State) : Result := .next (motorTest .between s)

/-- SHOW_START_STRIKE (R84). -/
def execShowStartStrike (p : Side) (s : State) : Result := .next (showStartStrike p .between s)

/-- SHOW_START_FADE_AND_MOTOR (R84). -/
def execShowStartFadeAndMotor (p : Side) (s : State) : Result := .next (showStartFadeAndMotor p .between s)

/-- SHOW_START_OPEN (R84). -/
def execShowStartOpen (p : Side) (s : State) : Result := .next (showStartOpen p s)

/-- HOUSE_CUE_REACHED (R132). -/
def execHouseCueReached (s : State) : Result := .next (judgeHouseCue s)

/-- DOUSE_TIMER_EXPIRY (R82). -/
def execDouseTimerExpiry (l : Side) (s : State) : Result := .next (expireDouse l s)

end Sys2Proof.Machine
end

