-- ==== Sys2Proof/Machine/Boundary.lean ====
section
/-! DEFINITION. The line period boundary (R1): the work of every block at a boundary, in the order R68, R73, R88, R94,
R125 and R132 give, and where they give none, in the order of log entry 6. -/

namespace Sys2Proof.Machine

open Sys2Proof

/-! ### The blocks' own work (R73) -/

/-- RATE counts the pulses of the last 40 periods (R60). -/
def ratePeriods : Nat := 40

/-- RATE stops at 127 (R60). -/
def maxRate : Nat := 127

/-- The pulses of the period just ended join the window, and those of 40 periods earlier leave it (R60). -/
def Projector.rateCounted (x : Projector) : Projector :=
  let w := x.window ++ [x.pulses]
  let kept := w.drop (w.length - ratePeriods)
  { x with window := kept, rate := min kept.sum maxRate, pulses := 0 }

/-- A switch that stood open as the projector went to INCHING or STARTING is judged at the first boundary after (R151). -/
def judgeStanding (p : Side) (s : State) : State :=
  let s1 := s.onProj p fun x => { x with lossCheck := false }
  if (s.proj.get p).lossCheck = true ∧ (s.proj.get p).filmLoss = .opened then judgeFilmLoss p s1 else s1

/-- The inch timer: it expires or is counted (R62). -/
def tickInch (p : Side) (s : State) : State :=
  if Timer.due (s.proj.get p).inchTimer then expireInch p s
  else s.onProj p fun x => { x with inchTimer := x.inchTimer.counted }

/-- The run-up: done at RATE 44, else its timer expires or is counted (R63). -/
def tickRunUp (p : Side) (s : State) : State :=
  if (s.proj.get p).state = .starting ∧ speedRate ≤ (s.proj.get p).rate then endRunUp p s
  else if Timer.due (s.proj.get p).runUpTimer then expireRunUp p s
  else s.onProj p fun x => { x with runUpTimer := x.runUpTimer.counted }

/-- A projector unit's own work of a boundary, but for the gate. -/
def projectorWork (p : Side) (s : State) : State := tickRunUp p (tickInch p (judgeStanding p s))

/-- The reading of an attempt under way: the arc is established, the timer expires, or both go on (R108). -/
def tickAttempt (l : Side) (amperes : Nat) (s : State) : State :=
  if (s.lamp.get l).attempting then
    if arcAmperes ≤ amperes then judgeArc l amperes .atBoundary s
    else if Timer.due (s.lamp.get l).attemptTimer then expireAttempt l amperes .atBoundary s
    else s.onLamp l fun x => { x with amperes := amperes, attemptTimer := x.attemptTimer.counted }
  else s

/-- The reading at the boundary at which an attempt begins (R108, log entry 9). -/
def firstReading (l : Side) (amperes : Nat) (s : State) : State :=
  if arcAmperes ≤ amperes then judgeArc l amperes .atBoundary s else s.onLamp l fun x => { x with amperes := amperes }

/-- A lamp unit's timers at a boundary (R107, R108, R110). -/
def lampWork (l : Side) (amperes : Nat) (s : State) : State :=
  match (s.lamp.get l).state with
  | .dark => s
  | .settling =>
    if Timer.due (s.lamp.get l).settlingTimer then firstReading l amperes (expireSettling l .atBoundary s)
    else s.onLamp l fun x => { x with settlingTimer := x.settlingTimer.counted }
  | .striking =>
    if Timer.due (s.lamp.get l).waitTimer then firstReading l amperes (expireWait l .atBoundary s)
    else if (s.lamp.get l).waitTimer.isSome then s.onLamp l fun x => { x with waitTimer := x.waitTimer.counted }
    else tickAttempt l amperes s
  | .warming =>
    if ReadTimer.due (s.lamp.get l).warmTimer then expireWarm l s
    else s.onLamp l fun x => { x with warmTimer := ReadTimer.counted x.warmTimer }
  | .lit => s

/-- The stall count and the gate thermal switch of an ON_SCREEN projector (R154). -/
def gateWork (p : Side) (s : State) : State :=
  if s.onScreen p then
    let count := if (s.proj.get p).rate < stallRate then (s.proj.get p).stall + 1 else 0
    if 10 ≤ count ∨ (s.proj.get p).gate = .opened then gateTrip p s
    else s.onProj p fun x => { x with stall := count }
  else s

/-- The current watch of a WARMING or LIT lamp (R111). -/
def arcWatch (l : Side) (amperes : Nat) (s : State) : State :=
  if (s.lamp.get l).watched then
    if amperes < arcAmperes ∧ 9 ≤ (s.lamp.get l).lowCurrent then expireArc l amperes .atBoundary s
    else
      s.onLamp l fun x =>
        { x with amperes := amperes, lowCurrent := if amperes < arcAmperes then x.lowCurrent + 1 else 0 }
  else s

/-- The feed interval clock: an interval falls, or the clock is counted (R113). -/
def tickFeed (l : Side) (volts amperes : Nat) (s : State) : State :=
  if Timer.due (s.lamp.get l).feedClock then feedInterval l volts amperes .atBoundary s
  else s.onLamp l fun x => { x with feedClock := x.feedClock.counted }

/-- One shutter's timers (R140, R142). -/
def tickShutter (q : Port) (s : State) : State :=
  if Timer.due (s.fire.get q).fallTimer then expireFall q s
  else if Timer.due (s.fire.get q).raiseTimer then expireRaise q s
  else
    s.onShutter q fun x => { x with fallTimer := x.fallTimer.counted, raiseTimer := x.raiseTimer.counted }

/-- The save timer (R174). -/
def tickSave (s : State) : State :=
  match s.store.save with
  | none => s
  | some j =>
    if j.timer.due then finishSave s
    else s.onStore fun x => { x with save := some { j with timer := j.timer.counted } }

/-- One douse timer (R82). -/
def tickDouse (l : Side) (s : State) : State :=
  if ReadTimer.due (s.seq.douse.get l) then expireDouse l s
  else s.onSeq fun q => { q with douse := q.douse.set l (ReadTimer.counted (q.douse.get l)) }

/-- The blocks' own work of a boundary, first of all (R73, log entry 6). -/
def ownWork (r : Readings) (s : State) : State :=
  let s1 := (s.onProj .a Projector.rateCounted).onProj .b Projector.rateCounted
  let s2 := projectorWork .b (projectorWork .a s1)
  let s3 := lampWork .b r.amperes.b (lampWork .a r.amperes.a s2)
  let s4 := gateWork .b (gateWork .a s3)
  let s5 := arcWatch .b r.amperes.b (arcWatch .a r.amperes.a s4)
  let s6 := tickFeed .b r.volts.b r.amperes.b (tickFeed .a r.volts.a r.amperes.a s5)
  let s7 := tickShutter .observation2 (tickShutter .observation1 (tickShutter .b (tickShutter .a s6)))
  tickDouse .b (tickDouse .a (tickSave (judgeLink s7)))

/-! ### The ramps, the countdown, the window -/

/-- Both channels take a step of a running ramp (R127). -/
def rampStep (s : State) : State := (s.onLight .house Light.advance).onLight .aisle Light.advance

/-- The countdown is evaluated for the ON_SCREEN projector's record, or set to NONE when none is on the screen (R88). -/
def countdownStep (s : State) : State :=
  match s.outgoing, s.outgoingReel with
  | some p, some r =>
    s.onSeq fun q =>
      { q with
        countdown :=
          evaluate (s.proj.get p).f r.effectiveEnd (s.proj.get p).rate s.store.working.stall s.store.working.rounding
            q.countdown.raised }
  | _, _ => s.onSeq fun q => { q with countdown := Countdown.absent }

/-- The cue window opens on T, or on N while the countdown is unordered (R68, R98). -/
def windowOpens (t : Settings) (c : Countdown) : Bool :=
  match c.state with
  | .none => false
  | .ordered => decide (c.t.getD (maxT + 1) ≤ t.cueWindow)
  | .unordered => decide (c.n.getD (maxF + 1) ≤ windowFrames t)

/-- The ON_SCREEN projector judges its cue window (R68). -/
def judgeWindow (s : State) : State :=
  match s.outgoing with
  | none => s
  | some p =>
    if windowOpens s.store.working s.seq.countdown then s.onProj p fun x => { x with windowOpen := true } else s

/-! ### The sequencer's tests (R73, R84) -/

/-- The lead tests, which are not made at a boundary whose swap has made a new outgoing record (R73). -/
def leadTests (evaluated : Option Side) (s : State) : State :=
  let s1 := if s.outgoing = evaluated then strikeTest .atBoundary s else s
  if s1.outgoing = evaluated then motorTest .atBoundary s1 else s1

/-- The four tests in their order (R73). -/
def sequencerTests (s : State) : State :=
  leadTests s.outgoing (lateSwapTest .atBoundary (swapPointTest .atBoundary s))

/-- The three steps of one projector's show start, a step whose condition already holds taken at the same boundary
(R84). -/
def showStartSteps (p : Side) (s : State) : State :=
  showStartOpen p (showStartFadeAndMotor p .atBoundary (showStartStrike p .atBoundary s))

/-- A projector has come ON_SCREEN that was not: in the blocks' own work, an emergency swap (R86). -/
def State.screenPassed (s t : State) : Bool :=
  (t.onScreen .a && !s.onScreen .a) || (t.onScreen .b && !s.onScreen .b)

/-- The evaluation of a boundary, the frame that carries it, and what is judged on it (R68, R73, R94, R132). -/
def evaluatedWork (s : State) : State :=
  sequencerTests (judgeHouseCue (judgeWindow (sendFrame (countdownStep s))))

/-- Everything done at a line period boundary. After an emergency swap in the blocks' own work the new outgoing record is
first evaluated and tested at the next boundary: the countdown record stands, and only the frame is sent (R73, R78, log
entry 7). -/
def boundary (r : Readings) (s : State) : State :=
  let s1 := rampStep (ownWork r s)
  let s2 := if s.screenPassed s1 then sendFrame s1 else evaluatedWork s1
  showStartSteps .b (showStartSteps .a s2)

/-! ### The command -/

/-- LINE_PERIOD_BOUNDARY (R1). -/
def execLinePeriodBoundary (r : Readings) (s : State) : Result := .next (boundary r s)

end Sys2Proof.Machine
end

