-- ==== Sys2Proof/Machine/AutomationRequests.lean ====
section
/-! DEFINITION. The requests on automation: ENGAGE (R71), DISENGAGE (R72), START_SHOW (R83) and RESUME (R166). -/

namespace Sys2Proof.Machine

open Sys2Proof

/-- ENGAGE (R71). DESIGN CHOICE (log entry 28): where both the format code and the fire state refuse it, R71 gives no
order and the code is the data. -/
def engageWork (s : State) : Judged :=
  if s.seq.automation ≠ .off then answerRefused s .refusedState 0
  else if s.reels.code ≠ 0 then answerRefused s .refusedState s.reels.code
  else if s.fireAllows = false then answerRefused s .refusedState 0
  else answerDone (s.onSeq fun q => { q with automation := .engaged }) 0

/-- DISENGAGE (R72). -/
def disengageWork (s : State) : Judged :=
  if s.seq.automation = .off then answerRefused s .refusedState 0 else answerDone (automationOff s) 0

/-- The projector that START_SHOW would start: that of the first record of the remaining show, bound, THREADED and with
its port shutter UP (R83). -/
def State.showStarter (s : State) : Option Side :=
  match remainingShow s.reels.records with
  | [] => none
  | r :: _ =>
    if r.isBound = true ∧ (s.proj.get r.projector).state = .threaded ∧ (s.fire.get r.projector.port).state = .up then
      some r.projector
    else none

/-- START_SHOW (R83). -/
def startShowWork (s : State) : Judged :=
  match s.showStarter with
  | none => answerRefused s .refusedState 0
  | some p =>
    if s.seq.automation = .engaged ∧ s.outgoing = none ∧ s.fireAllows = true then
      answerDone (s.onProj p fun x => { x with startPending := true }) 0
    else answerRefused s .refusedState 0

/-- RESUME (R166). -/
def resumeWork (s : State) : Judged :=
  if s.seq.automation = .halted ∧ s.current .fire = false ∧ s.current .filmBreak = false then
    answerDone (s.onSeq fun q => { q with automation := .engaged }) 0
  else answerRefused s .refusedState 0

/-! ### The commands -/

/-- ENGAGE (R71). -/
def execEngage (n : Station) (t : Target) (s : State) : Result := takeRequest n .engage t engageWork s

/-- DISENGAGE (R72). -/
def execDisengage (n : Station) (t : Target) (s : State) : Result := takeRequest n .disengage t disengageWork s

/-- START_SHOW (R83). -/
def execStartShow (n : Station) (t : Target) (s : State) : Result := takeRequest n .startShow t startShowWork s

/-- RESUME (R166). -/
def execResume (n : Station) (t : Target) (s : State) : Result := takeRequest n .resume t resumeWork s

end Sys2Proof.Machine
end

