-- ==== Sys2Proof/Machine/ConsoleRequests.lean ====
section
/-! DEFINITION. The console's control of the controller: CLEAR_CONDITIONS (R163), the locks (R27, R28), GENERAL_RESET
(R177 and the reset column of every chapter) and STOP_ALL (R85, R135). -/

namespace Sys2Proof.Machine

open Sys2Proof

/-! ### Conditions and locks -/

/-- The records with all but those kept cleared: accrued flag clear, detail empty (R163, R168). -/
def clearRecords (keep : Condition → Bool) (v : Vector ConditionRecord 15) : Vector ConditionRecord 15 :=
  allConditions.foldl (fun w k => if keep k then w else w.set k.index ConditionRecord.clear) v

/-- CLEAR_CONDITIONS: one condition, or 255 for all (R163). -/
def clearConditionsWork (n : Nat) (s : State) : Judged :=
  if n = 255 then answerDone (s.withConditions (clearRecords s.current s.cond)) 0
  else
    match conditionOf n with
    | none => answerRefused s .refusedRange 1
    | some k =>
      if s.current k then answerRefused s .refusedState 0
      else answerDone (s.withConditions (s.cond.set k.index ConditionRecord.clear)) 0

/-- The station a number 1 to 6 names (R27). -/
def stationOf : Nat → Option Station
  | 1 => some 0
  | 2 => some 1
  | 3 => some 2
  | 4 => some 3
  | 5 => some 4
  | 6 => some 5
  | _ => none

/-- LOCK_STATION (R27). -/
def lockWork (n : Nat) (s : State) : Judged :=
  match stationOf n with
  | none => answerRefused s .refusedRange 1
  | some m =>
    if s.line.stations[m].role = .house ∨ s.line.stations[m].role = .programmer then
      answerDone (s.onStation m fun x => { x with locked := true }) 0
    else answerRefused s .refusedState 0

/-- UNLOCK_STATION (R28). -/
def unlockWork (n : Nat) (s : State) : Judged :=
  match stationOf n with
  | none => answerRefused s .refusedRange 1
  | some m => answerDone (s.onStation m fun x => { x with locked := false }) 0

/-! ### GENERAL_RESET -/

/-- The line unit's part of the reset (R20); roles and a break in progress are kept (R6). -/
def LineUnit.generalReset (u : LineUnit) : LineUnit :=
  { u with stations := u.stations.map fun x => StationRecord.powerOn x.role, replies := [] }

/-- A projector unit after GENERAL_RESET: RATE and its count window run on (R59), and the two switches stand as sensed. -/
def Projector.generalReset (x : Projector) : Projector :=
  { Projector.powerOn x.filmLoss x.gate with rate := x.rate, window := x.window, pulses := x.pulses }

/-- A lamp unit after GENERAL_RESET: the rod items are kept (R103). -/
def Lamp.generalReset (x : Lamp) : Lamp :=
  { Lamp.powerOn with
    stock := x.stock, fed := x.fed, carry := x.carry, rodValid := x.rodValid, rodOut := x.rodOut }

/-- The reset of every block (R177): the fire unit is left as it stands, the store reloads the start channel, and the
condition unit judges its records last (R168). -/
def resetBlocks (s : State) : State :=
  let s1 :=
    { s with
      line := s.line.generalReset
      rotation := 5
      reels := { records := [], code := 1, faultReel := 0 }
      proj := { a := s.proj.a.generalReset, b := s.proj.b.generalReset }
      seq := Sequencer.reset
      lamp := { a := s.lamp.a.generalReset, b := s.lamp.b.generalReset }
      lights := { house := Light.reset, aisle := Light.reset }
      store := { s.store with working := s.store.channel s.store.startChannel } }
  s1.withConditions (clearRecords s1.current s1.cond)

/-- GENERAL_RESET (R177). -/
def generalResetWork (s : State) : Judged :=
  if s.store.save.isSome = true then answerRefused s .refusedBusy 0
  else if s.outgoing.isSome = true then answerRefused s .refusedState 0
  else answerDone (resetBlocks s) 0

/-! ### STOP_ALL -/

/-- What STOP_ALL does to one projector (R85): a moving one is stopped; inch and run-up timers and the start-pending flag
are cleared in every state. -/
def emergencyStop (p : Side) (s : State) : State :=
  let s1 := if (s.proj.get p).state.moving then stopProjector p s else s
  s1.onProj p fun x => { x.withoutStart with inchTimer := none, runUpTimer := none }

/-- STOP_ALL: both projectors, automation, and the house at the INTERMISSION level unless the panic holds it (R85,
R135). -/
def stopAllWork (s : State) : Judged :=
  let s1 := emergencyStop .b (emergencyStop .a s)
  let s2 := settleWithholding (s1.onSeq fun q => { q with automation := q.automation.halt })
  answerDone
    (if s2.fireAllows then s2.onLight .house fun x => x.jump (s2.store.working.intermissionLevel * 16) else s2) 0

/-! ### The commands -/

/-- CLEAR_CONDITIONS (R163). -/
def execClearConditions (n : Station) (t : Target) (condition : Nat) (s : State) : Result :=
  takeRequest n .clearConditions t (clearConditionsWork condition) s

/-- LOCK_STATION (R27). -/
def execLockStation (n : Station) (t : Target) (m : Nat) (s : State) : Result :=
  takeRequest n .lockStation t (lockWork m) s

/-- UNLOCK_STATION (R28). -/
def execUnlockStation (n : Station) (t : Target) (m : Nat) (s : State) : Result :=
  takeRequest n .unlockStation t (unlockWork m) s

/-- GENERAL_RESET (R177). -/
def execGeneralReset (n : Station) (t : Target) (s : State) : Result := takeRequest n .generalReset t generalResetWork s

/-- STOP_ALL, by the priority lane (R85, R13). -/
def execStopAll (n : Station) (t : Target) (s : State) : Result := takePriority n .stopAll t stopAllWork s

end Sys2Proof.Machine
end

