-- ==== Sys2Proof/Machine/FireRequests.lean ====
section
/-! DEFINITION. The requests on the fire unit: ALERT and FIRE_CLEAR (R145), DROP (R146), FIRE_ACK (R149) and RAISE
(R141). -/

namespace Sys2Proof.Machine

open Sys2Proof

/-- The fire state alone changes. -/
def setFireState (st : FireState) (s : State) : State := s.onFire fun u => { u with state := st }

/-- ALERT (R145). -/
def alertWork (n : Station) (s : State) : Judged :=
  match s.fire.state with
  | .clear =>
    answerDone (raiseCondition .fireAlert { unit := .station n, f := none, t := none } (setFireState .alert s)) 0
  | .alert => answerDone s 0
  | _ => answerRefused s .refusedState 0

/-- FIRE_CLEAR (R145). -/
def fireClearWork (s : State) : Judged :=
  match s.fire.state with
  | .alert => answerDone (setFireState .clear s) 0
  | .dropped =>
    if s.fire.link = .intact then answerDone (setFireState .resetPending s) 0 else answerRefused s .refusedState 0
  | _ => answerRefused s .refusedState 0

/-- DROP (R146). -/
def dropWork (n : Station) (s : State) : Judged := answerDone (dropFire (.station n) .between s) 0

/-- FIRE_ACK (R149). -/
def fireAckWork (s : State) : Judged :=
  if s.fire.state = .resetPending then answerDone (setFireState .clear s) 0 else answerRefused s .refusedState 0

/-- A shutter being wound up (R141). -/
def Shutter.raising (x : Shutter) (m : Moment) : Shutter :=
  { x with state := .raising, motorRunning := true, raiseTimer := startTimer raiseTenths m }

/-- RAISE (R141). -/
def raiseWork (port : Nat) (s : State) : Judged :=
  match Port.ofCode port with
  | none => answerRefused s .refusedRange 1
  | some q =>
    if s.fire.state = .clear ∧ s.fire.link = .intact ∧ (s.fire.get q).state = .down then
      answerDone (s.onShutter q fun x => x.raising .between) 0
    else answerRefused s .refusedState 0

/-! ### The commands -/

/-- ALERT (R145). -/
def execAlert (n : Station) (t : Target) (s : State) : Result := takeRequest n .alert t (alertWork n) s

/-- FIRE_CLEAR (R145). -/
def execFireClear (n : Station) (t : Target) (s : State) : Result := takeRequest n .fireClear t fireClearWork s

/-- DROP, by the priority lane (R146, R13). -/
def execDrop (n : Station) (t : Target) (s : State) : Result := takePriority n .drop t (dropWork n) s

/-- FIRE_ACK (R149). -/
def execFireAck (n : Station) (t : Target) (s : State) : Result := takeRequest n .fireAck t fireAckWork s

/-- RAISE (R141). -/
def execRaise (n : Station) (t : Target) (port : Nat) (s : State) : Result := takeRequest n .raise t (raiseWork port) s

end Sys2Proof.Machine
end

