-- ==== Sys2Proof/Machine/LampRequests.lean ====
section
/-! DEFINITION. The console's requests on the lamps: STRIKE (R105), EXTINGUISH (R112) and NEW ROD (R122). -/

namespace Sys2Proof.Machine

open Sys2Proof

/-- The work of a request whose target is a lamp; `takesTarget` lets no other target through (R23). -/
def onArc (t : Target) (work : Side → State → Judged) (s : State) : Judged :=
  match t with
  | .arc l => work l s
  | _ => answerRefused s .refusedFormat 0

/-- What the console's STRIKE requires (R105). -/
def State.strikeAllowed (s : State) (l : Side) : Bool :=
  decide ((s.lamp.get l).state = .dark) && s.fireAllows && decide (0 < (s.lamp.get l).stock)

/-- STRIKE (R105). -/
def strikeWork (l : Side) (s : State) : Judged :=
  if s.strikeAllowed l then answerDone (beginStrike l .between s) 0 else answerRefused s .refusedState 0

/-- EXTINGUISH: carried out in every automation state and every fire state (R112). -/
def extinguishWork (l : Side) (s : State) : Judged := answerDone (extinguishLamp l s) 0

/-- A lamp unit with a fresh rod of a length in millimetres (R122). -/
def Lamp.withRod (x : Lamp) (length : Nat) : Lamp :=
  { x with stock := length * 1000, fed := 0, carry := 0, rodOut := false, rodValid := true }

/-- NEW ROD (R122). -/
def newRodWork (length : Nat) (l : Side) (s : State) : Judged :=
  if length < 50 ∨ 600 < length then answerRefused s .refusedRange 1
  else if (s.lamp.get l).state = .dark then answerDone (s.onLamp l fun x => x.withRod length) 0
  else answerRefused s .refusedState 0

/-! ### The commands -/

/-- STRIKE (R105). -/
def execStrike (n : Station) (t : Target) (s : State) : Result := takeRequest n .strike t (onArc t strikeWork) s

/-- EXTINGUISH (R112). -/
def execExtinguish (n : Station) (t : Target) (s : State) : Result :=
  takeRequest n .extinguish t (onArc t extinguishWork) s

/-- NEW ROD (R122). -/
def execNewRod (n : Station) (t : Target) (length : Nat) (s : State) : Result :=
  takeRequest n .newRod t (onArc t (newRodWork length)) s

end Sys2Proof.Machine
end

