-- ==== Sys2Proof/Machine/ProjectorRequests.lean ====
section
/-! DEFINITION. The console's seven requests on the projectors (R61 to R67). -/

namespace Sys2Proof.Machine

open Sys2Proof

/-- The work of a request whose target is a projector; `takesTarget` lets no other target through (R23). -/
def onProjector (t : Target) (work : Side → State → Judged) (s : State) : Judged :=
  match t with
  | .proj p => work p s
  | _ => answerRefused s .refusedFormat 0

/-- The status of the record with a reel number changes. -/
def setReelStatus (n : Nat) (st : RecordStatus) (s : State) : State :=
  s.onReels fun x =>
    { x with records := x.records.map fun r => if r.number = n then { r with status := st } else r }

/-- The state tests of LOAD (R46). -/
def State.loadAllowed (s : State) (p : Side) (r : Reel) : Bool :=
  decide ((s.proj.get p).state = .idle) && decide (r.projector = p)
    && (decide (r.status = .waiting) || decide (r.status = .interrupted))
    && (decide (s.seq.automation ≠ .engaged)
      || decide ((nextFor s.reels.records p).map Reel.number = some r.number))

/-- A projector unit threaded at F0 (R61). -/
def Projector.threaded (x : Projector) (f0 : Nat) : Projector :=
  { x.withoutStart with state := .threaded, f := f0, marks := 0, windowOpen := false }

/-- LOAD (R46, R61, R82). -/
def loadWork (reel f0 : Nat) (p : Side) (s : State) : Judged :=
  match namedReel s reel with
  | none => answerRefused s .refusedRange 1
  | some r =>
    if maxF < f0 then answerRefused s .refusedRange 2
    else if s.loadAllowed p r then
      let s1 := setReelStatus reel .bound (s.onProj p fun x => x.threaded f0)
      answerDone (settleWithholding (s1.onSeq fun q => { q with douse := q.douse.set p none })) 0
    else answerRefused s .refusedState 0

/-- A projector unit with its reel taken off (R61). -/
def Projector.unloaded (x : Projector) : Projector :=
  { x.withoutStart with state := .idle, f := 0, marks := 0, windowOpen := false }

/-- UNLOAD: from THREADED the bound record returns to WAITING, from STOPPED and BROKEN the list is left (R47, R61). -/
def unloadWork (p : Side) (s : State) : Judged :=
  match (s.proj.get p).state with
  | .threaded =>
    answerDone (settleWithholding (setBoundStatus p .waiting (s.onProj p Projector.unloaded))) 0
  | .stopped => answerDone (settleWithholding (s.onProj p Projector.unloaded)) 0
  | .broken => answerDone (settleWithholding (s.onProj p Projector.unloaded)) 0
  | _ => answerRefused s .refusedState 0

/-- A projector unit beginning an inch (R62); the film-loss switch is judged at the next boundary if it stands open
(R151). -/
def Projector.inching (x : Projector) (frames : Nat) (m : Moment) : Projector :=
  { x with
    state := .inching, motorRunning := true, inchCount := frames, inchTimer := startTimer inchTenths m, lossCheck := true }

/-- INCH (R62). -/
def inchWork (frames : Nat) (p : Side) (s : State) : Judged :=
  if frames < 1 ∨ 255 < frames then answerRefused s .refusedRange 1
  else if (s.proj.get p).state = .threaded ∧ s.fireAllows = true then
    answerDone (s.onProj p fun x => x.inching frames .between) 0
  else answerRefused s .refusedState 0

/-- START (R63). -/
def startWork (p : Side) (s : State) : Judged :=
  if s.startAllowed p then answerDone (startMotor p .between s) 0 else answerRefused s .refusedState 0

/-- STOP: in THREADED it clears the start-pending flag alone (R64). -/
def stopWork (p : Side) (s : State) : Judged :=
  if (s.proj.get p).state.moving then answerDone (stopProjector p s) 0
  else if (s.proj.get p).state = .threaded then answerDone (clearStart p s) 0
  else answerRefused s .refusedState 0

/-- OPEN (R65). -/
def openWork (p : Side) (s : State) : Judged :=
  if s.openAllowed p then answerDone (enterScreen p s) 0 else answerRefused s .refusedState 0

/-- SWAP (R67). -/
def swapWork (p : Side) (s : State) : Judged :=
  if s.ready p = true ∧ s.onScreen p.other = true then answerDone (swapScreens p p.other .between s) 0
  else answerRefused s .refusedState 0

/-! ### The commands -/

/-- LOAD (R46, R61). -/
def execLoad (n : Station) (t : Target) (reel f0 : Nat) (s : State) : Result :=
  takeRequest n .load t (onProjector t (loadWork reel f0)) s

/-- UNLOAD (R47, R61). -/
def execUnload (n : Station) (t : Target) (s : State) : Result := takeRequest n .unload t (onProjector t unloadWork) s

/-- INCH (R62). -/
def execInch (n : Station) (t : Target) (frames : Nat) (s : State) : Result :=
  takeRequest n .inch t (onProjector t (inchWork frames)) s

/-- START (R63). -/
def execStart (n : Station) (t : Target) (s : State) : Result := takeRequest n .start t (onProjector t startWork) s

/-- STOP (R64). -/
def execStop (n : Station) (t : Target) (s : State) : Result := takeRequest n .stop t (onProjector t stopWork) s

/-- OPEN (R65). -/
def execOpen (n : Station) (t : Target) (s : State) : Result := takeRequest n .openDowser t (onProjector t openWork) s

/-- SWAP (R67). -/
def execSwap (n : Station) (t : Target) (s : State) : Result := takeRequest n .swap t (onProjector t swapWork) s

end Sys2Proof.Machine
end

