-- ==== Sys2Proof/Machine/ReelRequests.lean ====
section
/-! DEFINITION. The seven requests that edit the reel list (R48 to R53). -/

namespace Sys2Proof.Machine

open Sys2Proof

/-- The reel list holds at most 24 records (R42). -/
def listDepth : Nat := 24

/-- The last two tests of R48 and the carrying out: a format trial of the list as the request would leave it while
automation is ENGAGED or HALTED, then the edit, the format evaluated on the new list, and its code as the answer's data. -/
def commitEdit (records : List Reel) (s : State) : Judged :=
  let code := (formatCheck s.store.working records).1
  if s.seq.automation ≠ .off ∧ code ≠ 0 then answerRefused s .refusedState code
  else
    let s1 := evaluateFormat (s.onReels fun x => { x with records := records })
    answerDone s1 s1.reels.code

/-- The order number of the first field of a reel entry that is refused, its reel number being field `first` (R49). -/
def entryFault (first : Nat) (records : List Reel) (x : ReelEntry) : Option Nat :=
  if x.reel < 1 ∨ 99 < x.reel ∨ (findReel records x.reel).isSome = true then some first
  else if (Side.ofCode x.projector).isNone = true then some (first + 1)
  else if x.endFrame < 200 ∨ maxF < x.endFrame then some (first + 2)
  else if 480 < x.leader then some (first + 3)
  else if x.last = true ∧ x.intermission = true then some (first + 5)
  else none

/-- A record as ADD and INSERT begin it (R41). -/
def newReel (x : ReelEntry) (p : Side) : Reel :=
  { number := x.reel, projector := p, endFrame := x.endFrame, leader := x.leader, last := x.last
    intermission := x.intermission, cue := none, cueTaken := false, measuredEnd := none, status := .waiting }

/-- A record entered with a projector code; `entryFault` lets only 1 and 2 through. -/
def enteredReel (x : ReelEntry) : Reel := newReel x ((Side.ofCode x.projector).getD .a)

/-- ADD (R49). -/
def addWork (x : ReelEntry) (s : State) : Judged :=
  match entryFault 1 s.reels.records x with
  | some k => answerRefused s .refusedRange k
  | none =>
    if listDepth ≤ s.reels.records.length then answerRefused s .full 0
    else commitEdit (s.reels.records ++ [enteredReel x]) s

/-- The list with a record placed immediately before the record numbered `n` (R42). -/
def insertBefore (records : List Reel) (n : Nat) (r : Reel) : List Reel :=
  records.takeWhile (fun y => y.number != n) ++ r :: records.dropWhile (fun y => y.number != n)

/-- INSERT (R49). -/
def insertWork (before : Nat) (x : ReelEntry) (s : State) : Judged :=
  if (namedReel s before).isNone = true then answerRefused s .refusedRange 1
  else
    match entryFault 2 s.reels.records x with
    | some k => answerRefused s .refusedRange k
    | none =>
      if s.seq.automation ≠ .off then answerRefused s .refusedState 0
      else if listDepth ≤ s.reels.records.length then answerRefused s .full 0
      else commitEdit (insertBefore s.reels.records before (enteredReel x)) s

/-- REMOVE (R50). -/
def removeWork (reel : Nat) (s : State) : Judged :=
  match namedReel s reel with
  | none => answerRefused s .refusedRange 1
  | some r =>
    if s.seq.automation ≠ .off ∨ r.isBound = true then answerRefused s .refusedState 0
    else commitEdit (s.reels.records.filter fun y => y.number != reel) s

/-- The house cue that an action of REEL_CUE leaves: 1 SET, 2 REMOVE (R51, R184). -/
def cueOf (action point level ramp : Nat) : Option HouseCue :=
  if action = 1 then some { point := point, level := level, ramp := ramp } else none

/-- The order number of the first field of REEL_CUE after the reel number that is refused (R51). -/
def cueFault (action point level ramp : Nat) : Option Nat :=
  if action ≠ 1 ∧ action ≠ 2 then some 2
  else if action = 1 ∧ 2880 < point then some 3
  else if action = 1 ∧ 100 < level then some 4
  else if action = 1 ∧ 600 < ramp then some 5
  else none

/-- The list with a record's house cue replaced and its cue taken flag cleared (R51). -/
def withCue (records : List Reel) (n : Nat) (c : Option HouseCue) : List Reel :=
  records.map fun r => if r.number = n then { r with cue := c, cueTaken := false } else r

/-- REEL_CUE (R51). -/
def reelCueWork (reel action point level ramp : Nat) (s : State) : Judged :=
  match namedReel s reel with
  | none => answerRefused s .refusedRange 1
  | some r =>
    match cueFault action point level ramp with
    | some k => answerRefused s .refusedRange k
    | none =>
      if (s.seq.automation ≠ .off ∧ r.status ≠ .waiting) ∨ r.isBound = true then answerRefused s .refusedState 0
      else commitEdit (withCue s.reels.records reel (cueOf action point level ramp)) s

/-- CLEAR_LIST and REPEAT_SHOW are taken while automation is OFF and no record is bound (R52). -/
def State.listFree (s : State) : Bool :=
  decide (s.seq.automation = .off) && !s.reels.records.any Reel.isBound

/-- CLEAR_LIST (R52). -/
def clearListWork (s : State) : Judged :=
  if s.listFree then commitEdit [] s else answerRefused s .refusedState 0

/-- A record as REPEAT_SHOW leaves it (R52). -/
def Reel.repeated (r : Reel) : Reel :=
  { r with
    cueTaken := false
    status :=
      match r.status with
      | .shown => .waiting
      | .skipped => .waiting
      | .interrupted => .waiting
      | x => x }

/-- REPEAT_SHOW (R52). -/
def repeatShowWork (s : State) : Judged :=
  if s.listFree then commitEdit (s.reels.records.map Reel.repeated) s else answerRefused s .refusedState 0

/-- SKIP_REEL (R53). -/
def skipReelWork (reel : Nat) (s : State) : Judged :=
  match namedReel s reel with
  | none => answerRefused s .refusedRange 1
  | some r =>
    if r.status ≠ .waiting then answerRefused s .refusedState 0
    else
      commitEdit (s.reels.records.map fun y => if y.number = reel then { y with status := .skipped } else y) s

/-! ### The commands -/

/-- ADD (R49). -/
def execAdd (n : Station) (t : Target) (entry : ReelEntry) (s : State) : Result := takeRequest n .add t (addWork entry) s

/-- INSERT (R49). -/
def execInsert (n : Station) (t : Target) (before : Nat) (entry : ReelEntry) (s : State) : Result :=
  takeRequest n .insert t (insertWork before entry) s

/-- REMOVE (R50). -/
def execRemove (n : Station) (t : Target) (reel : Nat) (s : State) : Result :=
  takeRequest n .remove t (removeWork reel) s

/-- REEL_CUE (R51). -/
def execReelCue (n : Station) (t : Target) (reel action point level ramp : Nat) (s : State) : Result :=
  takeRequest n .reelCue t (reelCueWork reel action point level ramp) s

/-- CLEAR_LIST (R52). -/
def execClearList (n : Station) (t : Target) (s : State) : Result := takeRequest n .clearList t clearListWork s

/-- REPEAT_SHOW (R52). -/
def execRepeatShow (n : Station) (t : Target) (s : State) : Result := takeRequest n .repeatShow t repeatShowWork s

/-- SKIP_REEL (R53). -/
def execSkipReel (n : Station) (t : Target) (reel : Nat) (s : State) : Result :=
  takeRequest n .skipReel t (skipReelWork reel) s

end Sys2Proof.Machine
end

