-- ==== Sys2Proof/Machine/Values.lean ====
section
/-! DEFINITION. The modes and values of the functions, and the settings: SET_MODE (R33), SET_VALUE on the lights, the
arcs and the settings (R129, R35, R170), SET_TARGET (R130). -/

namespace Sys2Proof.Machine

open Sys2Proof

/-- A lamp unit put in another mode: a running trim is abandoned, trim and clamp counts are 0 (R33, R118, R120, R121). -/
def Lamp.changeMode (x : Lamp) (m : Mode) : Lamp :=
  { x with mode := m, trimIntervals := 0, trimConverge := 0, highClamp := 0, lowClamp := 0 }

/-- SET_MODE on a channel: MANUAL or AUTO, in every fire state (R33, R133). -/
def setLightMode (c : Channel) (mode : Nat) (s : State) : Judged :=
  match Mode.ofCode mode with
  | some .manual => answerDone (s.onLight c fun x => x.changeMode .manual) 0
  | some .auto => answerDone (s.onLight c fun x => x.changeMode .auto) 0
  | _ => answerRefused s .refusedRange 1

/-- SET_MODE on an arc: the same mode changes nothing, and TRIM needs the lamp LIT (R33, R120). -/
def setArcMode (l : Side) (mode : Nat) (s : State) : Judged :=
  match Mode.ofCode mode with
  | none => answerRefused s .refusedRange 1
  | some m =>
    if (s.lamp.get l).mode = m then answerDone s 0
    else if m = .trim ∧ (s.lamp.get l).state ≠ .lit then answerRefused s .refusedState 0
    else answerDone (s.onLamp l fun x => x.changeMode m) 0

/-- SET_MODE (R33). -/
def setModeWork (t : Target) (mode : Nat) (s : State) : Judged :=
  match t with
  | .house => setLightMode .house mode s
  | .aisle => setLightMode .aisle mode s
  | .arc l => setArcMode l mode s
  | _ => answerRefused s .refusedFormat 0

/-- The least level a request may set on a channel (R37). -/
def leastLevel (t : Settings) : Channel → Nat
  | .house => 0
  | .aisle => t.aisleMin

/-- A light request carried out, with its level and ramp clamped (R37, R38, R126). -/
def applyLight (c : Channel) (level ramp : Nat) (s : State) : Judged :=
  let v := clamp (leastLevel s.store.working c) 100 level
  let r := clamp 0 600 ramp
  answerApplied (giveTarget c v r s) (decide (v ≠ level ∨ r ≠ ramp)) v

/-- SET_VALUE on HOUSE or AISLE (R129): the fire state is judged before the mode (R36). -/
def setValueLightWork (c : Channel) (level ramp : Nat) (s : State) : Judged :=
  if s.fireAllows = false then answerRefused s .refusedState 0
  else if (s.lights.get c).mode = .manual then applyLight c level ramp s
  else answerRefused s .heldAuto (s.lights.get c).reported

/-- SET_TARGET on HOUSE or AISLE (R130). -/
def setTargetLight (c : Channel) (level ramp : Nat) (s : State) : Judged :=
  if s.fireAllows = false then answerRefused s .refusedState 0
  else if (s.lights.get c).mode = .manual then answerRefused s .heldManual (s.lights.get c).reported
  else applyLight c level ramp s

/-- SET_TARGET (R130). -/
def setTargetWork (t : Target) (level ramp : Nat) (s : State) : Judged :=
  match t with
  | .house => setTargetLight .house level ramp s
  | .aisle => setTargetLight .aisle level ramp s
  | _ => answerRefused s .refusedFormat 0

/-- SET_VALUE on an arc function, or on its manual-rate setting: applied in MANUAL, clamped to FMAX, and held in AUTO and
TRIM (R35, R37). -/
def setValueArcWork (l : Side) (rate : Nat) (s : State) : Judged :=
  let x := s.store.working.lamp.get l
  let v := clamp 0 x.fmax rate
  if (s.lamp.get l).mode = .manual then
    answerApplied
      (s.onStore fun y => { y with working := { y.working with lamp := y.working.lamp.set l { x with manualRate := v } } })
      (decide (v ≠ rate)) v
  else answerRefused s .heldAuto x.manualRate

/-- The answer to a setting carried out: CLAMPED with the applied value, or DONE with the format code for S_LEAD, RUNUP and
WARM and zero for the others (R170). -/
def settingReply (n value applied : Nat) (s : State) : Judged :=
  if applied ≠ value then (s, { status := .clamped, data := applied })
  else answerDone s (if formatEvaluating n then s.reels.code else 0)

/-- SET_VALUE on a SETTING target other than the manual rates: clamped, tried against the format during a show when the
setting bears on it, and applied with its dependent changes (R170 to R172). -/
def changeSettingWork (n value : Nat) (s : State) : Judged :=
  let v := s.store.working.clamped n value
  let t := s.store.working.change n v
  if value = s.store.working.value n then settingReply n value v s
  else if s.seq.automation ≠ .off ∧ formatBearing n = true ∧ (formatCheck t s.reels.records).1 ≠ 0 then
    answerRefused s .refusedState (formatCheck t s.reels.records).1
  else
    let s1 := applySettings t s
    settingReply n value v (if formatEvaluating n then evaluateFormat s1 else s1)

/-- SET_VALUE on a SETTING target: a manual-rate setting is taken as its arc function (R23, R170). -/
def setValueSettingWork (n value : Nat) (s : State) : Judged :=
  match manualRateLamp n with
  | some l => setValueArcWork l value s
  | none => changeSettingWork n value s

/-! ### The commands -/

/-- SET_MODE (R33). -/
def execSetMode (n : Station) (t : Target) (mode : Nat) (s : State) : Result :=
  takeRequest n .setMode t (setModeWork t mode) s

/-- SET_VALUE on HOUSE or AISLE (R129). -/
def execSetValueHouse (n : Station) (c : Channel) (level ramp : Nat) (s : State) : Result :=
  takeRequest n .setValue c.target (setValueLightWork c level ramp) s

/-- SET_VALUE on ARC_A or ARC_B (R35). -/
def execSetValueArc (n : Station) (l : Side) (rate : Nat) (s : State) : Result :=
  takeRequest n .setValue (.arc l) (setValueArcWork l rate) s

/-- SET_VALUE on a SETTING target (R170). -/
def execSetValueSetting (n : Station) (k value : Nat) (s : State) : Result :=
  takeRequest n .setValue (.setting k) (setValueSettingWork k value) s

/-- SET_TARGET (R130). -/
def execSetTarget (n : Station) (t : Target) (level ramp : Nat) (s : State) : Result :=
  takeRequest n .setTarget t (setTargetWork t level ramp) s

end Sys2Proof.Machine
end

