-- ==== Sys2Proof/Machine/Serve.lean ====
section
/-! DEFINITION. The request unit's handling of an entry: the data characters of each kind (R181, R182), the judging of
R25, and the answer (R18). -/

namespace Sys2Proof.Machine

open Sys2Proof

/-- The work of a SET_VALUE, by its target (R23, R181). -/
def setValueWork (t : Target) (d : List Nat) : State → Judged :=
  match t with
  | .house => setValueLightWork .house (dataChar d 1) (dataPair d 2)
  | .aisle => setValueLightWork .aisle (dataChar d 1) (dataPair d 2)
  | .arc l => setValueArcWork l (dataChar d 1)
  | .setting n => setValueSettingWork n (dataPair d 1)
  | _ => fun s => answerRefused s .refusedFormat 0

/-- The work of a request: its fields read from its data characters D1 to D7 (R181), the owner's tests and effect
(steps 4 to 7 of R25). -/
def workOf (n : Station) (k : Kind) (t : Target) (d : List Nat) : State → Judged :=
  match k with
  | .inquire => inquireWork t (dataChar d 1)
  | .read => readWork t (dataChar d 1)
  | .readReel => readReelWork (dataChar d 1)
  | .readConditions => readConditionsWork (dataChar d 1) (dataChar d 2)
  | .setMode => setModeWork t (dataChar d 1)
  | .setValue => setValueWork t d
  | .setTarget => setTargetWork t (dataChar d 1) (dataPair d 2)
  | .strike => onArc t strikeWork
  | .extinguish => onArc t extinguishWork
  | .newRod => onArc t (newRodWork (dataPair d 1))
  | .load => onProjector t (loadWork (dataChar d 1) (dataTriple d 2))
  | .unload => onProjector t unloadWork
  | .inch => onProjector t (inchWork (dataChar d 1))
  | .start => onProjector t startWork
  | .stop => onProjector t stopWork
  | .openDowser => onProjector t openWork
  | .swap => onProjector t swapWork
  | .add => addWork (dataEntry d 1)
  | .insert => insertWork (dataChar d 1) (dataEntry d 2)
  | .remove => removeWork (dataChar d 1)
  | .reelCue => reelCueWork (dataChar d 1) (dataChar d 2) (dataPair d 3) (dataChar d 5) (dataPair d 6)
  | .clearList => clearListWork
  | .repeatShow => repeatShowWork
  | .skipReel => skipReelWork (dataChar d 1)
  | .engage => engageWork
  | .disengage => disengageWork
  | .startShow => startShowWork
  | .resume => resumeWork
  | .clearConditions => clearConditionsWork (dataChar d 1)
  | .lockStation => lockWork (dataChar d 1)
  | .unlockStation => unlockWork (dataChar d 1)
  | .generalReset => generalResetWork
  | .stopAll => stopAllWork
  | .drop => dropWork n
  | .alert => alertWork n
  | .fireClear => fireClearWork
  | .fireAck => fireAckWork
  | .raise => raiseWork (dataChar d 1)
  | .loadPreset => loadPresetWork (dataChar d 1)
  | .savePreset => savePresetWork (dataChar d 1)

/-- The judging of a good entry: an unknown kind is refused, any other is judged by the steps of R25. -/
def serveEntry (n : Station) (e : Entry) (s : State) : Judged :=
  match Kind.ofCode e.kind with
  | none => answerRefused s .refusedFormat 0
  | some k => judge n k (Target.ofCode e.target) (workOf n k (Target.ofCode e.target) e.data) s

/-- The handling of an entry: a BAD one is answered LINE_FAULT without being judged (R18). -/
def handleEntry (n : Station) (e : Entry) (s : State) : Judged :=
  if e.bad then answerRefused s .lineFault 0 else serveEntry n e s

end Sys2Proof.Machine
end

