-- ==== Sys2Proof/Machine/Line.lean ====
section
/-! DEFINITION. The line unit and the taking of entries (chapter 1): what a slot yields, how an entry joins its queue or
the priority lane, the rotation, and the line break. -/

namespace Sys2Proof.Machine

open Sys2Proof

/-! ### A slot (R4, R5) -/

/-- The idle mark (R179). -/
def idleMark : Character := 255

/-- A character received with a parity or framing error. -/
def faulty (c : SlotCharacter) : Bool := c.parityError || c.framingError

/-- A request is BAD: an error in one of its characters, fewer than ten of them, or a sum other than 0 modulo 256
(R5). -/
def requestBad (chars : List SlotCharacter) : Bool :=
  chars.any faulty || decide (chars.length < 10)
    || decide ((chars.map fun c => c.value.toNat).sum % 256 ≠ 0)

/-- The entry a request slot becomes: characters after the tenth are ignored (R4, R5). -/
def slotEntry (n : Station) (first : SlotCharacter) (rest : List SlotCharacter) : Entry :=
  let chars := (first :: rest).take 10
  { station := n
    bad := requestBad chars
    kind := first.value.toNat
    target := ((chars.map fun c => c.value.toNat)[1]?).getD 0
    data := ((chars.map fun c => c.value.toNat).drop 2).take 7 }

/-- What a slot yields: nothing where it is silent, idle or ABSENT (R4). -/
def slotYield (n : Station) (role : Role) (slot : Slot) : Option Entry :=
  if role = .absent then none
  else
    match slot with
    | .noStartBit => none
    | .heldAtSpace => none
    | .characters first rest =>
      if first.value = idleMark ∧ faulty first = false then none else some (slotEntry n first rest)

/-- A good DROP or STOP_ALL goes to the priority lane (R13). -/
def Entry.priority (e : Entry) : Bool :=
  !e.bad && (decide (e.kind = Kind.drop.code) || decide (e.kind = Kind.stopAll.code))

/-- An entry joins the end of its station's queue; a BAD one raises LINE_FAULT (R8, R21). -/
def joinQueue (e : Entry) (s : State) : State :=
  let s1 := s.onStation e.station fun x => x.withQueue (x.queue ++ [e])
  if e.bad then raiseCondition .lineFault { unit := .station e.station, f := none, t := none } s1 else s1

/-- An entry arrives: to the priority lane, to its queue, or lost from a full one (R5, R8, R9, R13). -/
def arrive (e : Entry) (s : State) : State :=
  if e.priority then s.onLine fun u => { u with lane := u.lane ++ [e] }
  else if s.line.stations[e.station].queue.length < queueDepth then joinQueue e s
  else loseForStation e.station s

/-! ### Taking (R17, R18, R13) -/

/-- The stations in the order the request unit looks at them: from the one after the pointer, round to it (R17). -/
def rotationOrder (pointer : Station) : List Station :=
  [pointer + 1, pointer + 2, pointer + 3, pointer + 4, pointer + 5, pointer]

/-- The station whose head entry is taken next (R17). -/
def State.nextStation (s : State) : Option Station :=
  (rotationOrder s.rotation).find? fun n => !s.line.stations[n].queue.isEmpty

/-- The head entry of a station's queue is taken: it leaves the queue, the pointer moves to the station, the entry is
handled and its answer queued (R17, R18). -/
def takeFrom (n : Station) (e : Entry) (rest : List Entry) (s : State) : State :=
  let s1 := { s.onStation n fun x => x.withQueue rest with rotation := n }
  queueAnswer n e.kind (handleEntry n e s1)

/-- The request unit takes an ordinary entry when it may and one waits. -/
def takeNext (s : State) : State :=
  if s.mayTake then
    match s.nextStation with
    | none => s
    | some n =>
      match s.line.stations[n].queue with
      | [] => s
      | e :: rest => takeFrom n e rest s
  else s

/-- The request unit takes the priority entry that has waited longest (R13, R14). -/
def takePriorityNext (s : State) : State :=
  match s.line.lane with
  | [] => s
  | e :: rest =>
    queuePriorityAnswer e.station e.kind (handleEntry e.station e (s.onLine fun u => { u with lane := rest }))

/-! ### The line break (R19) -/

/-- The line breaks: LINE_FAULT is raised with no station, once in a break. -/
def breakLine (s : State) : State :=
  if s.line.broken then s
  else
    raiseCondition .lineFault { unit := .nothing, f := none, t := none } (s.onLine fun u => { u with broken := true })

/-! ### The commands -/

/-- REQUEST_SLOT (R4, R5, R8, R9). -/
def execRequestSlot (n : Station) (slot : Slot) (s : State) : Result :=
  .next
    (match slotYield n s.line.stations[n].role slot with
    | none => s
    | some e => arrive e s)

/-- LINE_BREAK (R19). -/
def execLineBreak (s : State) : Result := .next (breakLine s)

/-- LINE_BREAK_END (R19). -/
def execLineBreakEnd (s : State) : Result := .next (s.onLine fun u => { u with broken := false })

/-- TAKE_ENTRY (R17, R18). -/
def execTakeEntry (s : State) : Result := .next (takeNext s)

/-- TAKE_PRIORITY_ENTRY (R13, R14). -/
def execTakePriorityEntry (s : State) : Result := .next (takePriorityNext s)

end Sys2Proof.Machine
end

