-- ==== Sys2Proof/Machine/PowerOn.lean ====
section
/-! DEFINITION. Power-on (R176 and the power-on column of every chapter). -/

namespace Sys2Proof.Machine

open Sys2Proof

/-- The number of stations strapped FIRE (R138). -/
def fireRoleCount (roles : List Role) : Nat := (roles.filter fun r => decide (r = .fire)).length

/-- The roles as strapped, in station order (R6). -/
def strappedRoles (x : PowerOnSensed) : List Role := [x.role1, x.role2, x.role3, x.role4, x.role5, x.role6]

/-- The line unit at power-on (R6, R7, R15, R19): no frame has been sent. -/
def LineUnit.atPowerOn (x : PowerOnSensed) : LineUnit :=
  { stations := #v[StationRecord.powerOn x.role1, StationRecord.powerOn x.role2, StationRecord.powerOn x.role3,
      StationRecord.powerOn x.role4, StationRecord.powerOn x.role5, StationRecord.powerOn x.role6]
    lane := [], replies := [], broken := false, frame := [] }

/-- The fire unit at power-on, before the link is judged (R138). -/
def FireUnit.atPowerOn (x : PowerOnSensed) : FireUnit :=
  { state := .clear, link := x.link, a := Shutter.powerOn x.downA, b := Shutter.powerOn x.downB
    observation1 := Shutter.powerOn x.downObservation1, observation2 := Shutter.powerOn x.downObservation2
    stations := fireRoleCount (strappedRoles x) }

/-- The store found good: the start channel is loaded (R176). -/
def Store.loaded (x : Store) : Store :=
  { x with working := x.channel x.startChannel, save := none, rebuilt := false }

/-- The store found failed: rebuilt with the factory defaults (R176). -/
def Store.rebuiltAnew : Store := { Store.factory with rebuilt := true }

/-- The store check at power-on: a save cut short left it failed, and so does a battery run down (R173, R176). -/
def storeGood (x : Store) (sensed : PowerOnSensed) : Bool := x.checkGood && sensed.storeAgrees

/-- Every block at its power-on values, with no condition raised yet (R168, R176). -/
def poweredBlocks (x : PowerOnSensed) (s : State) : State :=
  { line := LineUnit.atPowerOn x
    rotation := 5
    reels := { records := [], code := 1, faultReel := 0 }
    proj := { a := Projector.powerOn x.filmLoss.a x.gate.a, b := Projector.powerOn x.filmLoss.b x.gate.b }
    seq := Sequencer.reset
    lamp := { a := Lamp.powerOn, b := Lamp.powerOn }
    lights := { house := Light.reset, aisle := Light.reset }
    fire := FireUnit.atPowerOn x
    cond := Vector.replicate 15 ConditionRecord.clear
    store := if storeGood s.store x then s.store.loaded else Store.rebuiltAnew
    pending := s.pending }

/-- Power-on: the blocks take their values, a failed store check raises STORE_LOST, and an open link makes the fire state
DROPPED with its effects (R138, R168, R176). -/
def powerUp (x : PowerOnSensed) (s : State) : State :=
  let s1 := poweredBlocks x s
  let s2 := if storeGood s.store x then s1 else raiseCondition .storeLost Detail.empty s1
  if x.link = .opened then dropFire .nothing .between s2 else s2

/-- POWER_ON (R176). -/
def execPowerOn (x : PowerOnSensed) (s : State) : Result := .next (powerUp x s)

end Sys2Proof.Machine
end

