-- ==== Sys2Proof/Machine/Dispatch.lean ====
section
/-! DEFINITION. Which meaning each command has: one arm for each row of the table. -/

namespace Sys2Proof.Machine

open Sys2Proof

/-- The meaning of a command: its effect on everything but the queue of commands. -/
def exec (i : Instr) (s : State) : Host.Outcome State Fault Refusal :=
  match i with
  | .powerOn sensed => Sys2Proof.Machine.execPowerOn sensed s
  | .linePeriodBoundary readings => Sys2Proof.Machine.execLinePeriodBoundary readings s
  | .requestSlot st slot => Sys2Proof.Machine.execRequestSlot st slot s
  | .lineBreak => Sys2Proof.Machine.execLineBreak s
  | .lineBreakEnd => Sys2Proof.Machine.execLineBreakEnd s
  | .takeEntry => Sys2Proof.Machine.execTakeEntry s
  | .takePriorityEntry => Sys2Proof.Machine.execTakePriorityEntry s
  | .inquire st t part => Sys2Proof.Machine.execInquire st t part s
  | .read st t item => Sys2Proof.Machine.execRead st t item s
  | .readReel st t reel => Sys2Proof.Machine.execReadReel st t reel s
  | .readConditions st t condition part => Sys2Proof.Machine.execReadConditions st t condition part s
  | .setMode st t mode => Sys2Proof.Machine.execSetMode st t mode s
  | .setValueHouse st channel level ramp => Sys2Proof.Machine.execSetValueHouse st channel level ramp s
  | .setValueArc st lamp rate => Sys2Proof.Machine.execSetValueArc st lamp rate s
  | .setValueSetting st n value => Sys2Proof.Machine.execSetValueSetting st n value s
  | .setTarget st t level ramp => Sys2Proof.Machine.execSetTarget st t level ramp s
  | .strike st t => Sys2Proof.Machine.execStrike st t s
  | .extinguish st t => Sys2Proof.Machine.execExtinguish st t s
  | .newRod st t length => Sys2Proof.Machine.execNewRod st t length s
  | .load st t reel f0 => Sys2Proof.Machine.execLoad st t reel f0 s
  | .unload st t => Sys2Proof.Machine.execUnload st t s
  | .inch st t frames => Sys2Proof.Machine.execInch st t frames s
  | .start st t => Sys2Proof.Machine.execStart st t s
  | .stop st t => Sys2Proof.Machine.execStop st t s
  | .openDowser st t => Sys2Proof.Machine.execOpen st t s
  | .swap st t => Sys2Proof.Machine.execSwap st t s
  | .add st t entry => Sys2Proof.Machine.execAdd st t entry s
  | .insert st t before entry => Sys2Proof.Machine.execInsert st t before entry s
  | .remove st t reel => Sys2Proof.Machine.execRemove st t reel s
  | .reelCue st t reel action point level ramp => Sys2Proof.Machine.execReelCue st t reel action point level ramp s
  | .clearList st t => Sys2Proof.Machine.execClearList st t s
  | .repeatShow st t => Sys2Proof.Machine.execRepeatShow st t s
  | .skipReel st t reel => Sys2Proof.Machine.execSkipReel st t reel s
  | .engage st t => Sys2Proof.Machine.execEngage st t s
  | .disengage st t => Sys2Proof.Machine.execDisengage st t s
  | .startShow st t => Sys2Proof.Machine.execStartShow st t s
  | .resume st t => Sys2Proof.Machine.execResume st t s
  | .clearConditions st t condition => Sys2Proof.Machine.execClearConditions st t condition s
  | .lockStation st t n => Sys2Proof.Machine.execLockStation st t n s
  | .unlockStation st t n => Sys2Proof.Machine.execUnlockStation st t n s
  | .generalReset st t => Sys2Proof.Machine.execGeneralReset st t s
  | .stopAll st t => Sys2Proof.Machine.execStopAll st t s
  | .alert st t => Sys2Proof.Machine.execAlert st t s
  | .fireClear st t => Sys2Proof.Machine.execFireClear st t s
  | .drop st t => Sys2Proof.Machine.execDrop st t s
  | .fireAck st t => Sys2Proof.Machine.execFireAck st t s
  | .raise st t port => Sys2Proof.Machine.execRaise st t port s
  | .loadPreset st t channel => Sys2Proof.Machine.execLoadPreset st t channel s
  | .savePreset st t channel => Sys2Proof.Machine.execSavePreset st t channel s
  | .saveTimerExpiry => Sys2Proof.Machine.execSaveTimerExpiry s
  | .tachometerPulse projector => Sys2Proof.Machine.execTachometerPulse projector s
  | .inchDone projector => Sys2Proof.Machine.execInchDone projector s
  | .inchTimerExpiry projector => Sys2Proof.Machine.execInchTimerExpiry projector s
  | .runUpDone projector => Sys2Proof.Machine.execRunUpDone projector s
  | .runUpTimerExpiry projector => Sys2Proof.Machine.execRunUpTimerExpiry projector s
  | .cueMark projector => Sys2Proof.Machine.execCueMark projector s
  | .swapPoint => Sys2Proof.Machine.execSwapPoint s
  | .lateSwap => Sys2Proof.Machine.execLateSwap s
  | .strikeTest => Sys2Proof.Machine.execStrikeTest s
  | .motorTest => Sys2Proof.Machine.execMotorTest s
  | .showStartStrike projector => Sys2Proof.Machine.execShowStartStrike projector s
  | .showStartFadeAndMotor projector => Sys2Proof.Machine.execShowStartFadeAndMotor projector s
  | .showStartOpen projector => Sys2Proof.Machine.execShowStartOpen projector s
  | .houseCueReached => Sys2Proof.Machine.execHouseCueReached s
  | .douseTimerExpiry lamp => Sys2Proof.Machine.execDouseTimerExpiry lamp s
  | .settlingTimerExpiry lamp => Sys2Proof.Machine.execSettlingTimerExpiry lamp s
  | .arcEstablished lamp amperes => Sys2Proof.Machine.execArcEstablished lamp amperes s
  | .attemptTimerExpiry lamp amperes => Sys2Proof.Machine.execAttemptTimerExpiry lamp amperes s
  | .waitTimerExpiry lamp => Sys2Proof.Machine.execWaitTimerExpiry lamp s
  | .warmTimerExpiry lamp => Sys2Proof.Machine.execWarmTimerExpiry lamp s
  | .arcLoss lamp amperes => Sys2Proof.Machine.execArcLoss lamp amperes s
  | .feedInterval lamp volts amperes => Sys2Proof.Machine.execFeedInterval lamp volts amperes s
  | .highClampAdjust lamp => Sys2Proof.Machine.execHighClampAdjust lamp s
  | .lowClampAdjust lamp => Sys2Proof.Machine.execLowClampAdjust lamp s
  | .trimConverged lamp => Sys2Proof.Machine.execTrimConverged lamp s
  | .trimFailed lamp => Sys2Proof.Machine.execTrimFailed lamp s
  | .filmLossSwitch projector position => Sys2Proof.Machine.execFilmLossSwitch projector position s
  | .gateThermalOpen projector position => Sys2Proof.Machine.execGateThermalOpen projector position s
  | .stallTrip projector => Sys2Proof.Machine.execStallTrip projector s
  | .fireLinkOpen => Sys2Proof.Machine.execFireLinkOpen s
  | .fireLinkIntact => Sys2Proof.Machine.execFireLinkIntact s
  | .shutterDownSwitch port => Sys2Proof.Machine.execShutterDownSwitch port s
  | .fallTimerExpiry port => Sys2Proof.Machine.execFallTimerExpiry port s
  | .shutterUpSwitch port => Sys2Proof.Machine.execShutterUpSwitch port s
  | .raiseTimerExpiry port => Sys2Proof.Machine.execRaiseTimerExpiry port s
  | .shutterLatchLetGo port => Sys2Proof.Machine.execShutterLatchLetGo port s

end Sys2Proof.Machine
end

