-- ==== Sys2Proof/Safety.lean ====
section
/-! DEFINITION. The terms the statements are written in: a request that passes the request unit's first three steps, an
answer placed, the command an entry of the line spells, and what it is for the booth to stand safe. -/

namespace Sys2Proof.Machine

open Sys2Proof

/-! ### Requests and answers -/

/-- The request passes steps 1 to 3 of R25: its role's column shows yes, its station is not locked out of its group, and
its kind takes the target. -/
def State.passes (s : State) (n : Station) (k : Kind) (t : Target) : Bool :=
  match groupOf k t with
  | none => false
  | some g =>
    g.allows s.line.stations[n].role && (!s.line.stations[n].locked || decide (g = .inquiry)) && takesTarget k t

/-- The request unit may take an ordinary request now, and the request passes steps 1 to 3 of R25. -/
def State.admits (s : State) (n : Station) (k : Kind) (t : Target) : Bool := s.mayTake && s.passes n k t

/-- A priority request passes steps 1 to 3 of R25 and its answer finds room (R14). -/
def State.admitsPriority (s : State) (n : Station) (k : Kind) (t : Target) : Bool :=
  decide (s.line.replies.length < replyDepth) && s.passes n k t

/-- The state with an answer added at the end of the reply queue (R18). -/
def State.answered (s : State) (n : Station) (k : Kind) (st : Status) (d : Nat) : State :=
  { s with
    line := { s.line with replies := s.line.replies ++ [{ station := n, kind := k.code, status := st, data := d }] } }

/-- The line's part of an answered request: the answer joins the reply queue, and nothing else of the line, the rotation
or the queue of commands changes. -/
abbrev State.Replies (s t : State) (n : Station) (k : Kind) (st : Status) (d : Nat) : Prop :=
  t.line = (s.answered n k st d).line ∧ t.rotation = s.rotation ∧ t.pending = s.pending

/-- An event's part of the line: nothing of the line, the rotation or the queue of commands changes. -/
abbrev State.LineKept (s t : State) : Prop := t.line = s.line ∧ t.rotation = s.rotation ∧ t.pending = s.pending

/-- The records of a list, with the record bound to a projector at another status (R45). -/
def boundBecome (records : List Reel) (p : Side) (st : RecordStatus) : List Reel :=
  records.map fun r => if r.projector = p && r.isBound then { r with status := st } else r

/-- A condition has been raised with a detail, and no other record has changed (R158): the detail of the first raise since
the last clear stands. -/
abbrev State.Raised (s t : State) (k : Condition) (d : Detail) : Prop :=
  (t.record k).accrued = true
    ∧ (t.record k).detail = (if (s.record k).accrued then (s.record k).detail else d)
    ∧ ∀ j, j ≠ k → t.record j = s.record j

/-- Automation after a raise of a condition (R159). -/
def automationAfter (s : State) (k : Condition) : Automation :=
  if haltsAutomation s.store.working k && decide (s.seq.automation = .engaged) then .halted else s.seq.automation

/-- A lamp unit put out: DARK, the rectifier open at Iset 0, the striker withdrawn, every timer and the feed clock stopped,
marks and counts cleared, a running trim abandoned (R112, R121). -/
def Lamp.out (x : Lamp) : Lamp :=
  { x with
    state := .dark, rectifierClosed := false, iset := 0, strikerClosed := false, f := 0
    mode := if x.mode = .trim then .manual else x.mode
    highLimit := false, lowLimit := false, lowCurrent := 0, highClamp := 0, lowClamp := 0, trimIntervals := 0
    trimConverge := 0, settlingTimer := none, attemptTimer := none, waitTimer := none, warmTimer := none
    feedClock := none }

/-- A projector unit that has the screen (R59). -/
def Projector.shown (x : Projector) : Projector :=
  { x with
    state := .onScreen, dowserOpen := true, windowOpen := false, stall := 0, startPending := false
    startFade := false }

/-- A projector unit without the screen, in another state (R59, R68, R154). -/
def Projector.hidden (x : Projector) (st : ProjectorState) : Projector :=
  { x with state := st, dowserOpen := false, windowOpen := false, stall := 0 }

/-- A projector unit with its start-pending and start fade flags clear (R84). -/
def Projector.notStarting (x : Projector) : Projector := { x with startPending := false, startFade := false }

/-- A projector unit whose motor has just been started by a request or an event between boundaries (R63, log entry 8). -/
def Projector.started (x : Projector) : Projector :=
  { x with
    state := .starting, motorRunning := true, inchCount := 0, inchTimer := none, runUpTimer := some 121
    lossCheck := true }

/-- The douse that the entry to RUNOUT of a projector asks is taken in that very event: ENGAGED, the lamp not DARK and
DOUSE 0 (R82). -/
def State.dousesNow (s : State) (o : Side) : Bool :=
  decide (s.seq.automation = .engaged) && decide ((s.lamp.get o).state ≠ .dark) && decide (s.store.working.douse = 0)

/-- The douse timers after a projector has entered RUNOUT between boundaries (R82, log entry 8). -/
def State.douseAfter (s : State) (o : Side) : Both ReadTimer :=
  if s.dousesNow o then s.seq.douse.set o none
  else if s.seq.automation = .engaged ∧ (s.lamp.get o).state ≠ .dark then
    s.seq.douse.set o (some { periods := s.store.working.douse * 2 + 1, phase := .fresh })
  else s.seq.douse

/-- The lamps after a projector has entered RUNOUT (R82). -/
def State.lampsAfter (s : State) (o : Side) : Both Lamp :=
  if s.dousesNow o then s.lamp.set o (s.lamp.get o).out else s.lamp

/-- The withholding stands as it stood, or has ended (R75). -/
abbrev State.WithholdingOnlyEnds (s t : State) : Prop :=
  t.seq.withholding = s.seq.withholding ∨ t.seq.withholding = none

/-- The swap of R78 and what it does to the blocks it touches: the incoming projector has the screen, the outgoing one is in
RUNOUT, the incoming record is SHOWING, the changeover flags are clear and the outgoing lamp's douse is started. -/
abbrev State.Swapped (s t : State) (i o : Side) : Prop :=
  t.proj.get i = (s.proj.get i).shown ∧ t.proj.get o = ((s.proj.get o).hidden .runout).notStarting
    ∧ t.reels = { s.reels with records := boundBecome s.reels.records i .showing }
    ∧ t.seq =
        { s.seq with
          strikeTaken := false, motorTaken := false, swapReached := false, swapDue := false
          withholding := t.seq.withholding, douse := s.douseAfter o }
    ∧ s.WithholdingOnlyEnds t ∧ t.lamp = s.lampsAfter o

/-- A projector has taken an empty screen (R65, R70, R84). -/
abbrev State.Opened (s t : State) (p : Side) : Prop :=
  t.proj.get p = (s.proj.get p).shown ∧ t.proj.get p.other = (s.proj.get p.other).notStarting
    ∧ t.reels = { s.reels with records := boundBecome s.reels.records p .showing }
    ∧ t.seq =
        { s.seq with
          strikeTaken := false, motorTaken := false, swapReached := false, swapDue := false
          withholding := t.seq.withholding }
    ∧ s.WithholdingOnlyEnds t ∧ t.lamp = s.lamp ∧ t.lights = s.lights ∧ t.fire = s.fire ∧ t.cond = s.cond ∧ t.store = s.store

/-- A lamp that was not DARK has been put out, with what that does to its neighbours (R112, R86): the douse timer is
cancelled, the start-pending flag cleared, and an ON_SCREEN projector of it goes to RUNNING. -/
abbrev State.PutOut (s t : State) (l : Side) : Prop :=
  t.lamp = s.lamp.set l (s.lamp.get l).out
    ∧ t.proj =
        s.proj.set l
          (if s.onScreen l then ((s.proj.get l).hidden .running).notStarting else (s.proj.get l).notStarting)
    ∧ t.reels =
        (if s.onScreen l then { s.reels with records := boundBecome s.reels.records l .running } else s.reels)
    ∧ t.seq =
        { s.seq with
          douse := s.seq.douse.set l none, swapDue := s.seq.swapDue && !s.onScreen l
          withholding := t.seq.withholding }
    ∧ s.WithholdingOnlyEnds t ∧ t.lights = s.lights ∧ t.fire = s.fire ∧ t.cond = s.cond ∧ t.store = s.store

/-- The aisle channel after AISLE_MIN has gone from one value to another: a raised one lifts the level, the target or both,
a lowered one changes neither (R128). -/
def aisleAfter (old new : Nat) (x : Light) : Light :=
  if old < new then
    if x.level < new * 16 then
      if x.step.isSome = true ∧ new * 16 ≤ x.target then { x with level := new * 16 }
      else { x with level := new * 16, target := new * 16, step := none }
    else { x with target := max x.target (new * 16) }
  else x

/-- A lamp after its settings have gone from one image to another: Iset is brought within a changed working range while the
rectifier is closed (R119). -/
def lampAfter (old new : LampSettings) (x : Lamp) : Lamp :=
  if x.rectifierClosed = true ∧ (new.inom ≠ old.inom ∨ new.imin ≠ old.imin) then
    { x with iset := if x.iset < new.imin then new.imin else if new.inom < x.iset then new.inom else x.iset }
  else x

/-- A timer is in its last period (log entry 4). -/
abbrev Timer.Last (x : Timer) : Prop := x = some 0 ∨ x = some 1

/-- A timer that is read back is in its last period (log entry 4). -/
abbrev ReadTimer.Last (x : ReadTimer) : Prop := ∃ y ∈ x, y.periods ≤ 1

/-- The T that a detail carries: that of an ordered countdown (R95). -/
def State.tOfDetail (s : State) : Option Nat :=
  match s.seq.countdown.state with
  | .ordered => s.seq.countdown.t
  | _ => none

/-- The request a command is, with the station that asks: its kind and its target. None for an event. -/
def requestOf : Instr → Option (Station × Kind × Target)
  | .inquire n t _ => some (n, .inquire, t)
  | .read n t _ => some (n, .read, t)
  | .readReel n t _ => some (n, .readReel, t)
  | .readConditions n t _ _ => some (n, .readConditions, t)
  | .setMode n t _ => some (n, .setMode, t)
  | .setValueHouse n c _ _ => some (n, .setValue, c.target)
  | .setValueArc n l _ => some (n, .setValue, .arc l)
  | .setValueSetting n k _ => some (n, .setValue, .setting k)
  | .setTarget n t _ _ => some (n, .setTarget, t)
  | .strike n t => some (n, .strike, t)
  | .extinguish n t => some (n, .extinguish, t)
  | .newRod n t _ => some (n, .newRod, t)
  | .load n t _ _ => some (n, .load, t)
  | .unload n t => some (n, .unload, t)
  | .inch n t _ => some (n, .inch, t)
  | .start n t => some (n, .start, t)
  | .stop n t => some (n, .stop, t)
  | .openDowser n t => some (n, .openDowser, t)
  | .swap n t => some (n, .swap, t)
  | .add n t _ => some (n, .add, t)
  | .insert n t _ _ => some (n, .insert, t)
  | .remove n t _ => some (n, .remove, t)
  | .reelCue n t _ _ _ _ _ => some (n, .reelCue, t)
  | .clearList n t => some (n, .clearList, t)
  | .repeatShow n t => some (n, .repeatShow, t)
  | .skipReel n t _ => some (n, .skipReel, t)
  | .engage n t => some (n, .engage, t)
  | .disengage n t => some (n, .disengage, t)
  | .startShow n t => some (n, .startShow, t)
  | .resume n t => some (n, .resume, t)
  | .clearConditions n t _ => some (n, .clearConditions, t)
  | .lockStation n t _ => some (n, .lockStation, t)
  | .unlockStation n t _ => some (n, .unlockStation, t)
  | .generalReset n t => some (n, .generalReset, t)
  | .stopAll n t => some (n, .stopAll, t)
  | .alert n t => some (n, .alert, t)
  | .fireClear n t => some (n, .fireClear, t)
  | .drop n t => some (n, .drop, t)
  | .fireAck n t => some (n, .fireAck, t)
  | .raise n t _ => some (n, .raise, t)
  | .loadPreset n t _ => some (n, .loadPreset, t)
  | .savePreset n t _ => some (n, .savePreset, t)
  | .powerOn _ | .linePeriodBoundary _ | .requestSlot _ _ | .lineBreak | .lineBreakEnd | .takeEntry
  | .takePriorityEntry | .saveTimerExpiry | .tachometerPulse _ | .inchDone _ | .inchTimerExpiry _ | .runUpDone _
  | .runUpTimerExpiry _ | .cueMark _ | .swapPoint | .lateSwap | .strikeTest | .motorTest | .showStartStrike _
  | .showStartFadeAndMotor _ | .showStartOpen _ | .houseCueReached | .douseTimerExpiry _ | .settlingTimerExpiry _
  | .arcEstablished _ _ | .attemptTimerExpiry _ _ | .waitTimerExpiry _ | .warmTimerExpiry _ | .arcLoss _ _
  | .feedInterval _ _ _ | .highClampAdjust _ | .lowClampAdjust _ | .trimConverged _ | .trimFailed _
  | .filmLossSwitch _ _ | .gateThermalOpen _ _ | .stallTrip _ | .fireLinkOpen | .fireLinkIntact
  | .shutterDownSwitch _ | .fallTimerExpiry _ | .shutterUpSwitch _ | .raiseTimerExpiry _
  | .shutterLatchLetGo _ => none

/-- A request of one of the two priority kinds (R13). -/
def isPriorityKind (k : Kind) : Bool := decide (k = .stopAll) || decide (k = .drop)

/-- A request of kind `k` is taken from station `n` and its answer finds room: the station is not ABSENT; fewer than 14
answers and no priority entry wait for an ordinary kind, fewer than 16 answers for a priority one (R6, R13, R14, R16). -/
def State.takes (s : State) (n : Station) (k : Kind) : Bool :=
  !s.absent n && if isPriorityKind k then decide (s.line.replies.length < replyDepth) else s.mayTake

/-- The command that a request's target and data characters spell, for a station, by the layouts of R181. -/
def commandOf (n : Station) (k : Kind) (t : Target) (d : List Nat) : Option Instr :=
  match k with
  | .inquire => some (.inquire n t (dataChar d 1))
  | .read => some (.read n t (dataChar d 1))
  | .readReel => some (.readReel n t (dataChar d 1))
  | .readConditions => some (.readConditions n t (dataChar d 1) (dataChar d 2))
  | .setMode => some (.setMode n t (dataChar d 1))
  | .setValue =>
    match t with
    | .house => some (.setValueHouse n .house (dataChar d 1) (dataPair d 2))
    | .aisle => some (.setValueHouse n .aisle (dataChar d 1) (dataPair d 2))
    | .arc l => some (.setValueArc n l (dataChar d 1))
    | .setting i => some (.setValueSetting n i (dataPair d 1))
    | _ => none
  | .setTarget => some (.setTarget n t (dataChar d 1) (dataPair d 2))
  | .strike => some (.strike n t)
  | .extinguish => some (.extinguish n t)
  | .newRod => some (.newRod n t (dataPair d 1))
  | .load => some (.load n t (dataChar d 1) (dataTriple d 2))
  | .unload => some (.unload n t)
  | .inch => some (.inch n t (dataChar d 1))
  | .start => some (.start n t)
  | .stop => some (.stop n t)
  | .openDowser => some (.openDowser n t)
  | .swap => some (.swap n t)
  | .add => some (.add n t (dataEntry d 1))
  | .insert => some (.insert n t (dataChar d 1) (dataEntry d 2))
  | .remove => some (.remove n t (dataChar d 1))
  | .reelCue => some (.reelCue n t (dataChar d 1) (dataChar d 2) (dataPair d 3) (dataChar d 5) (dataPair d 6))
  | .clearList => some (.clearList n t)
  | .repeatShow => some (.repeatShow n t)
  | .skipReel => some (.skipReel n t (dataChar d 1))
  | .engage => some (.engage n t)
  | .disengage => some (.disengage n t)
  | .startShow => some (.startShow n t)
  | .resume => some (.resume n t)
  | .clearConditions => some (.clearConditions n t (dataChar d 1))
  | .lockStation => some (.lockStation n t (dataChar d 1))
  | .unlockStation => some (.unlockStation n t (dataChar d 1))
  | .generalReset => some (.generalReset n t)
  | .stopAll => some (.stopAll n t)
  | .drop => some (.drop n t)
  | .alert => some (.alert n t)
  | .fireClear => some (.fireClear n t)
  | .fireAck => some (.fireAck n t)
  | .raise => some (.raise n t (dataChar d 1))
  | .loadPreset => some (.loadPreset n t (dataChar d 1))
  | .savePreset => some (.savePreset n t (dataChar d 1))

/-- The command a good entry spells (R181, R184). -/
def Entry.command (e : Entry) (n : Station) : Option Instr :=
  (Kind.ofCode e.kind).bind fun k => commandOf n k (Target.ofCode e.target) e.data

/-! ### What is read back and carried in the frame (R169, R183, R184) -/

/-- The projector states in the order of their codes (R184). -/
def projectorStates : List ProjectorState :=
  [.idle, .threaded, .inching, .starting, .running, .onScreen, .runout, .stopped, .broken]

/-- The lamp states in the order of their codes (R184). -/
def lampStates : List LampState := [.dark, .settling, .striking, .warming, .lit]

/-- The automation states in the order of their codes (R30). -/
def automationStates : List Automation := [.off, .engaged, .halted]

/-- The fire states in the order of their codes (R150). -/
def fireStates : List FireState := [.clear, .alert, .dropped, .resetPending]

/-- The countdown states in the order of their codes (R94). -/
def countdownStates : List CountdownState := [.none, .ordered, .unordered]

/-- The shutter states in the order of their codes (R184). -/
def shutterStates : List ShutterState := [.down, .raising, .up, .falling, .jammed]

/-- The record statuses in the order of their codes (R184). -/
def recordStatuses : List RecordStatus := [.waiting, .bound, .running, .showing, .shown, .interrupted, .skipped]

/-- The modes in the order of their codes (R184). -/
def modes : List Mode := [.manual, .auto, .trim]

/-- The units of a detail in the order of their codes (R184). -/
def detailUnits : List DetailUnit :=
  [.nothing, .projector .a, .projector .b, .lamp .a, .lamp .b, .port .a, .port .b, .port .observation1,
    .port .observation2, .station 0, .station 1, .station 2, .station 3, .station 4, .station 5]

/-- A flag as the bit it is packed in. -/
abbrev bit (b : Bool) : Nat := if b then 1 else 0

/-- The ten settings of a lamp in the order of their numbers (R169). -/
def LampSettings.listed (x : LampSettings) : List Nat :=
  [x.vt, x.gain, x.burn, x.dead, x.fmax, x.inom, x.imin, x.manualRate, x.warm, x.reserve]

/-- The forty-five settings in the order of their numbers (R169). -/
def Settings.listed (t : Settings) : List Nat :=
  [t.sLead, t.runUp, t.cueWindow, t.douse, t.stall, t.rounding] ++ t.lamp.a.listed ++ t.lamp.b.listed
    ++ [t.showLevel, t.intermissionLevel, t.breakLevel, t.aisleMin, t.showRamp, t.endRamp] ++ t.halts.toList

/-- The limits of the ten settings of a lamp, IMIN up to INOM and the manual rate up to FMAX (R169). -/
def LampSettings.limits (x : LampSettings) : List (Nat × Nat) :=
  [(400, 700), (0, 32), (4, 40), (0, 50), (50, 255), (40, 160), (30, x.inom), (0, x.fmax), (30, 300), (0, 100)]

/-- The limits of the forty-five settings in the order of their numbers (R169). -/
def Settings.limits (t : Settings) : List (Nat × Nat) :=
  [(50, 600), (5, 40), (100, 600), (0, 600), (16, 48), (0, 2)] ++ t.lamp.a.limits ++ t.lamp.b.limits
    ++ [(0, 100), (0, 100), (0, 100), (5, 50), (0, 600), (0, 600)] ++ List.replicate 13 (0, 1)

/-- What a READ may give for a timer: 65,535 for a stopped one; the tenths left where they are whole, as they are right
after the start; and a part of a tenth read upward or downward (R183, log entry 14). -/
abbrev ReadTimer.ReadsAs (x : ReadTimer) (d : Nat) : Prop :=
  (x = none → d = 65535)
    ∧ ∀ y ∈ x, ((y.phase = .fresh ∨ y.phase = .whole ∧ y.periods % 2 = 0) → d = y.periods / 2)
        ∧ y.periods ≤ 2 * d + 2 ∧ 2 * d ≤ y.periods + 1

/-- The first field of a reel entry that R49 refuses, its reel number being field `first`. -/
abbrev State.EntryFault (s : State) (x : ReelEntry) (first field : Nat) : Prop :=
  let reelBad := x.reel < 1 ∨ 99 < x.reel ∨ ∃ r ∈ s.reels.records, r.number = x.reel
  let sideBad := x.projector ≠ 1 ∧ x.projector ≠ 2
  let endBad := x.endFrame < 200 ∨ 131071 < x.endFrame
  reelBad ∧ field = first
    ∨ ¬reelBad ∧ sideBad ∧ field = first + 1
    ∨ ¬reelBad ∧ ¬sideBad ∧ endBad ∧ field = first + 2
    ∨ ¬reelBad ∧ ¬sideBad ∧ ¬endBad ∧ 480 < x.leader ∧ field = first + 3
    ∨ ¬reelBad ∧ ¬sideBad ∧ ¬endBad ∧ x.leader ≤ 480 ∧ x.last = true ∧ x.intermission = true ∧ field = first + 5

/-- No field of a reel entry is refused (R49). -/
abbrev State.EntryGood (s : State) (x : ReelEntry) : Prop :=
  1 ≤ x.reel ∧ x.reel ≤ 99 ∧ (∀ r ∈ s.reels.records, r.number ≠ x.reel) ∧ (x.projector = 1 ∨ x.projector = 2)
    ∧ 200 ≤ x.endFrame ∧ x.endFrame ≤ 131071 ∧ x.leader ≤ 480 ∧ ¬(x.last = true ∧ x.intermission = true)

/-- A reel number names a record of the list (R46, R49, R50). -/
abbrev State.Names (s : State) (reel : Nat) (r : Reel) : Prop :=
  1 ≤ reel ∧ reel ≤ 99 ∧ findReel s.reels.records reel = some r

/-- A reel number names no record of the list. -/
abbrev State.NamesNone (s : State) (reel : Nat) : Prop :=
  reel < 1 ∨ 99 < reel ∨ findReel s.reels.records reel = none

/-! ### A quiet boundary -/

/-- Projector `p` alone is ON_SCREEN with no start pending on it: whatever takes it off the screen at a boundary does not
put it back at that boundary. -/
abbrev State.Showing (s : State) (p : Side) : Prop :=
  s.onScreen p = true ∧ s.onScreen p.other = false ∧ (s.proj.get p).startPending = false

/-- No film-loss switch that stands open is still to be judged (R151). -/
abbrev State.NoStandingLoss (s : State) : Prop :=
  ∀ p : Side, (s.proj.get p).lossCheck = false ∨ (s.proj.get p).filmLoss = .closed

/-- The blocks' own work of a boundary with the readings `r` raises nothing and leaves `p` ON_SCREEN: no switch, timer,
count or trim is at its end, both arcs burn that are watched, and no start is pending. -/
abbrev State.Quiet (s : State) (r : Readings) (p : Side) : Prop :=
  s.Showing p ∧ s.NoStandingLoss ∧ s.fireAllows = true
    ∧ (∀ q : Side, (s.proj.get q).startPending = false ∧ (s.proj.get q).inchTimer = none
        ∧ (s.proj.get q).runUpTimer = none ∧ 30 ≤ r.amperes.get q ∧ (s.lamp.get q).mode ≠ .trim
        ∧ s.seq.douse.get q = none ∧ ((s.lamp.get q).state = .dark ∨ (s.lamp.get q).state = .lit))
    ∧ (s.lamp.get p).state = .lit ∧ (s.proj.get p).gate = .closed ∧ 8 ≤ (s.proj.get p).rateCounted.rate
    ∧ ∀ q : Port, (s.fire.get q).fallTimer = none ∧ (s.fire.get q).raiseTimer = none

/-! ### The screen (R59, R66) -/

/-- One projector's part: the dowser is open exactly while it is ON_SCREEN, the motor runs exactly in the moving states,
and it is ON_SCREEN only with its lamp LIT, its port shutter UP and the fire state CLEAR or ALERT. -/
abbrev State.ScreenSafeOn (s : State) (p : Side) : Prop :=
  (s.proj.get p).dowserOpen = s.onScreen p ∧ (s.proj.get p).motorRunning = (s.proj.get p).state.moving
    ∧ (s.onScreen p = true → s.screenAllowed p = true)

/-- The screen is safe: both projectors' parts hold and at most one is ON_SCREEN. -/
abbrev State.ScreenSafe (s : State) : Prop :=
  s.ScreenSafeOn .a ∧ s.ScreenSafeOn .b ∧ ¬(s.onScreen .a = true ∧ s.onScreen .b = true)

/-! ### Fire (R148) -/

/-- The equipment of a lamp agrees with its state (R104): the rectifier is closed exactly while the lamp is not DARK, Iset
is 0 while it is open, and the striker is closed only in STRIKING. -/
abbrev Lamp.Agrees (x : Lamp) : Prop :=
  x.rectifierClosed = decide (x.state ≠ .dark) ∧ (x.rectifierClosed = false → x.iset = 0)
    ∧ (x.strikerClosed = true → x.state = .striking)

/-- A shutter is neither UP nor RAISING. -/
abbrev Shutter.Dropped (x : Shutter) : Prop := x.state ≠ .up ∧ x.state ≠ .raising

/-- The panic holds a channel: full up, with no ramp (R136). -/
abbrev Light.Full (x : Light) : Prop := x.level = 1600 ∧ x.target = 1600 ∧ x.step = none

/-- While the fire state is DROPPED or RESET_PENDING no projector moves or waits to start, no shutter is UP or RAISING,
both lamps are DARK with their rectifiers open, both channels are full up and automation is not ENGAGED (R147, R148). -/
abbrev State.FireHeld (s : State) : Prop :=
  (s.proj.a.state.moving = false ∧ s.proj.b.state.moving = false)
    ∧ (s.proj.a.startPending = false ∧ s.proj.b.startPending = false)
    ∧ (s.fire.a.Dropped ∧ s.fire.b.Dropped ∧ s.fire.observation1.Dropped ∧ s.fire.observation2.Dropped)
    ∧ (s.lamp.a.state = .dark ∧ s.lamp.b.state = .dark)
    ∧ (s.lamp.a.rectifierClosed = false ∧ s.lamp.b.rectifierClosed = false)
    ∧ (s.lights.house.Full ∧ s.lights.aisle.Full)
    ∧ s.seq.automation ≠ .engaged

/-- The fire state is safe: both lamps agree with their equipment, and DROPPED and RESET_PENDING hold the booth. -/
abbrev State.FireSafe (s : State) : Prop :=
  s.lamp.a.Agrees ∧ s.lamp.b.Agrees ∧ (s.fireAllows = false → s.FireHeld)

/-! ### Ranges (R41, R60, R124, R128, R169, R173) -/

/-- A number lies between two limits, both included. -/
abbrev Within (low high v : Nat) : Prop := low ≤ v ∧ v ≤ high

/-- The ten settings of a lamp lie in their ranges, IMIN within INOM and the manual rate within FMAX (R169, R172). -/
abbrev LampSettings.InRange (x : LampSettings) : Prop :=
  Within 400 700 x.vt ∧ Within 0 32 x.gain ∧ Within 4 40 x.burn ∧ Within 0 50 x.dead ∧ Within 50 255 x.fmax
    ∧ Within 40 160 x.inom ∧ Within 30 x.inom x.imin ∧ Within 0 x.fmax x.manualRate ∧ Within 30 300 x.warm
    ∧ Within 0 100 x.reserve

/-- All forty-five settings of an image lie in their ranges (R169). -/
abbrev Settings.InRange (t : Settings) : Prop :=
  Within 50 600 t.sLead ∧ Within 5 40 t.runUp ∧ Within 100 600 t.cueWindow ∧ Within 0 600 t.douse
    ∧ Within 16 48 t.stall ∧ Within 0 2 t.rounding ∧ t.lamp.a.InRange ∧ t.lamp.b.InRange
    ∧ Within 0 100 t.showLevel ∧ Within 0 100 t.intermissionLevel ∧ Within 0 100 t.breakLevel
    ∧ Within 5 50 t.aisleMin ∧ Within 0 600 t.showRamp ∧ Within 0 600 t.endRamp
    ∧ t.halts.toList.all (fun v => decide (v ≤ 1)) = true

/-- Every image the store holds is in range, and its channels are channels (R173). -/
abbrev Store.InRange (x : Store) : Prop :=
  x.working.InRange ∧ x.channel1.InRange ∧ x.channel2.InRange ∧ x.channel3.InRange ∧ x.startChannel ≤ 3
    ∧ ∀ j ∈ x.save, j.image.InRange ∧ Within 1 3 j.channel

/-- A channel's level and target lie between a least level and 1,600 sixteenths, a running step is from 1 to 1,600, the
target equals the level when no ramp runs, and the mode is MANUAL or AUTO (R124, R30). -/
abbrev Light.InRange (least : Nat) (x : Light) : Prop :=
  Within least 1600 x.level ∧ Within least 1600 x.target
    ∧ (x.step = none → x.target = x.level) ∧ (∀ n ∈ x.step, Within 1 1600 n) ∧ x.mode ≠ .trim

/-- The level of a record's house cue is a percentage (R41). -/
def Reel.cueInRange (r : Reel) : Bool :=
  match r.cue with
  | none => true
  | some c => decide (c.level ≤ 100)

/-- A projector's F, RATE and marks counted lie in their ranges, and its count window holds at most 40 periods (R59, R60,
R69). -/
abbrev Projector.InRange (x : Projector) : Prop :=
  x.f ≤ maxF ∧ x.rate ≤ maxRate ∧ x.window.length ≤ ratePeriods ∧ x.marks ≤ 2

/-- The settings, both channels and both projectors are in range, the aisle held at or above AISLE_MIN (R128). -/
abbrev State.RangesSafe (s : State) : Prop :=
  s.store.InRange ∧ s.lights.house.InRange 0 ∧ s.lights.aisle.InRange (s.store.working.aisleMin * 16)
    ∧ s.reels.records.all Reel.cueInRange = true ∧ s.proj.a.InRange ∧ s.proj.b.InRange

/-! ### The line (R6, R7, R10, R11, R13, R15, R27) -/

/-- A station record is sound: at most 8 entries, the bad-entry flag as the queue has it, the hold mark as its hysteresis
allows, nothing queued for ABSENT and its overrun mark clear, and only HOUSE and PROGRAMMER locked. -/
abbrev StationRecord.Sound (x : StationRecord) : Prop :=
  x.queue.length ≤ queueDepth ∧ x.badEntry = x.queue.any Entry.bad ∧ (6 ≤ x.queue.length → x.hold = true)
    ∧ (x.queue.length ≤ 2 → x.hold = false) ∧ (x.role = .absent → x.queue = [] ∧ x.overrun = false)
    ∧ (x.locked = true → x.role = .house ∨ x.role = .programmer)

/-- The line is sound: every station record is, at most 16 answers wait, and the priority lane holds only good DROPs and
STOP_ALLs, none of an ABSENT station. -/
abbrev State.LineSafe (s : State) : Prop :=
  s.line.stations[0].Sound ∧ s.line.stations[1].Sound ∧ s.line.stations[2].Sound ∧ s.line.stations[3].Sound
    ∧ s.line.stations[4].Sound ∧ s.line.stations[5].Sound ∧ s.line.replies.length ≤ replyDepth
    ∧ s.line.lane.all (fun e => e.priority && !s.absent e.station) = true

/-! ### The reel list (R41, R42, R44, R45, R54, R55) -/

/-- The status a bound record has while its projector is in a state; none where no record is bound (R44, R59). -/
def ProjectorState.recordStatus : ProjectorState → Option RecordStatus
  | .idle => none
  | .threaded => some .bound
  | .inching => some .bound
  | .starting => some .bound
  | .running => some .running
  | .onScreen => some .showing
  | .runout => some .showing
  | .stopped => none
  | .broken => none

/-- The statuses of the records bound to a projector. -/
def boundStatuses (records : List Reel) (p : Side) : List RecordStatus :=
  (records.filter fun r => decide (r.projector = p) && r.isBound).map Reel.status

/-- The fields of a record lie in their ranges (R41). -/
def Reel.inRange (r : Reel) : Bool :=
  decide (1 ≤ r.number ∧ r.number ≤ 99) && decide (200 ≤ r.endFrame ∧ r.endFrame ≤ maxF) && decide (r.leader ≤ 480)
    && !(r.last && r.intermission)

/-- The list agrees with the projectors: at most 24 records, distinct numbers, fields in range, and each projector with
exactly the bound record its state calls for, at the status R45 gives. -/
abbrev State.ListSafe (s : State) : Prop :=
  s.reels.records.length ≤ listDepth ∧ (s.reels.records.map Reel.number).Nodup
    ∧ s.reels.records.all Reel.inRange = true
    ∧ boundStatuses s.reels.records .a = s.proj.a.state.recordStatus.toList
    ∧ boundStatuses s.reels.records .b = s.proj.b.state.recordStatus.toList

/-- The format code and fault reel are those of the list as it stands, and automation is OFF while the code is not 0
(R54, R55). -/
abbrev State.FormatSafe (s : State) : Prop :=
  (s.reels.code, s.reels.faultReel) = formatCheck s.store.working s.reels.records
    ∧ (s.reels.code ≠ 0 → s.seq.automation = .off)

/-! ### The rods and the withholding (R75, R103, R116) -/

/-- A rod account is sound: stock and fed length together are a whole number of millimetres up to 600, the carry is 0 or 1,
and both lengths are 0 until the first NEW ROD. -/
abbrev Lamp.RodSound (x : Lamp) : Prop :=
  x.stock + x.fed ≤ 600000 ∧ (x.stock + x.fed) % 1000 = 0 ∧ x.carry ≤ 1
    ∧ (x.rodValid = false → x.stock = 0 ∧ x.fed = 0)

/-- Both rod accounts are sound. -/
abbrev State.RodSafe (s : State) : Prop := s.lamp.a.RodSound ∧ s.lamp.b.RodSound

/-- A withholding stands only while what keeps it standing does (R75). -/
abbrev State.WithholdingSafe (s : State) : Prop := ∀ w ∈ s.seq.withholding, w.stands s = true

end Sys2Proof.Machine
end

