-- ==== Sys2Proof/Certificates/Slice0/Obligations.lean ====
section
/-! DEFINITION. The statements for the provers. -/

open Sys2Proof Sys2Proof.Machine

/-! ### The machine and the request unit -/

/-- A step carries out the command at the front of the queue on the state with the queue's rest. -/
def Obligations.StepRunsFrontCommand : Prop :=
  ∀ (c : Instr) (rest : List Instr) (s : State),
    s.pending = c :: rest → step s = exec c { s with pending := rest }

/-- Every command, an ill-formed one too, answers a next state in every state, and leaves the queue of commands as it was:
nothing stops the controller (log entry 18). -/
def Obligations.EveryCommandAnswersNext : Prop :=
  ∀ (c : Instr) (s : State), ∃ t, exec c s = .next t ∧ t.pending = s.pending

/-- R25, steps 1 to 3: group and role, then lock, then target; each refusal is one answer and changes nothing else. That a
request row is judged as the request unit judges an entry is log entry 3. -/
def Obligations.RoleLockAndTargetJudgedInOrder : Prop :=
  ∀ (c : Instr) (n : Station) (k : Kind) (t : Target) (s : State),
    requestOf c = some (n, k, t) → s.takes n k = true →
      (groupOf k t = none → exec c s = .next (s.answered n k .refusedFormat 0))
        ∧ ∀ g, groupOf k t = some g →
          (g.allows s.line.stations[n].role = false → exec c s = .next (s.answered n k .refusedRole 0))
            ∧ (g.allows s.line.stations[n].role = true → s.line.stations[n].locked = true → g ≠ .inquiry →
                exec c s = .next (s.answered n k .refusedLocked 0))
            ∧ (g.allows s.line.stations[n].role = true → (s.line.stations[n].locked = false ∨ g = .inquiry) →
                takesTarget k t = false → exec c s = .next (s.answered n k .refusedFormat 0))

/-- R40: a request taken gets one answer, added to those that wait (or, after a GENERAL_RESET carried out, which empties the
queue first, alone in it), and after any status but DONE and CLAMPED the state is as it was but for that answer. That a
request row is such a taking is log entry 3. -/
def Obligations.OnlyDoneAndClampedChangeTheState : Prop :=
  ∀ (c : Instr) (n : Station) (k : Kind) (t : Target) (s u : State),
    requestOf c = some (n, k, t) → s.takes n k = true → exec c s = .next u →
      ∃ st d, u.line.replies =
          (if k = .generalReset ∧ st = .done then [] else s.line.replies)
            ++ [{ station := n, kind := k.code, status := st, data := d }]
        ∧ (st ≠ .done → st ≠ .clamped → u = s.answered n k st d)

/-- The model's choice (log entry 3): a request row of an ordinary kind waits, changing nothing, while a priority entry
waits or 14 answers do. -/
def Obligations.OrdinaryRequestWaitsForRoom : Prop :=
  ∀ (c : Instr) (n : Station) (k : Kind) (t : Target) (s : State),
    requestOf c = some (n, k, t) → isPriorityKind k = false → s.mayTake = false → exec c s = .next s

/-- R18, R181: taking a good entry from the head of its queue is the command the entry spells, on the state with the entry
removed and the pointer moved; and likewise a good DROP or STOP_ALL from the priority lane, the pointer kept (R13). The
station is not ABSENT: one that is has no entry (R6). An entry of unknown kind, and a SET_VALUE whose target is in no
group, spell no command and are not in this statement. That a taken entry and a request row are one meaning is the
model's choice (log entry 3). -/
def Obligations.TakenEntryIsTheCommandItSpells : Prop :=
  (∀ (s : State) (n : Station) (e : Entry) (rest : List Entry) (c : Instr),
    s.line.stations[n].role ≠ .absent →
    s.mayTake = true → s.nextStation = some n → s.line.stations[n].queue = e :: rest → e.bad = false →
      e.command n = some c →
        exec .takeEntry s = exec c { s.onStation n (fun x => x.withQueue rest) with rotation := n })
    ∧ ∀ (s : State) (e : Entry) (rest : List Entry) (c : Instr),
      s.line.stations[e.station].role ≠ .absent →
      s.line.lane = e :: rest → e.priority = true → e.command e.station = some c →
        exec .takePriorityEntry s = exec c { s with line := { s.line with lane := rest } }

/-- R17, R18: the head entry of the first non-empty queue after the pointer is taken, its queue and marks are brought up to
date and the pointer moves to its station. Stated with the whole next state for the two entries answered without a
block's work: a BAD one (LINE_FAULT) and one of unknown kind (REFUSED_FORMAT). -/
def Obligations.EntriesAreTakenInRotation : Prop :=
  (∀ (s : State) (j : Fin 6) (n : Station) (e : Entry) (rest : List Entry),
    s.mayTake = true → n = s.rotation + 1 + j →
      (∀ i : Fin 6, i < j → s.line.stations[s.rotation + 1 + i].queue = []) →
      s.line.stations[n].queue = e :: rest → (e.bad = true ∨ Kind.ofCode e.kind = none) →
        exec .takeEntry s =
          .next
            { s with
              rotation := n
              line :=
                { s.line with
                  stations :=
                    s.line.stations.set n
                      { s.line.stations[n] with
                        queue := rest
                        hold := if 6 ≤ rest.length then true else if rest.length ≤ 2 then false
                          else s.line.stations[n].hold
                        badEntry := rest.any Entry.bad }
                  replies :=
                    s.line.replies
                      ++ [{ station := n, kind := e.kind
                            status := if e.bad then .lineFault else .refusedFormat, data := 0 }] } })
    ∧ ∀ s : State, (s.mayTake = false ∨ ∀ n : Station, s.line.stations[n].queue = []) →
      exec .takeEntry s = .next s

/-- R13, R14: the priority entry that has waited longest is taken with the checks of any request. With fewer than 16 answers
waiting its one answer joins them: REFUSED_ROLE, REFUSED_LOCKED or REFUSED_FORMAT with nothing else changed; else DONE,
with DROPPED entered or the booth stopped. With 16 waiting, the taking, and a DROP or STOP_ALL row, does to every block
what it does with the reply queue empty, but the answer is lost: the 16 stay, the station's overrun mark is set, and
LINE_FAULT is raised with the station. That a row is such a taking is log entry 3. -/
def Obligations.PriorityAnswerIsPlacedOrLost : Prop :=
  (∀ (s : State) (e : Entry) (rest : List Entry) (x : StationRecord), s.line.lane = e :: rest → e.priority = true →
    x = s.line.stations[e.station] → s.line.replies.length < 16 →
      ∃ t st d, exec .takePriorityEntry s = .next t
        ∧ t.line =
            { s.line with
              lane := rest
              replies := s.line.replies ++ [{ station := e.station, kind := e.kind, status := st, data := d }] }
        ∧ t.rotation = s.rotation ∧ t.pending = s.pending ∧ d = 0
        ∧ (∀ allowed : Prop,
            (allowed ↔ x.role = .console ∨ e.kind = 56 ∧ x.role = .house ∨ e.kind = 57 ∧ x.role = .fire) →
              (¬allowed → st = .refusedRole)
                ∧ (allowed → x.locked = true → st = .refusedLocked)
                ∧ (allowed → x.locked = false → (e.kind = 56 ∧ e.target ≠ 0 ∨ e.kind = 57 ∧ e.target ≠ 7) →
                    st = .refusedFormat)
                ∧ (allowed → x.locked = false → e.kind = 56 → e.target = 0 →
                    st = .done ∧ t.proj.a.state.moving = false ∧ t.proj.b.state.moving = false
                      ∧ t.seq.automation ≠ .engaged ∧ t.lamp = s.lamp ∧ t.fire = s.fire)
                ∧ (allowed → x.locked = false → e.kind = 57 → e.target = 7 →
                    st = .done ∧ t.fire.state = .dropped
                      ∧ (s.fire.state ≠ .dropped → t.seq.automation ≠ .engaged)
                      ∧ (s.fire.state = .dropped → t = { s with line := t.line })))
        ∧ (st ≠ .done → t = { s with line := t.line }))
    ∧ ∀ (c : Instr) (n : Station) (s : State),
        ((∃ e rest, c = .takePriorityEntry ∧ s.line.lane = e :: rest ∧ e.priority = true ∧ e.station = n)
          ∨ (∃ t, c = .stopAll n t ∨ c = .drop n t) ∧ s.line.stations[n].role ≠ .absent) →
        16 ≤ s.line.replies.length →
          ∃ u v, exec c { s with line := { s.line with replies := [] } } = .next u ∧ exec c s = .next v
            ∧ v.line =
                { u.line with
                  replies := s.line.replies
                  stations := s.line.stations.set n { s.line.stations[n] with overrun := true } }
            ∧ u.Raised v .lineFault { unit := .station n, f := none, t := none }
            ∧ v = { u with
                line := v.line, cond := v.cond, seq := { u.seq with automation := automationAfter u .lineFault } }

/-! ### The line -/

/-- R4, R5, R8 to R11, R13, R21, R179: what a request slot becomes. An ABSENT station's slot, a silent slot and an idle slot
yield nothing. Of the others, a good DROP or STOP_ALL goes to the priority lane; any other entry joins its queue of fewer
than 8, with hold mark and bad-entry flag brought up to date, a BAD one raising LINE_FAULT; and it is lost from a full
queue, with the overrun mark set and LINE_FAULT raised. A parity error is an odd count of ones among the eight data bits
and the parity bit, and a framing error a stop bit at space. -/
def Obligations.RequestSlotBecomesAnEntry : Prop :=
  (∀ c : SlotCharacter,
    (c.parityError = true ↔
        (((List.range 8).map fun i => c.value.toNat / 2 ^ i % 2).sum + bit c.parityBit) % 2 = 1)
      ∧ (c.framingError = true ↔ c.stopBit = false))
  ∧ (∀ (n : Station) (slot : Slot) (s : State),
    (s.line.stations[n].role = .absent ∨ slot = .noStartBit ∨ slot = .heldAtSpace
        ∨ ∃ first rest, slot = .characters first rest ∧ first.value = 255 ∧ first.parityError = false
            ∧ first.framingError = false) →
      exec (.requestSlot n slot) s = .next s)
  ∧ ∀ (n : Station) (first : SlotCharacter) (rest : List SlotCharacter) (s : State),
    s.line.stations[n].role ≠ .absent →
      (first.value ≠ 255 ∨ first.parityError = true ∨ first.framingError = true) →
      ∀ (e : Entry), e = slotEntry n first rest →
        (e.station = n ∧ e.kind = first.value.toNat
            ∧ ∀ second more, rest = second :: more →
                e.target = second.value.toNat ∧ e.data = (more.take 7).map fun c => c.value.toNat)
          ∧ (e.bad = true ↔
            ((∃ c ∈ (first :: rest).take 10, c.parityError = true ∨ c.framingError = true)
              ∨ rest.length < 9
              ∨ (((first :: rest).take 10).map fun c => c.value.toNat).sum % 256 ≠ 0))
          ∧ (e.bad = false → (e.kind = 56 ∨ e.kind = 57) →
              exec (.requestSlot n (.characters first rest)) s =
                .next { s with line := { s.line with lane := s.line.lane ++ [e] } })
          ∧ (e.bad = false → e.kind ≠ 56 → e.kind ≠ 57 → s.line.stations[n].queue.length < 8 →
              exec (.requestSlot n (.characters first rest)) s =
                .next
                  (s.onStation n fun x =>
                    { x with
                      queue := x.queue ++ [e]
                      hold := if 5 ≤ x.queue.length then true else if x.queue.length ≤ 1 then false else x.hold
                      badEntry := x.queue.any Entry.bad }))
          ∧ (e.bad = true → s.line.stations[n].queue.length < 8 →
              ∃ t, exec (.requestSlot n (.characters first rest)) s = .next t
                ∧ t.line =
                    (s.onStation n fun x =>
                      { x with
                        queue := x.queue ++ [e]
                        hold := if 5 ≤ x.queue.length then true else if x.queue.length ≤ 1 then false else x.hold
                        badEntry := true }).line
                ∧ s.Raised t .lineFault { unit := .station n, f := none, t := none }
                ∧ t.seq.automation = automationAfter s .lineFault)
          ∧ ((e.bad = true ∨ (e.kind ≠ 56 ∧ e.kind ≠ 57)) → 8 ≤ s.line.stations[n].queue.length →
              ∃ t, exec (.requestSlot n (.characters first rest)) s = .next t
                ∧ t.line = (s.onStation n fun x => { x with overrun := true }).line
                ∧ s.Raised t .lineFault { unit := .station n, f := none, t := none }
                ∧ t.seq.automation = automationAfter s .lineFault)

/-- R19: the break raises LINE_FAULT with no station and LINE_FAULT is current from then on; its end leaves the line
unbroken and changes nothing else. That a LINE_BREAK in a break changes nothing is the model's reading (log entry 10). -/
def Obligations.LineBreakAndItsEnd : Prop :=
  (∀ s : State, s.line.broken = false →
    ∃ t, exec .lineBreak s = .next t ∧ t.line = { s.line with broken := true } ∧ t.current .lineFault = true
      ∧ s.Raised t .lineFault { unit := .nothing, f := none, t := none }
      ∧ t.seq.automation = automationAfter s .lineFault)
    ∧ (∀ s : State, s.line.broken = true → exec .lineBreak s = .next s)
    ∧ ∀ s : State, exec .lineBreakEnd s = .next { s with line := { s.line with broken := false } }

/-- R1 to R3, R12, R15, R94, R180: at every boundary one frame of 23 characters is sent, beginning with the sync 150 and
summing to 0 modulo 256. Places 2 to 14 carry the item tags, the hold marks, attention, automation and fire state, the
projector and lamp states by their codes, the reported levels, the countdown T, and the rod stocks in whole millimetres,
zeros where a tag is clear, of the state u that the blocks' own work, the ramp step and the countdown leave (log entry 7:
an emergency swap in that work leaves the countdown record standing). The oldest answer, and no other, leaves the reply
queue for it, its eight characters in places 15 to 22 with the overrun note of its station, whose mark is cleared; with
no answer waiting those are zeros. What follows the frame leaves the fire unit, the rods and the countdown as u has them,
and while automation is not ENGAGED it opens the cue window and does no more. -/
def Obligations.BoundarySendsOneFrame : Prop :=
  ∀ (r : Readings) (s : State), ∃ t u tags holds mark house aisle lead,
    exec (.linePeriodBoundary r) s = .next t
    ∧ u = (if s.screenPassed (rampStep (ownWork r s)) then rampStep (ownWork r s)
        else countdownStep (rampStep (ownWork r s)))
    ∧ t.line.frame.length = 23
    ∧ (t.line.frame.map BitVec.toNat).sum % 256 = 0
    ∧ tags = bit (decide (u.seq.countdown.state = .ordered)) + 2 * bit u.lamp.a.rodValid + 4 * bit u.lamp.b.rodValid
        + 8 * bit (!s.line.replies.isEmpty)
    ∧ holds = ((List.finRange 6).map fun n => if s.line.stations[n].hold then 2 ^ n.val else 0).sum
    ∧ mark = u.attention + 16 * automationStates.idxOf u.seq.automation + 64 * fireStates.idxOf u.fire.state
    ∧ house = (u.lights.house.level + 8) / 16 % 256 ∧ aisle = (u.lights.aisle.level + 8) / 16 % 256
    ∧ lead = (if u.seq.countdown.state = .ordered then u.seq.countdown.t.getD 0 else 0)
    ∧ (t.line.frame.map BitVec.toNat).take 14 =
        [150, tags, holds, mark,
          projectorStates.idxOf u.proj.a.state + 16 * projectorStates.idxOf u.proj.b.state,
          lampStates.idxOf u.lamp.a.state + 16 * lampStates.idxOf u.lamp.b.state, house, aisle,
          lead / 256 % 256, lead % 256]
          ++ ([u.lamp.a, u.lamp.b].map fun x =>
              if x.rodValid then [x.stock / 1000 / 256 % 256, x.stock / 1000 % 256] else [0, 0]).flatten
    ∧ t.line.replies = s.line.replies.tail
    ∧ t.line.lane = s.line.lane ∧ t.line.broken = s.line.broken ∧ t.rotation = s.rotation
    ∧ (s.line.replies = [] →
        (t.line.frame.drop 14).take 8 = List.replicate 8 0 ∧ t.line.stations = s.line.stations)
    ∧ (∀ x rest, s.line.replies = x :: rest →
        ((t.line.frame.drop 14).take 7).map BitVec.toNat =
            [x.station.val + 1, x.kind % 256,
              x.status.code + (if s.line.stations[x.station].overrun then 128 else 0), x.data / 16777216 % 256,
              x.data / 65536 % 256, x.data / 256 % 256, x.data % 256]
          ∧ (((t.line.frame.drop 14).take 8).map BitVec.toNat).sum % 256 = 0
          ∧ t.line.stations =
              s.line.stations.set x.station { s.line.stations[x.station] with overrun := false })
    ∧ t.fire = u.fire ∧ t.store = u.store
    ∧ t.seq.countdown = { u.seq.countdown with raised := t.seq.countdown.raised }
    ∧ (∀ l : Side, (t.lamp.get l).stock = (u.lamp.get l).stock ∧ (t.lamp.get l).rodValid = (u.lamp.get l).rodValid)
    ∧ (s.seq.automation ≠ .engaged →
        t = { u with line := t.line, proj := t.proj }
          ∧ ∀ p : Side, t.proj.get p = { u.proj.get p with windowOpen := (t.proj.get p).windowOpen })

/-- R60, R68, R73, R78, R86, R88, R98, R3: at a boundary RATE becomes the pulses of the last 40 periods, the period just
ended included, and no more than 127. The countdown of a projector that is ON_SCREEN through the boundary is evaluated
from its F, its record's effective end and that RATE, and its cue window opens when T is within CUE_WINDOW, or N within
CUE_WINDOW × 24 / 10 while the countdown is unordered, and stays open. While no projector is ON_SCREEN the record becomes
the absent one and the frame's countdown tag is clear. A projector that an emergency swap puts on the screen in the blocks'
own work of a boundary is first evaluated and tested at the next: the record stands and the flags are clear (log entry 7);
whatever passes the screen at a boundary leaves the four flags clear and the new window closed. That RATE is kept as a
window of periods is log entry 27, the order of the blocks' work log entry 6, and a standing film-loss switch log
entry 16. -/
def Obligations.BoundaryCountsRateAndWithoutScreenNoCountdown : Prop :=
  ∀ (r : Readings) (s : State), ∃ t, exec (.linePeriodBoundary r) s = .next t
    ∧ (∀ p : Side, (s.proj.get p).window.length ≤ 40 →
        (t.proj.get p).window =
            (if (s.proj.get p).window.length = 40 then (s.proj.get p).window.tail else (s.proj.get p).window)
              ++ [(s.proj.get p).pulses]
          ∧ (t.proj.get p).rate = min (t.proj.get p).window.sum 127
          ∧ (t.proj.get p).pulses = 0)
    ∧ (∀ p : Side, (t.proj.get p).f = (s.proj.get p).f ∧ (t.proj.get p).marks = (s.proj.get p).marks)
    ∧ ((s.onScreen .a = false ∧ s.onScreen .b = false
          ∨ s.seq.automation ≠ .engaged ∧ t.onScreen .a = false ∧ t.onScreen .b = false) →
        t.seq.countdown =
            { state := .none, n := none, t := none, overrun := false, unordered := false, inexact := false
              saturated := false, raised := false }
          ∧ ∃ tags, t.line.frame[1]? = some tags ∧ tags.getLsbD 0 = false)
    ∧ (∀ (p : Side) (e : Reel), s.Showing p → t.onScreen p = true → s.boundReel p = some e →
        t.seq.countdown =
            { evaluate (s.proj.get p).f (e.measuredEnd.getD e.endFrame) (t.proj.get p).rate s.store.working.stall
                s.store.working.rounding s.seq.countdown.raised with
              raised := t.seq.countdown.raised }
          ∧ (t.seq.countdown.state = .ordered → t.seq.countdown.raised = false)
          ∧ (t.seq.countdown.state = .unordered → s.seq.countdown.raised = true → t.seq.countdown.raised = true)
          ∧ ((t.proj.get p).windowOpen = true ↔
              (s.proj.get p).windowOpen = true
                ∨ t.seq.countdown.state = .ordered
                  ∧ (∃ v, t.seq.countdown.t = some v ∧ v ≤ s.store.working.cueWindow)
                ∨ t.seq.countdown.state = .unordered
                  ∧ ∃ v, t.seq.countdown.n = some v ∧ v ≤ s.store.working.cueWindow * 24 / 10))
    ∧ (∀ p : Side, s.Showing p → t.onScreen p.other = true →
        t.seq.strikeTaken = false ∧ t.seq.motorTaken = false ∧ t.seq.swapReached = false ∧ t.seq.swapDue = false
          ∧ t.onScreen p = false ∧ (t.proj.get p.other).windowOpen = false ∧ (t.proj.get p.other).stall = 0)
    ∧ ∀ p : Side, s.Showing p → s.NoStandingLoss → s.seq.automation = .engaged →
        (s.lamp.get p).state = .lit → 9 ≤ (s.lamp.get p).lowCurrent → r.amperes.get p < 30 →
        (s.proj.get p).gate = .closed → 8 ≤ (t.proj.get p).rate →
        (s.proj.get p.other).state = .running → s.screenAllowed p.other = true →
        s.seq.douse.get p.other = none → 30 ≤ r.amperes.get p.other →
          t.onScreen p.other = true ∧ (t.proj.get p).state = .runout ∧ (t.lamp.get p).state = .dark
            ∧ t.seq.countdown = s.seq.countdown

/-- R89 to R93: the remaining frames and the OVERRUN mark, the order test, and for an ordered countdown T as the quotient of
20 × N by RATE rounded down (EARLY), up (LATE) or to the nearer tenth with a tie to the even one (NEAREST), held at 9,999
with the SATURATED mark, and the INEXACT mark where a remainder is left. -/
def Obligations.CountdownIsTheRoundedQuotient : Prop :=
  ∀ (f e rate stall rounding : Nat) (raised : Bool) (c : Countdown),
    c = evaluate f e rate stall rounding raised → 1 ≤ stall →
      c.n = some (e - f) ∧ c.overrun = decide (e ≤ f)
        ∧ (rate < stall →
            c.state = .unordered ∧ c.unordered = true ∧ c.t = none ∧ c.inexact = false ∧ c.saturated = false)
        ∧ (stall ≤ rate → c.state = .ordered ∧ c.unordered = false
            ∧ (c.inexact = true ↔ ¬rate ∣ 20 * (e - f))
            ∧ ∃ q, c.t = some (min q 9999) ∧ (c.saturated = true ↔ 9999 < q)
              ∧ (rounding = 1 → q * rate ≤ 20 * (e - f) ∧ 20 * (e - f) < (q + 1) * rate)
              ∧ (rounding = 2 → 20 * (e - f) ≤ q * rate ∧ q * rate < 20 * (e - f) + rate)
              ∧ (rounding = 0 →
                  2 * (q * rate) ≤ 2 * (20 * (e - f)) + rate ∧ 2 * (20 * (e - f)) ≤ 2 * (q * rate) + rate
                    ∧ ((2 * (q * rate) = 2 * (20 * (e - f)) + rate
                          ∨ 2 * (20 * (e - f)) = 2 * (q * rate) + rate) → q % 2 = 0)))

/-- R126, R127: a ramp of r tenths begun toward a target, stepped at every boundary, stands at the target after 2 × r
boundaries at the latest, stopped, and never passes it on the way. At every boundary the aisle takes one step of its ramp,
and so does the house, unless a standing film loss may break the film there (R134, log entry 16) or automation is ENGAGED
with the channel in AUTO, where a fade may begin after the step: the level moves by the step toward the target, or to it
where it would pass it, and at the target the ramp stops. -/
def Obligations.RampIsNeverLate : Prop :=
  (∀ (x : Light) (target tenths k : Nat),
    (2 * tenths ≤ k →
      Light.advance^[k] (x.rampTo target tenths) = { x with level := target, target := target, step := none })
      ∧ min x.level target ≤ (Light.advance^[k] (x.rampTo target tenths)).level
      ∧ (Light.advance^[k] (x.rampTo target tenths)).level ≤ max x.level target
      ∧ (Light.advance^[k] (x.rampTo target tenths)).target = target)
    ∧ ∀ (r : Readings) (s : State) (moved : Light → Nat) (stepped : Light → Light),
        (∀ x, moved x =
          if x.level < x.target then min (x.level + x.step.getD 0) x.target
          else max (x.level - x.step.getD 0) x.target) →
        (∀ x, stepped x =
          if x.step = none then x
          else { x with level := moved x, step := if moved x = x.target then none else x.step }) →
          (∀ x, Light.advance x = stepped x)
            ∧ ∃ t, exec (.linePeriodBoundary r) s = .next t ∧ t.lights.aisle = stepped s.lights.aisle
              ∧ (s.NoStandingLoss → (s.seq.automation ≠ .engaged ∨ s.lights.house.mode ≠ .auto) →
                  t.lights.house = stepped s.lights.house)

/-- R6, R15, R17, R59, R70, R88, R103, R124, R138, R156, R161, R168, R173, R176: what power-on leaves in every block. That
it takes the retained store from the state before is log entry 26, that no frame has been sent and the lane is empty log
entries 13 and 17, and that the count window begins empty log entry 27. -/
def Obligations.PowerOnLeaves : Prop :=
  ∀ (x : PowerOnSensed) (s : State), ∃ t, exec (.powerOn x) s = .next t
    ∧ t.line.stations.toList =
        [x.role1, x.role2, x.role3, x.role4, x.role5, x.role6].map
          (fun r => { role := r, locked := false, hold := false, overrun := false, badEntry := false, queue := [] })
    ∧ t.line.replies = [] ∧ t.line.lane = [] ∧ t.line.frame = [] ∧ t.line.broken = false ∧ t.rotation = 5
    ∧ t.reels = { records := [], code := 1, faultReel := 0 }
    ∧ (∀ p : Side, t.proj.get p =
        { state := .idle, f := 0, rate := 0, window := [], pulses := 0, motorRunning := false, dowserOpen := false
          startPending := false, startFade := false, inchCount := 0, marks := 0, windowOpen := false
          inchTimer := none, runUpTimer := none, filmLoss := x.filmLoss.get p, gate := x.gate.get p, stall := 0
          lossCheck := false })
    ∧ t.seq =
        { automation := .off, strikeTaken := false, motorTaken := false, swapReached := false, swapDue := false
          withholding := none, douse := { a := none, b := none }
          countdown :=
            { state := .none, n := none, t := none, overrun := false, unordered := false, inexact := false
              saturated := false, raised := false } }
    ∧ (∀ l : Side, t.lamp.get l =
        { state := .dark, rectifierClosed := false, iset := 0, strikerClosed := false, attempt := 0, mode := .manual
          f := 0, amperes := 0, volts := 0, stock := 0, fed := 0, carry := 0, rodValid := false, highLimit := false
          lowLimit := false, rodOut := false, lowCurrent := 0, highClamp := 0, lowClamp := 0, trimIntervals := 0
          trimConverge := 0, settlingTimer := none, attemptTimer := none, waitTimer := none, warmTimer := none
          feedClock := none })
    ∧ (∀ c : Channel, t.lights.get c = { level := 1600, target := 1600, step := none, mode := .manual })
    ∧ t.fire.link = x.link ∧ t.fire.state = (if x.link = .opened then .dropped else .clear)
    ∧ (∀ q : Port, t.fire.get q =
        { state :=
            if (match q with
              | .a => x.downA
              | .b => x.downB
              | .observation1 => x.downObservation1
              | .observation2 => x.downObservation2) = .closed then .down else .jammed
          latchHolding := false, motorRunning := false, fallTimer := none, raiseTimer := none })
    ∧ t.fire.stations =
        ([x.role1, x.role2, x.role3, x.role4, x.role5, x.role6].filter (fun r => decide (r = .fire))).length
    ∧ t.store.save = none
    ∧ (s.store.checkGood = true → x.storeAgrees = true →
        t.store = { s.store with working := s.store.channel s.store.startChannel, save := none, rebuilt := false })
    ∧ (s.store.checkGood = false ∨ x.storeAgrees = false →
        t.store =
          { working := Settings.factory, channel1 := Settings.factory, channel2 := Settings.factory
            channel3 := Settings.factory, startChannel := 0, checkGood := true, save := none, rebuilt := true })
    ∧ t.attention =
        (if x.link = .opened then 1 else if s.store.checkGood = false ∨ x.storeAgrees = false then 15 else 0)
    ∧ ∀ k, k ≠ .fire → k ≠ .storeLost → t.record k = { accrued := false, detail := Detail.empty }

/-- The model's choice (log entry 13): State.reset is what POWER_ON leaves in the house of chapter 12, from a store that
holds the factory defaults, its four shutters on their DOWN switches, its link intact and its other switches closed. -/
def Obligations.ResetIsPowerOnInTheWorkedHouse : Prop :=
  ∀ s : State, s.store = Store.factory →
    exec
        (.powerOn
          { role1 := .console, role2 := .house, role3 := .programmer, role4 := .fire, role5 := .absent
            role6 := .absent, link := .intact, downA := .closed, downB := .closed, downObservation1 := .closed
            downObservation2 := .closed, filmLoss := { a := .closed, b := .closed }
            gate := { a := .closed, b := .closed }, storeAgrees := true }) s
      = .next { State.reset with pending := s.pending }

/-! ### Conditions -/

/-- R158, R159: a raise sets the accrued flag, keeps the detail of the first raise since the clear, takes ENGAGED to HALTED
exactly when the condition halts, and changes nothing else. -/
def Obligations.RaiseAccruesAndHalts : Prop :=
  ∀ (k : Condition) (d : Detail) (s : State),
    s.Raised (raiseCondition k d s) k d
      ∧ (k = .fire ∨ k = .filmBreak → s.seq.automation = .engaged →
          (raiseCondition k d s).seq.automation = .halted)
      ∧ (∀ i : Fin 13, k.number = i.val + 3 → s.seq.automation = .engaged →
          (raiseCondition k d s).seq.automation = if s.store.working.halts[i] = 1 then .halted else .engaged)
      ∧ (s.seq.automation ≠ .engaged → (raiseCondition k d s).seq.automation = s.seq.automation)
      ∧ raiseCondition k d s =
          { s with
            cond := (raiseCondition k d s).cond
            seq := { s.seq with automation := (raiseCondition k d s).seq.automation } }

/-- R161: the attention level is the smallest number of an accrued condition, and 0 when none is accrued; a frame carries it,
as it stands when the frame is built, in the low four bits of its fourth character. -/
def Obligations.AttentionIsTheFirstAccrued : Prop :=
  ∀ s : State,
    (s.attention = 0 ↔ ∀ k, (s.record k).accrued = false)
      ∧ (∀ k : Condition, s.attention = k.number ↔
          ((s.record k).accrued = true ∧ ∀ j : Condition, j.number < k.number → (s.record j).accrued = false))
      ∧ ∃ c, (frameOf s)[3]? = some c ∧ c.toNat % 16 = s.attention

/-! ### Inquiries, modes and values -/

/-- R31, R32, R58, R162, R30, R87, R94, R123, R137, R150, R155, R169, R178, R183, R184: the four inquiries answer what they
name and change nothing else. INQUIRE answers DONE with the part asked: MODES packed as R183 gives, the limits, or the
value; zeros for a target that is none; REFUSED_RANGE for any other part. READ answers DONE with the item of the tables,
flags and codes packed as R183 gives and a timer in tenths (a part of a tenth either way, log entry 14; open coded 0, log
entry 12), or REFUSED_RANGE. READ_REEL and READ_CONDITIONS answer DONE with their packed records, or REFUSED_RANGE. An
incoming record with E below P reads the rod need of a picture length of 0 (log entry 29). -/
def Obligations.InquiriesOnlyAnswer : Prop :=
  ∀ (n : Station) (s : State),
    (∀ t part, s.admits n .inquire t = true →
      ((t = .noTarget ∨ (∃ c, t = .unknown c) ∨ ∃ i, t = .setting i ∧ ¬(1 ≤ i ∧ i ≤ 45)) → 1 ≤ part → part ≤ 4 →
          exec (.inquire n t part) s = .next (s.answered n .inquire .done 0))
        ∧ (part = 0 ∨ 5 ≤ part → exec (.inquire n t part) s = .next (s.answered n .inquire .refusedRange 1))
        ∧ ∀ (available mode low high value : Nat),
            (t = .house ∧ available = 3 ∧ mode = modes.idxOf s.lights.house.mode ∧ low = 0 ∧ high = 100
                ∧ value = (s.lights.house.level + 8) / 16
              ∨ t = .aisle ∧ available = 3 ∧ mode = modes.idxOf s.lights.aisle.mode
                ∧ low = s.store.working.aisleMin ∧ high = 100 ∧ value = (s.lights.aisle.level + 8) / 16
              ∨ (∃ l, t = .arc l ∧ available = 7 ∧ mode = modes.idxOf (s.lamp.get l).mode ∧ low = 0
                ∧ high = (s.store.working.lamp.get l).fmax ∧ value = (s.store.working.lamp.get l).manualRate)
              ∨ available = 0 ∧ mode = 3
                ∧ ((∃ p, t = .proj p ∧ low = 0 ∧ high = 131071 ∧ value = (s.proj.get p).f)
                  ∨ t = .shutters ∧ low = 0 ∧ high = 4
                    ∧ value =
                      ([s.fire.a, s.fire.b, s.fire.observation1, s.fire.observation2].filter
                        fun x => decide (x.state = .up)).length
                  ∨ t = .automation ∧ low = 0 ∧ high = 2 ∧ value = automationStates.idxOf s.seq.automation
                  ∨ t = .reels ∧ low = 0 ∧ high = 24 ∧ value = s.reels.records.length
                  ∨ t = .presets ∧ low = 0 ∧ high = 3 ∧ value = s.store.startChannel
                  ∨ ∃ i, t = .setting i ∧ 1 ≤ i ∧ s.store.working.limits[i - 1]? = some (low, high)
                    ∧ s.store.working.listed[i - 1]? = some value)) →
              exec (.inquire n t 1) s =
                  .next (s.answered n .inquire .done (16777216 + available * 65536 + mode * 256))
                ∧ exec (.inquire n t 2) s = .next (s.answered n .inquire .done low)
                ∧ exec (.inquire n t 3) s = .next (s.answered n .inquire .done high)
                ∧ exec (.inquire n t 4) s = .next (s.answered n .inquire .done value))
      ∧ (∃ (warm douse : Side → Nat) (save : Nat),
          (∀ l, (s.lamp.get l).warmTimer.ReadsAs (warm l) ∧ (s.seq.douse.get l).ReadsAs (douse l))
          ∧ (s.store.save = none → save = 0) ∧ (∀ j ∈ s.store.save, ReadTimer.ReadsAs (some j.timer) save)
          ∧ ∀ (t : Target) (items : List Nat), s.admits n .read t = true →
              items =
                (match t with
                | .house | .aisle =>
                  let x := if t = .house then s.lights.house else s.lights.aisle
                  let left := max x.level x.target - min x.level x.target
                  [modes.idxOf x.mode, x.level, x.target] ++
                    (match x.step with
                    | none => [16777216, 0]
                    | some d => [d, (left + d - 1) / d])
                | .arc l =>
                  let x := s.lamp.get l
                  [lampStates.idxOf x.state, modes.idxOf x.mode, bit x.rectifierClosed * 16777216 + x.iset, x.amperes,
                    x.volts, x.f, x.stock, x.fed,
                    bit x.highLimit + 2 * bit x.lowLimit + 4 * bit x.rodOut + 8 * bit x.rodValid, x.attempt,
                    x.trimIntervals * 16777216 + x.trimConverge, warm l]
                | .proj p =>
                  let x := s.proj.get p
                  [projectorStates.idxOf x.state, x.f, x.rate, (s.boundReel p).elim 0 Reel.number,
                    bit x.startPending, x.marks, bit x.windowOpen, bit (decide (x.filmLoss = .closed)),
                    bit (decide (x.gate = .closed)), x.stall]
                | .shutters =>
                  [fireStates.idxOf s.fire.state, bit (decide (s.fire.link = .opened))]
                    ++ [s.fire.a, s.fire.b, s.fire.observation1, s.fire.observation2].map
                      (fun x => shutterStates.idxOf x.state)
                    ++ [s.fire.stations]
                | .automation =>
                  let c := s.seq.countdown
                  [automationStates.idxOf s.seq.automation,
                    if s.onScreen .a then 1 else if s.onScreen .b then 2 else 0,
                    bit s.seq.strikeTaken + 2 * bit s.seq.motorTaken + 4 * bit s.seq.swapReached
                      + 8 * bit s.seq.swapDue,
                    douse .a * 65536 + douse .b, countdownStates.idxOf c.state,
                    if c.state = .ordered then c.t.getD 0 else 0, if c.state = .none then 0 else c.n.getD 0,
                    bit c.overrun + 2 * bit c.unordered + 4 * bit c.inexact + 8 * bit c.saturated] ++
                    (match s.incomingReel with
                    | none => [0, 0]
                    | some r =>
                      let x := s.store.working.lamp.get r.projector
                      [(r.leader * 10 + 23) / 24 + s.store.working.runUp,
                        min (((r.endFrame - r.leader) * ((x.inom * x.burn + 15) / 16) + 23) / 24 + x.reserve * 1000)
                          999999])
                | .reels =>
                  let x := s.reels
                  [x.records.length, x.code, x.faultReel]
                    ++ [Side.a, Side.b].map (fun p =>
                      ((x.records.filter fun r =>
                          decide (r.status ≠ .shown) && decide (r.status ≠ .skipped)
                            && decide (r.projector = p)).head?.map Reel.number).getD 0)
                    ++ [Side.a, Side.b].map (fun p =>
                      ((x.records.filter fun r =>
                          decide (r.projector = p)
                            && [RecordStatus.bound, .running, .showing].contains r.status).head?.map
                              Reel.number).getD 0)
                | .presets =>
                  [s.store.startChannel, s.store.save.elim 0 SaveJob.channel, save, bit s.store.rebuilt]
                | .setting i =>
                  [s.store.working, Settings.factory, s.store.channel1, s.store.channel2, s.store.channel3].map
                    fun x => x.listed.getD (i - 1) 0
                | .noTarget => []
                | .unknown _ => []) →
                (∀ i d, items[i]? = some d → exec (.read n t (i + 1)) s = .next (s.answered n .read .done d))
                  ∧ ∀ item, item = 0 ∨ items.length < item →
                      exec (.read n t item) s = .next (s.answered n .read .refusedRange 1))
      ∧ (∀ reel, s.admits n .readReel .reels = true →
          (∀ front r back e, 1 ≤ reel → reel ≤ 99 → s.reels.records = front ++ r :: back → r.number = reel →
            (∀ y ∈ front, y.number ≠ reel) → e = r.measuredEnd.getD r.endFrame →
            exec (.readReel n .reels reel) s =
              .next (s.answered n .readReel .done
                (((front.length + 1) % 32 + 32 * bit r.measuredEnd.isSome + 64 * (e / 65536 % 2)) * 16777216
                  + (recordStatuses.idxOf r.status + 8 * bit (decide (r.projector = .b)) + 16 * bit r.last
                      + 32 * bit r.intermission + 64 * bit r.cue.isSome + 128 * bit r.cueTaken) * 65536
                  + e % 65536)))
            ∧ (s.NamesNone reel →
                exec (.readReel n .reels reel) s = .next (s.answered n .readReel .refusedRange 1)))
      ∧ ∀ condition part, s.admits n .readConditions .noTarget = true →
          (condition = 0 →
            exec (.readConditions n .noTarget condition part) s =
              .next (s.answered n .readConditions .done
                ((allConditions.map fun k => if (s.record k).accrued then 2 ^ (k.number - 1) else 0).sum * 65536
                  + (allConditions.map fun k => if s.current k then 2 ^ (k.number - 1) else 0).sum)))
            ∧ (∀ (k : Condition) (d : Detail), condition = k.number →
                d = (if (s.record k).accrued then (s.record k).detail else { unit := .nothing, f := none, t := none }) →
                (part = 1 →
                  exec (.readConditions n .noTarget condition part) s =
                    .next (s.answered n .readConditions .done
                      ((bit (s.record k).accrued + 2 * bit (s.current k) + 4 * bit d.t.isSome) * 16777216
                        + detailUnits.idxOf d.unit * 65536 + d.t.getD 0)))
                  ∧ (part = 2 →
                      exec (.readConditions n .noTarget condition part) s =
                        .next (s.answered n .readConditions .done (bit d.f.isSome * 16777216 + d.f.getD 0)))
                  ∧ (part ≠ 1 → part ≠ 2 →
                      exec (.readConditions n .noTarget condition part) s =
                        .next (s.answered n .readConditions .refusedRange 2)))
            ∧ (16 ≤ condition →
                exec (.readConditions n .noTarget condition part) s =
                  .next (s.answered n .readConditions .refusedRange 1))

/-- R33, R120, R121, R133: SET_MODE on a channel stops its ramp where it stands when the mode is the other one; on an arc it
changes the mode with the trim and clamp counts at 0, TRIM needing the lamp LIT; a mode already held changes nothing, and
a mode the function does not have is refused. -/
def Obligations.SetModeChangesTheMode : Prop :=
  ∀ (n : Station) (s : State),
    (∀ c : Channel, s.admits n .setMode c.target = true →
      (∀ m v, (m = Mode.manual ∧ v = 0 ∨ m = Mode.auto ∧ v = 1) →
        ((s.lights.get c).mode = m → exec (.setMode n c.target v) s = .next (s.answered n .setMode .done 0))
          ∧ ((s.lights.get c).mode ≠ m →
              exec (.setMode n c.target v) s =
                .next ((s.onLight c fun x => { x with mode := m, target := x.level, step := none }).answered n
                  .setMode .done 0)))
        ∧ ∀ v, 2 ≤ v → exec (.setMode n c.target v) s = .next (s.answered n .setMode .refusedRange 1))
      ∧ ∀ l : Side, s.admits n .setMode (.arc l) = true →
          (∀ m v, (m = Mode.manual ∧ v = 0 ∨ m = Mode.auto ∧ v = 1 ∨ m = Mode.trim ∧ v = 2) →
            ((s.lamp.get l).mode = m →
              exec (.setMode n (.arc l) v) s = .next (s.answered n .setMode .done 0))
              ∧ ((s.lamp.get l).mode ≠ m → m = .trim → (s.lamp.get l).state ≠ .lit →
                  exec (.setMode n (.arc l) v) s = .next (s.answered n .setMode .refusedState 0))
              ∧ ((s.lamp.get l).mode ≠ m → (m = .trim → (s.lamp.get l).state = .lit) →
                  exec (.setMode n (.arc l) v) s =
                    .next ((s.onLamp l fun x =>
                      { x with mode := m, trimIntervals := 0, trimConverge := 0, highClamp := 0, lowClamp := 0 }).answered
                        n .setMode .done 0)))
            ∧ ∀ v, 3 ≤ v → exec (.setMode n (.arc l) v) s = .next (s.answered n .setMode .refusedRange 1)

/-- R34 to R38, R126, R129, R130: a light request is refused in DROPPED and RESET_PENDING, held by the mode it does not
belong to with the reported level as data, and otherwise applied with its level clamped to 100 (and up to AISLE_MIN) and
its ramp to 600: the level at once for a ramp of 0 or no distance, else a step of the distance over twice the ramp,
rounded up. It is answered CLAMPED with the applied level when a clamp moved a value. -/
def Obligations.LightRequestsAreJudgedAndApplied : Prop :=
  ∀ (n : Station) (c : Channel) (level ramp : Nat) (s : State) (i : Instr) (k : Kind) (held : Mode) (st : Status),
    (i = .setValueHouse n c level ramp ∧ k = .setValue ∧ held = .auto ∧ st = .heldAuto
        ∨ i = .setTarget n c.target level ramp ∧ k = .setTarget ∧ held = .manual ∧ st = .heldManual) →
      s.admits n k c.target = true → (s.lights.get c).mode ≠ .trim → s.store.working.aisleMin ≤ 100 →
        (s.fireAllows = false → exec i s = .next (s.answered n k .refusedState 0))
          ∧ (s.fireAllows = true → (s.lights.get c).mode = held →
              exec i s = .next (s.answered n k st (((s.lights.get c).level + 8) / 16)))
          ∧ (s.fireAllows = true → (s.lights.get c).mode ≠ held →
              ∀ v r least d, least = (match c with | .house => 0 | .aisle => s.store.working.aisleMin) →
                v = max least (min level 100) → r = min ramp 600 →
                d = max (v * 16) (s.lights.get c).level - min (v * 16) (s.lights.get c).level →
                  exec i s =
                    .next ((s.onLight c fun x =>
                      if r = 0 ∨ d = 0 then { x with level := v * 16, target := v * 16, step := none }
                      else { x with target := v * 16, step := some ((d + 2 * r - 1) / (2 * r)) }).answered n k
                        (if v = level ∧ r = ramp then .done else .clamped)
                        (if v = level ∧ r = ramp then 0 else v)))

/-- R35, R37, R38: SET_VALUE on an arc, and on its manual-rate setting, sets the working manual rate in MANUAL, clamped to
FMAX, and is held in AUTO and TRIM with the present rate as data. -/
def Obligations.ManualRateIsSetInManual : Prop :=
  ∀ (n : Station) (l : Side) (rate : Nat) (s : State) (i : Instr) (t : Target),
    (i = .setValueArc n l rate ∧ t = .arc l
        ∨ i = .setValueSetting n (match l with | .a => 14 | .b => 24) rate
          ∧ t = .setting (match l with | .a => 14 | .b => 24)) →
      s.admits n .setValue t = true →
        ((s.lamp.get l).mode ≠ .manual →
          exec i s = .next (s.answered n .setValue .heldAuto (s.store.working.lamp.get l).manualRate))
          ∧ ((s.lamp.get l).mode = .manual →
              ∀ v, v = min rate (s.store.working.lamp.get l).fmax →
                exec i s =
                  .next
                    { s with
                      store :=
                        { s.store with
                          working :=
                            { s.store.working with
                              lamp :=
                                s.store.working.lamp.set l
                                  { s.store.working.lamp.get l with manualRate := v } } }
                      line :=
                        { s.line with
                          replies :=
                            s.line.replies
                              ++ [{ station := n, kind := 9, status := if v = rate then .done else .clamped
                                    data := if v = rate then 0 else v }] } })

/-- R119, R128, R170 to R172: SET_VALUE on a setting: the same value changes nothing; during a show a change to a
format-bearing setting that fails its trial is refused with the code and changes nothing; otherwise the working value
becomes the clamped value and no other setting changes but IMIN kept within INOM and the manual rate within FMAX, Iset is
brought within a changed range and a raised AISLE_MIN lifts the aisle. The answer is CLAMPED with the value applied, or
DONE with the format code for S_LEAD, RUNUP and WARM and zero for the rest. -/
def Obligations.SettingIsChangedWithinItsRange : Prop :=
  ∀ (n : Station) (k value : Nat) (s : State),
    s.admits n .setValue (.setting k) = true → manualRateLamp k = none → s.store.working.InRange →
      (value = s.store.working.value k →
        exec (.setValueSetting n k value) s =
          .next (s.answered n .setValue .done (if k = 1 ∨ k = 2 ∨ k = 15 ∨ k = 25 then s.reels.code else 0)))
        ∧ (value ≠ s.store.working.value k → s.seq.automation ≠ .off →
            k ∈ [1, 2, 9, 12, 15, 19, 22, 25] →
            ∀ code, code = (formatCheck (s.store.working.change k (s.store.working.clamped k value))
                s.reels.records).1 → code ≠ 0 →
              exec (.setValueSetting n k value) s = .next (s.answered n .setValue .refusedState code))
        ∧ (value ≠ s.store.working.value k →
            (s.seq.automation = .off ∨ k ∉ [1, 2, 9, 12, 15, 19, 22, 25]
              ∨ (formatCheck (s.store.working.change k (s.store.working.clamped k value)) s.reels.records).1 = 0) →
            ∃ t, exec (.setValueSetting n k value) s = .next t
              ∧ t.store.working.value k =
                  max (s.store.working.range k).1 (min value (s.store.working.range k).2)
              ∧ (∀ j, j ≠ k → (k = 12 → j ≠ 13) → (k = 22 → j ≠ 23) → (k = 11 → j ≠ 14) → (k = 21 → j ≠ 24) →
                  t.store.working.value j = s.store.working.value j)
              ∧ (k = 12 → t.store.working.lamp.a.imin = min s.store.working.lamp.a.imin t.store.working.lamp.a.inom)
              ∧ (k = 22 → t.store.working.lamp.b.imin = min s.store.working.lamp.b.imin t.store.working.lamp.b.inom)
              ∧ (k = 11 →
                  t.store.working.lamp.a.manualRate =
                    min s.store.working.lamp.a.manualRate t.store.working.lamp.a.fmax)
              ∧ (k = 21 →
                  t.store.working.lamp.b.manualRate =
                    min s.store.working.lamp.b.manualRate t.store.working.lamp.b.fmax)
              ∧ t.store.working.InRange
              ∧ s.Replies t n .setValue (if t.store.working.value k = value then .done else .clamped)
                  (if t.store.working.value k = value then
                    (if k = 1 ∨ k = 2 ∨ k = 15 ∨ k = 25 then t.reels.code else 0)
                  else t.store.working.value k)
              ∧ (k ∈ [1, 2, 15, 25] →
                  (t.reels.code, t.reels.faultReel) = formatCheck t.store.working s.reels.records)
              ∧ (k ∉ [1, 2, 15, 25] → t.reels = s.reels)
              ∧ t.reels.records = s.reels.records ∧ t.proj = s.proj ∧ t.seq = s.seq ∧ t.fire = s.fire ∧ t.cond = s.cond
              ∧ (∀ l : Side, t.lamp.get l =
                  lampAfter (s.store.working.lamp.get l) (t.store.working.lamp.get l) (s.lamp.get l))
              ∧ t.lights =
                  { s.lights with
                    aisle := aisleAfter s.store.working.aisleMin t.store.working.aisleMin s.lights.aisle })

/-! ### Lamps -/

/-- R105, R119, R75: STRIKE of a DARK lamp with stock, in CLEAR or ALERT, closes the rectifier at INOM, sets the attempt to
0, starts the settling timer of 2.0 s and goes to SETTLING; a withholding for the lamp ends; else it is refused. That a
timer started between boundaries runs one boundary more is log entry 8. -/
def Obligations.StrikeBeginsSettling : Prop :=
  ∀ (n : Station) (l : Side) (s : State), s.admits n .strike (.arc l) = true →
    ((s.lamp.get l).state = .dark → s.fireAllows = true → 0 < (s.lamp.get l).stock →
      ∃ t, exec (.strike n (.arc l)) s = .next t
        ∧ t.lamp =
            s.lamp.set l
              { s.lamp.get l with
                state := .settling, rectifierClosed := true, iset := (s.store.working.lamp.get l).inom, attempt := 0
                settlingTimer := some 41 }
        ∧ s.Replies t n .strike .done 0
        ∧ (∀ w, t.seq.withholding = some w → w.lamp ≠ l)
        ∧ t.seq = { s.seq with withholding := t.seq.withholding } ∧ s.WithholdingOnlyEnds t
        ∧ t.reels = s.reels ∧ t.proj = s.proj ∧ t.lights = s.lights ∧ t.fire = s.fire ∧ t.cond = s.cond
        ∧ t.store = s.store)
      ∧ (((s.lamp.get l).state ≠ .dark ∨ s.fireAllows = false ∨ (s.lamp.get l).stock = 0) →
          exec (.strike n (.arc l)) s = .next (s.answered n .strike .refusedState 0))

/-- R112, R121, R86, R82, R84: EXTINGUISH of a DARK lamp changes nothing; of any other it takes the lamp to DARK with the
rectifier open, the striker withdrawn, every timer and the feed clock stopped, marks and counts cleared and a trim
abandoned, cancels its douse timer, clears the start-pending flag of its projector, and takes its ON_SCREEN projector to
RUNNING with the dowser closed. No condition is raised, and the other lamp and projector stay. -/
def Obligations.ExtinguishTakesTheLampDark : Prop :=
  ∀ (n : Station) (l : Side) (s : State), s.admits n .extinguish (.arc l) = true →
    ((s.lamp.get l).state = .dark →
      exec (.extinguish n (.arc l)) s = .next (s.answered n .extinguish .done 0))
      ∧ ((s.lamp.get l).state ≠ .dark →
          ∃ t, exec (.extinguish n (.arc l)) s = .next t ∧ s.PutOut t l ∧ s.Replies t n .extinguish .done 0)

/-- R122: NEW ROD of 50 to 600 mm on a DARK lamp sets the stock to the length, fed length and carry to 0, clears rod-out and
sets the rod field valid; another length is refused as field 1, and another lamp state is refused. -/
def Obligations.NewRodSetsTheStock : Prop :=
  ∀ (n : Station) (l : Side) (length : Nat) (s : State), s.admits n .newRod (.arc l) = true →
    (50 ≤ length → length ≤ 600 → (s.lamp.get l).state = .dark →
      exec (.newRod n (.arc l) length) s =
        .next ((s.onLamp l fun x =>
          { x with stock := length * 1000, fed := 0, carry := 0, rodOut := false, rodValid := true }).answered n .newRod
            .done 0))
      ∧ ((length < 50 ∨ 600 < length) →
          exec (.newRod n (.arc l) length) s = .next (s.answered n .newRod .refusedRange 1))
      ∧ (50 ≤ length → length ≤ 600 → (s.lamp.get l).state ≠ .dark →
          exec (.newRod n (.arc l) length) s = .next (s.answered n .newRod .refusedState 0))

/-! ### Projectors -/

/-- R46, R61, R82: LOAD of a WAITING or INTERRUPTED record of the projector, next for it while ENGAGED, takes the IDLE
projector to THREADED at F0 with the record BOUND and its lamp's douse timer cancelled; the field and state tests refuse
the rest. -/
def Obligations.LoadThreadsAndBinds : Prop :=
  ∀ (n : Station) (p : Side) (reel f0 : Nat) (s : State), s.admits n .load (.proj p) = true →
    ((reel < 1 ∨ 99 < reel ∨ findReel s.reels.records reel = none) →
      exec (.load n (.proj p) reel f0) s = .next (s.answered n .load .refusedRange 1))
      ∧ ∀ r, 1 ≤ reel → reel ≤ 99 → findReel s.reels.records reel = some r →
          (131071 < f0 → exec (.load n (.proj p) reel f0) s = .next (s.answered n .load .refusedRange 2))
            ∧ (f0 ≤ 131071 →
                ((s.proj.get p).state ≠ .idle ∨ r.projector ≠ p ∨ (r.status ≠ .waiting ∧ r.status ≠ .interrupted)
                  ∨ (s.seq.automation = .engaged
                    ∧ ∀ x, nextFor s.reels.records p = some x → x.number ≠ r.number)) →
                exec (.load n (.proj p) reel f0) s = .next (s.answered n .load .refusedState 0))
            ∧ (f0 ≤ 131071 → (s.proj.get p).state = .idle → r.projector = p →
                (r.status = .waiting ∨ r.status = .interrupted) →
                (s.seq.automation = .engaged → ∃ x, nextFor s.reels.records p = some x ∧ x.number = r.number) →
                ∃ t, exec (.load n (.proj p) reel f0) s = .next t
                  ∧ t.proj =
                      s.proj.set p
                        { s.proj.get p with
                          state := .threaded, f := f0, marks := 0, windowOpen := false, startPending := false
                          startFade := false }
                  ∧ t.reels =
                      { s.reels with
                        records :=
                          s.reels.records.map fun y => if y.number = reel then { y with status := .bound } else y }
                  ∧ t.seq = { s.seq with douse := s.seq.douse.set p none, withholding := t.seq.withholding }
                  ∧ s.WithholdingOnlyEnds t
                  ∧ s.Replies t n .load .done 0
                  ∧ t.lamp = s.lamp ∧ t.lights = s.lights ∧ t.fire = s.fire ∧ t.cond = s.cond ∧ t.store = s.store)

/-- R47, R61: UNLOAD from THREADED, STOPPED and BROKEN takes the projector to IDLE at F 0; the bound record of a THREADED one
returns to WAITING and otherwise the list is left; elsewhere it is refused. -/
def Obligations.UnloadTakesTheProjectorIdle : Prop :=
  ∀ (n : Station) (p : Side) (s : State), s.admits n .unload (.proj p) = true →
    (((s.proj.get p).state = .threaded ∨ (s.proj.get p).state = .stopped ∨ (s.proj.get p).state = .broken) →
      ∃ t, exec (.unload n (.proj p)) s = .next t
        ∧ t.proj =
            s.proj.set p
              { s.proj.get p with
                state := .idle, f := 0, marks := 0, windowOpen := false, startPending := false, startFade := false }
        ∧ t.reels =
            (if (s.proj.get p).state = .threaded then
              { s.reels with records := boundBecome s.reels.records p .waiting }
            else s.reels)
        ∧ t.seq = { s.seq with withholding := t.seq.withholding } ∧ s.WithholdingOnlyEnds t
        ∧ s.Replies t n .unload .done 0
        ∧ t.lamp = s.lamp ∧ t.lights = s.lights ∧ t.fire = s.fire ∧ t.cond = s.cond ∧ t.store = s.store)
      ∧ (((s.proj.get p).state = .idle ∨ (s.proj.get p).state.moving = true) →
          exec (.unload n (.proj p)) s = .next (s.answered n .unload .refusedState 0))

/-- R62, R63: INCH of 1 to 255 frames from THREADED, and START from THREADED and INCHING, in CLEAR or ALERT, start the motor
and their timer of 6.0 s; they are refused in every other state, in DROPPED and RESET_PENDING, and for a frame count out
of range. That a timer started between boundaries runs one boundary more is log entry 8. -/
def Obligations.InchAndStartRunTheMotor : Prop :=
  ∀ (n : Station) (p : Side) (s : State),
    (∀ frames, s.admits n .inch (.proj p) = true →
      (1 ≤ frames → frames ≤ 255 → (s.proj.get p).state = .threaded → s.fireAllows = true →
        exec (.inch n (.proj p) frames) s =
          .next ((s.onProj p fun x =>
            { x with
              state := .inching, motorRunning := true, inchCount := frames, inchTimer := some 121
              lossCheck := true }).answered n .inch .done 0))
        ∧ ((frames < 1 ∨ 255 < frames) →
            exec (.inch n (.proj p) frames) s = .next (s.answered n .inch .refusedRange 1))
        ∧ (1 ≤ frames → frames ≤ 255 → ((s.proj.get p).state ≠ .threaded ∨ s.fireAllows = false) →
            exec (.inch n (.proj p) frames) s = .next (s.answered n .inch .refusedState 0)))
      ∧ (s.admits n .start (.proj p) = true →
          (((s.proj.get p).state = .threaded ∨ (s.proj.get p).state = .inching) → s.fireAllows = true →
            exec (.start n (.proj p)) s =
              .next ((s.onProj p fun x =>
                { x with
                  state := .starting, motorRunning := true, inchCount := 0, inchTimer := none
                  runUpTimer := some 121, lossCheck := true }).answered n .start .done 0))
            ∧ (((s.proj.get p).state ≠ .threaded ∧ (s.proj.get p).state ≠ .inching) ∨ s.fireAllows = false →
                exec (.start n (.proj p)) s = .next (s.answered n .start .refusedState 0)))

/-- R64, R45, R70, R82: STOP of a moving projector stops the motor, closes the dowser, cancels its timers and returns it to
THREADED with F kept, its record BOUND; leaving ON_SCREEN clears swap due and leaving RUNOUT cancels the douse timer.
The inch count is left as it stands (log entry 10). In THREADED it clears the start-pending flag alone; in IDLE, STOPPED
and BROKEN it is refused. -/
def Obligations.StopReturnsToThreaded : Prop :=
  ∀ (n : Station) (p : Side) (s : State), s.admits n .stop (.proj p) = true →
    ((s.proj.get p).state.moving = true →
      ∃ t, exec (.stop n (.proj p)) s = .next t
        ∧ t.proj =
            s.proj.set p
              { s.proj.get p with
                state := .threaded, motorRunning := false, dowserOpen := false, windowOpen := false, stall := 0
                startPending := false, startFade := false, inchTimer := none, runUpTimer := none, lossCheck := false }
        ∧ t.reels = { s.reels with records := boundBecome s.reels.records p .bound }
        ∧ t.seq =
            { s.seq with
              swapDue := s.seq.swapDue && !s.onScreen p
              douse := if (s.proj.get p).state = .runout then s.seq.douse.set p none else s.seq.douse
              withholding := t.seq.withholding }
        ∧ s.WithholdingOnlyEnds t
        ∧ s.Replies t n .stop .done 0
        ∧ t.lamp = s.lamp ∧ t.lights = s.lights ∧ t.fire = s.fire ∧ t.cond = s.cond ∧ t.store = s.store)
      ∧ ((s.proj.get p).state = .threaded →
          ∃ t, exec (.stop n (.proj p)) s = .next t
            ∧ t.proj = s.proj.set p { s.proj.get p with startPending := false, startFade := false }
            ∧ t.seq = { s.seq with withholding := t.seq.withholding } ∧ s.WithholdingOnlyEnds t
            ∧ s.Replies t n .stop .done 0
            ∧ t.reels = s.reels ∧ t.lamp = s.lamp ∧ t.lights = s.lights ∧ t.fire = s.fire ∧ t.cond = s.cond
            ∧ t.store = s.store)
      ∧ (((s.proj.get p).state = .idle ∨ (s.proj.get p).state = .stopped ∨ (s.proj.get p).state = .broken) →
          exec (.stop n (.proj p)) s = .next (s.answered n .stop .refusedState 0))

/-- R65 to R67, R70, R78, R82, R84: OPEN takes a ready projector to ON_SCREEN while the other is not, and SWAP passes the
screen to a ready projector from the other: dowsers, records, changeover flags and start-pending flags as the rules give,
and while ENGAGED the douse of the lamp given up, its timer one period longer as one started between boundaries (log entry
8). Else both are refused. -/
def Obligations.OpenAndSwapGiveTheScreen : Prop :=
  ∀ (n : Station) (p : Side) (s : State),
    (s.admits n .openDowser (.proj p) = true →
      ((s.proj.get p).state = .running → s.screenAllowed p = true → s.onScreen p.other = false →
        ∃ t, exec (.openDowser n (.proj p)) s = .next t ∧ s.Opened t p ∧ s.Replies t n .openDowser .done 0)
        ∧ (((s.proj.get p).state ≠ .running ∨ s.screenAllowed p = false ∨ s.onScreen p.other = true) →
            exec (.openDowser n (.proj p)) s = .next (s.answered n .openDowser .refusedState 0)))
      ∧ (s.admits n .swap (.proj p) = true →
          ((s.proj.get p).state = .running → s.screenAllowed p = true → s.onScreen p.other = true →
            ∃ t, exec (.swap n (.proj p)) s = .next t ∧ s.Swapped t p p.other ∧ s.Replies t n .swap .done 0
              ∧ t.lights = s.lights ∧ t.fire = s.fire ∧ t.cond = s.cond ∧ t.store = s.store)
            ∧ (((s.proj.get p).state ≠ .running ∨ s.screenAllowed p = false ∨ s.onScreen p.other = false) →
                exec (.swap n (.proj p)) s = .next (s.answered n .swap .refusedState 0)))

/-! ### The reel list -/

/-- R54: the format code is 0 when the six checks hold over the remaining show and its linked pairs, and otherwise it is the
number of the first that fails; the fault reel is the first record at which that check fails, the second of the pair for
check 2, and no reel for check 1 and for code 0. -/
def Obligations.FormatCodeIsTheFirstFailingCheck : Prop :=
  ∀ (t : Settings) (records : List Reel) (rest : List Reel) (pairs : List (Reel × Reel)),
    rest = records.filter (fun r => decide (r.status ≠ .shown) && decide (r.status ≠ .skipped)) →
    pairs = (rest.zip rest.tail).filter (fun x => !x.1.intermission) →
      ∀ c1 c2 c3 c4 c5 c6 : Prop,
        (c1 ↔ rest ≠ []) →
        (c2 ↔ ∀ x ∈ pairs, x.1.projector ≠ x.2.projector) →
        (c3 ↔ ∀ r ∈ rest, r.leader + 240 ≤ r.endFrame) →
        (c4 ↔ ∀ x ∈ pairs, t.sLead ≤ (x.1.endFrame - x.1.leader) * 10 / 24) →
        (c5 ↔ ∀ x ∈ pairs,
          (x.2.leader * 10 + 23) / 24 + t.runUp + (t.lamp.get x.2.projector).warm ≤ t.sLead) →
        (c6 ↔ ∀ r ∈ rest, ∀ c, r.cue = some c → c.point ≤ r.endFrame - r.leader) →
          ((formatCheck t records).1 = 0 ↔ c1 ∧ c2 ∧ c3 ∧ c4 ∧ c5 ∧ c6)
            ∧ ((formatCheck t records).1 = 1 ↔ ¬c1)
            ∧ ((formatCheck t records).1 = 2 ↔ c1 ∧ ¬c2)
            ∧ ((formatCheck t records).1 = 3 ↔ c1 ∧ c2 ∧ ¬c3)
            ∧ ((formatCheck t records).1 = 4 ↔ c1 ∧ c2 ∧ c3 ∧ ¬c4)
            ∧ ((formatCheck t records).1 = 5 ↔ c1 ∧ c2 ∧ c3 ∧ c4 ∧ ¬c5)
            ∧ ((formatCheck t records).1 = 6 ↔ c1 ∧ c2 ∧ c3 ∧ c4 ∧ c5 ∧ ¬c6)
            ∧ ((formatCheck t records).1 ≤ 1 → (formatCheck t records).2 = 0)
            ∧ ((formatCheck t records).1 = 2 →
                ∃ front x back, pairs = front ++ x :: back ∧ (∀ y ∈ front, y.1.projector ≠ y.2.projector)
                  ∧ x.1.projector = x.2.projector ∧ (formatCheck t records).2 = x.2.number)
            ∧ ((formatCheck t records).1 = 3 →
                ∃ front r back, rest = front ++ r :: back ∧ (∀ y ∈ front, y.leader + 240 ≤ y.endFrame)
                  ∧ r.endFrame < r.leader + 240 ∧ (formatCheck t records).2 = r.number)
            ∧ ((formatCheck t records).1 = 4 →
                ∃ front x back, pairs = front ++ x :: back
                  ∧ (∀ y ∈ front, t.sLead ≤ (y.1.endFrame - y.1.leader) * 10 / 24)
                  ∧ (x.1.endFrame - x.1.leader) * 10 / 24 < t.sLead ∧ (formatCheck t records).2 = x.1.number)
            ∧ ((formatCheck t records).1 = 5 →
                ∃ front x back, pairs = front ++ x :: back
                  ∧ (∀ y ∈ front,
                      (y.2.leader * 10 + 23) / 24 + t.runUp + (t.lamp.get y.2.projector).warm ≤ t.sLead)
                  ∧ t.sLead < (x.2.leader * 10 + 23) / 24 + t.runUp + (t.lamp.get x.2.projector).warm
                  ∧ (formatCheck t records).2 = x.2.number)
            ∧ ((formatCheck t records).1 = 6 →
                ∃ front r back, rest = front ++ r :: back
                  ∧ (∀ y ∈ front, ∀ c, y.cue = some c → c.point ≤ y.endFrame - y.leader)
                  ∧ (∃ c, r.cue = some c ∧ r.endFrame - r.leader < c.point)
                  ∧ (formatCheck t records).2 = r.number)

/-- R48 to R53: the seven edits. Each request, in the state and with the fields its rule asks, is carried out on the list as
the rule gives, the format checks are evaluated on the new list and the code is the answer's data; nothing else of the
booth changes. While automation is ENGAGED or HALTED the trial must give 0. The tests before the trial, in the order of
R48: a field out of its range or against the list is REFUSED_RANGE with the number of the first such field, the automation
state or a binding against it REFUSED_STATE with data zero, and an ADD or INSERT to a list of 24 FULL; each changes
nothing but the answer. -/
def Obligations.EditsAreCarriedOut : Prop :=
  (∀ (n : Station) (s : State) (c : Instr) (k : Kind) (records : List Reel),
    (c = .clearList n .reels ∧ k = .clearList ∧ records = [] ∧ s.seq.automation = .off
        ∧ (∀ r ∈ s.reels.records, r.isBound = false)
      ∨ c = .repeatShow n .reels ∧ k = .repeatShow ∧ s.seq.automation = .off
        ∧ (∀ r ∈ s.reels.records, r.isBound = false)
        ∧ records = s.reels.records.map (fun r =>
            { r with
              cueTaken := false
              status :=
                if r.status = .shown ∨ r.status = .skipped ∨ r.status = .interrupted then .waiting else r.status })
      ∨ (∃ number r, c = .remove n .reels number ∧ k = .remove ∧ s.seq.automation = .off ∧ 1 ≤ number ∧ number ≤ 99
        ∧ findReel s.reels.records number = some r ∧ r.isBound = false
        ∧ records = s.reels.records.filter (fun y => decide (y.number ≠ number)))
      ∨ (∃ number r, c = .skipReel n .reels number ∧ k = .skipReel ∧ 1 ≤ number ∧ number ≤ 99
        ∧ findReel s.reels.records number = some r ∧ r.status = .waiting
        ∧ records =
            s.reels.records.map (fun y => if y.number = number then { y with status := .skipped } else y))
      ∨ (∃ number action point level ramp r, c = .reelCue n .reels number action point level ramp ∧ k = .reelCue
        ∧ 1 ≤ number ∧ number ≤ 99 ∧ findReel s.reels.records number = some r ∧ r.isBound = false
        ∧ (s.seq.automation ≠ .off → r.status = .waiting)
        ∧ (action = 1 ∧ point ≤ 2880 ∧ level ≤ 100 ∧ ramp ≤ 600 ∨ action = 2)
        ∧ records =
            s.reels.records.map (fun y =>
              if y.number = number then
                { y with
                  cue := if action = 1 then some { point := point, level := level, ramp := ramp } else none
                  cueTaken := false }
              else y))
      ∨ (∃ x p, c = .add n .reels x ∧ k = .add ∧ s.reels.records.length < 24 ∧ 1 ≤ x.reel ∧ x.reel ≤ 99
        ∧ (∀ r ∈ s.reels.records, r.number ≠ x.reel)
        ∧ (x.projector = 1 ∧ p = Side.a ∨ x.projector = 2 ∧ p = Side.b) ∧ 200 ≤ x.endFrame ∧ x.endFrame ≤ 131071
        ∧ x.leader ≤ 480 ∧ ¬(x.last = true ∧ x.intermission = true)
        ∧ records = s.reels.records ++
            [{ number := x.reel, projector := p, endFrame := x.endFrame, leader := x.leader, last := x.last
               intermission := x.intermission, cue := none, cueTaken := false, measuredEnd := none
               status := .waiting }])
      ∨ (∃ x p before front back r, c = .insert n .reels before x ∧ k = .insert ∧ s.seq.automation = .off
        ∧ s.reels.records.length < 24 ∧ 1 ≤ before ∧ before ≤ 99
        ∧ s.reels.records = front ++ r :: back ∧ r.number = before ∧ (∀ y ∈ front, y.number ≠ before)
        ∧ 1 ≤ x.reel ∧ x.reel ≤ 99 ∧ (∀ y ∈ s.reels.records, y.number ≠ x.reel)
        ∧ (x.projector = 1 ∧ p = Side.a ∨ x.projector = 2 ∧ p = Side.b) ∧ 200 ≤ x.endFrame ∧ x.endFrame ≤ 131071
        ∧ x.leader ≤ 480 ∧ ¬(x.last = true ∧ x.intermission = true)
        ∧ records = front ++
            { number := x.reel, projector := p, endFrame := x.endFrame, leader := x.leader, last := x.last
              intermission := x.intermission, cue := none, cueTaken := false, measuredEnd := none
              status := .waiting } :: r :: back)) →
      s.admits n k .reels = true →
        ((s.seq.automation = .off ∨ (formatCheck s.store.working records).1 = 0) →
          exec c s =
            .next ({ s with
              reels :=
                { records := records, code := (formatCheck s.store.working records).1
                  faultReel := (formatCheck s.store.working records).2 } }.answered n k .done
                (formatCheck s.store.working records).1))
          ∧ (s.seq.automation ≠ .off → (formatCheck s.store.working records).1 ≠ 0 →
              exec c s = .next (s.answered n k .refusedState (formatCheck s.store.working records).1)))
  ∧ ∀ (n : Station) (s : State) (c : Instr) (k : Kind) (st : Status) (d : Nat),
    ((∃ x, c = .add n .reels x ∧ k = .add
        ∧ (s.EntryFault x 1 d ∧ st = .refusedRange
          ∨ s.EntryGood x ∧ 24 ≤ s.reels.records.length ∧ st = .full ∧ d = 0))
      ∨ (∃ before x, c = .insert n .reels before x ∧ k = .insert
        ∧ (s.NamesNone before ∧ st = .refusedRange ∧ d = 1
          ∨ ∃ r, s.Names before r
            ∧ (s.EntryFault x 2 d ∧ st = .refusedRange
              ∨ s.EntryGood x ∧ s.seq.automation ≠ .off ∧ st = .refusedState ∧ d = 0
              ∨ s.EntryGood x ∧ s.seq.automation = .off ∧ 24 ≤ s.reels.records.length ∧ st = .full
                ∧ d = 0)))
      ∨ (∃ reel, (c = .remove n .reels reel ∧ k = .remove ∨ c = .skipReel n .reels reel ∧ k = .skipReel
          ∨ ∃ action point level ramp, c = .reelCue n .reels reel action point level ramp ∧ k = .reelCue)
        ∧ s.NamesNone reel ∧ st = .refusedRange ∧ d = 1)
      ∨ (∃ reel r, s.Names reel r ∧ st = .refusedState ∧ d = 0
        ∧ (c = .remove n .reels reel ∧ k = .remove ∧ (s.seq.automation ≠ .off ∨ r.isBound = true)
          ∨ c = .skipReel n .reels reel ∧ k = .skipReel ∧ r.status ≠ .waiting
          ∨ ∃ action point level ramp, c = .reelCue n .reels reel action point level ramp ∧ k = .reelCue
            ∧ (action = 1 ∧ point ≤ 2880 ∧ level ≤ 100 ∧ ramp ≤ 600 ∨ action = 2)
            ∧ (s.seq.automation ≠ .off ∧ r.status ≠ .waiting ∨ r.isBound = true)))
      ∨ (∃ reel r action point level ramp, s.Names reel r ∧ c = .reelCue n .reels reel action point level ramp
        ∧ k = .reelCue ∧ st = .refusedRange
        ∧ (action ≠ 1 ∧ action ≠ 2 ∧ d = 2
          ∨ action = 1 ∧ (2880 < point ∧ d = 3 ∨ point ≤ 2880 ∧ 100 < level ∧ d = 4
            ∨ point ≤ 2880 ∧ level ≤ 100 ∧ 600 < ramp ∧ d = 5)))
      ∨ (c = .clearList n .reels ∧ k = .clearList ∨ c = .repeatShow n .reels ∧ k = .repeatShow)
        ∧ (s.seq.automation ≠ .off ∨ ∃ r ∈ s.reels.records, r.isBound = true) ∧ st = .refusedState ∧ d = 0) →
      s.admits n k .reels = true → exec c s = .next (s.answered n k st d)

/-! ### Automation -/

/-- R71, R72, R83, R166: ENGAGE, DISENGAGE, RESUME and START_SHOW, each carried out exactly in the state its rule asks and
refused with REFUSED_STATE otherwise, ENGAGE with the format code where the code is what refuses it; where the fire state
refuses it as well the code is the model's choice (log entry 28). -/
def Obligations.AutomationRequestsMoveTheState : Prop :=
  ∀ (n : Station) (s : State),
    (s.admits n .engage .automation = true →
      (s.seq.automation = .off → s.reels.code = 0 → s.fireAllows = true →
        exec (.engage n .automation) s =
          .next ({ s with seq := { s.seq with automation := .engaged } }.answered n .engage .done 0))
        ∧ (s.seq.automation ≠ .off → exec (.engage n .automation) s = .next (s.answered n .engage .refusedState 0))
        ∧ (s.seq.automation = .off → (s.reels.code ≠ 0 ∨ s.fireAllows = false) →
            exec (.engage n .automation) s = .next (s.answered n .engage .refusedState s.reels.code)))
      ∧ (s.admits n .disengage .automation = true →
          (s.seq.automation ≠ .off →
            exec (.disengage n .automation) s =
              .next ({ s with
                proj :=
                  { a := { s.proj.a with startPending := false, startFade := false }
                    b := { s.proj.b with startPending := false, startFade := false } }
                seq := { s.seq with automation := .off, withholding := none } }.answered n .disengage .done 0))
            ∧ (s.seq.automation = .off →
                exec (.disengage n .automation) s = .next (s.answered n .disengage .refusedState 0)))
      ∧ (s.admits n .resume .automation = true →
          (s.seq.automation = .halted → s.fireAllows = true → s.proj.a.state ≠ .broken → s.proj.b.state ≠ .broken →
            exec (.resume n .automation) s =
              .next ({ s with seq := { s.seq with automation := .engaged } }.answered n .resume .done 0))
            ∧ ((s.seq.automation ≠ .halted ∨ s.fireAllows = false ∨ s.proj.a.state = .broken
                ∨ s.proj.b.state = .broken) →
                exec (.resume n .automation) s = .next (s.answered n .resume .refusedState 0)))
      ∧ (s.admits n .startShow .automation = true →
          (∀ r rest, remainingShow s.reels.records = r :: rest →
            s.seq.automation = .engaged → s.onScreen .a = false → s.onScreen .b = false → s.fireAllows = true →
            r.isBound = true → (s.proj.get r.projector).state = .threaded →
            (s.fire.get r.projector.port).state = .up →
              exec (.startShow n .automation) s =
                .next ((s.onProj r.projector fun x => { x with startPending := true }).answered n .startShow .done 0))
            ∧ ((remainingShow s.reels.records = [] ∨ s.seq.automation ≠ .engaged ∨ s.onScreen .a = true
                  ∨ s.onScreen .b = true ∨ s.fireAllows = false
                  ∨ ∃ r rest, remainingShow s.reels.records = r :: rest
                      ∧ (r.isBound = false ∨ (s.proj.get r.projector).state ≠ .threaded
                        ∨ (s.fire.get r.projector.port).state ≠ .up)) →
                exec (.startShow n .automation) s = .next (s.answered n .startShow .refusedState 0)))

/-! ### The console's control -/

/-- R27, R28, R163: CLEAR_CONDITIONS of one condition or of all clears accrued flag and detail of each that is not current;
LOCK_STATION locks a HOUSE or PROGRAMMER station; UNLOCK_STATION unlocks any; the refusals are those of the rules. -/
def Obligations.ConditionsAreClearedAndStationsLocked : Prop :=
  ∀ (n : Station) (s : State),
    (∀ v, s.admits n .clearConditions .noTarget = true →
      (∀ k, v = Condition.number k →
        (s.current k = true →
          exec (.clearConditions n .noTarget v) s = .next (s.answered n .clearConditions .refusedState 0))
          ∧ (s.current k = false →
              exec (.clearConditions n .noTarget v) s =
                .next ({ s with
                  cond := s.cond.set k.index { accrued := false, detail := Detail.empty } }.answered n .clearConditions
                    .done 0)))
        ∧ (v = 255 → ∃ t, exec (.clearConditions n .noTarget v) s = .next t
            ∧ (∀ k, t.record k =
                if s.current k then s.record k else { accrued := false, detail := Detail.empty })
            ∧ t = { s.answered n .clearConditions .done 0 with cond := t.cond })
        ∧ (v = 0 ∨ 16 ≤ v ∧ v ≠ 255 →
            exec (.clearConditions n .noTarget v) s = .next (s.answered n .clearConditions .refusedRange 1)))
      ∧ (s.admits n .lockStation .noTarget = true →
          (∀ m : Station,
            (s.line.stations[m].role = .house ∨ s.line.stations[m].role = .programmer →
              exec (.lockStation n .noTarget (m.val + 1)) s =
                .next ((s.onStation m fun x => { x with locked := true }).answered n .lockStation .done 0))
              ∧ (s.line.stations[m].role ≠ .house → s.line.stations[m].role ≠ .programmer →
                  exec (.lockStation n .noTarget (m.val + 1)) s =
                    .next (s.answered n .lockStation .refusedState 0)))
            ∧ ∀ v, v = 0 ∨ 7 ≤ v →
                exec (.lockStation n .noTarget v) s = .next (s.answered n .lockStation .refusedRange 1))
      ∧ (s.admits n .unlockStation .noTarget = true →
          (∀ m : Station,
            exec (.unlockStation n .noTarget (m.val + 1)) s =
              .next ((s.onStation m fun x => { x with locked := false }).answered n .unlockStation .done 0))
            ∧ ∀ v, v = 0 ∨ 7 ≤ v →
                exec (.unlockStation n .noTarget v) s = .next (s.answered n .unlockStation .refusedRange 1))

/-- R20, R59, R70, R103, R124, R138, R168, R177: GENERAL_RESET is refused during a save and with a projector ON_SCREEN;
otherwise each block takes its GENERAL_RESET values in one event: queues emptied with the reset's DONE alone in the reply
queue, projectors IDLE with RATE kept, lamps DARK with the rod items kept, the list empty with code 1, the house full up
in MANUAL, automation OFF, the fire unit and the retained store as they stand, the start channel reloaded, and every
condition cleared that is not then current. -/
def Obligations.GeneralResetReturnsTheBlocks : Prop :=
  ∀ (n : Station) (s : State), s.admits n .generalReset .noTarget = true →
    (s.store.save.isSome = true →
      exec (.generalReset n .noTarget) s = .next (s.answered n .generalReset .refusedBusy 0))
      ∧ (s.store.save = none → (s.onScreen .a = true ∨ s.onScreen .b = true) →
          exec (.generalReset n .noTarget) s = .next (s.answered n .generalReset .refusedState 0))
      ∧ (s.store.save = none → s.onScreen .a = false → s.onScreen .b = false →
          ∃ t, exec (.generalReset n .noTarget) s = .next t
            ∧ t.line.replies = [{ station := n, kind := 51, status := .done, data := 0 }]
            ∧ (∀ m : Station, t.line.stations[m] =
                { role := s.line.stations[m].role, locked := false, hold := false, overrun := false
                  badEntry := false, queue := [] })
            ∧ t.line.broken = s.line.broken ∧ t.line.lane = s.line.lane ∧ t.rotation = 5
            ∧ t.reels = { records := [], code := 1, faultReel := 0 }
            ∧ (∀ p : Side, t.proj.get p =
                { Projector.powerOn (s.proj.get p).filmLoss (s.proj.get p).gate with
                  rate := (s.proj.get p).rate, window := (s.proj.get p).window, pulses := (s.proj.get p).pulses })
            ∧ t.seq = Sequencer.reset
            ∧ (∀ l : Side, t.lamp.get l =
                { Lamp.powerOn with
                  stock := (s.lamp.get l).stock, fed := (s.lamp.get l).fed, carry := (s.lamp.get l).carry
                  rodValid := (s.lamp.get l).rodValid, rodOut := (s.lamp.get l).rodOut })
            ∧ t.lights =
                { house := { level := 1600, target := 1600, step := none, mode := .manual }
                  aisle := { level := 1600, target := 1600, step := none, mode := .manual } }
            ∧ t.fire = s.fire
            ∧ t.store = { s.store with working := s.store.channel s.store.startChannel }
            ∧ (∀ k, k ≠ .fire → k ≠ .fireAlert → k ≠ .lineFault →
                t.record k = { accrued := false, detail := Detail.empty })
            ∧ t.record .fire =
                (if s.fireAllows then { accrued := false, detail := Detail.empty } else s.record .fire)
            ∧ t.record .fireAlert =
                (if s.fire.state = .alert then s.record .fireAlert
                else { accrued := false, detail := Detail.empty })
            ∧ t.record .lineFault =
                (if s.line.broken then s.record .lineFault else { accrued := false, detail := Detail.empty })
            ∧ t.pending = s.pending)

/-- R85, R135: STOP_ALL stops every moving projector as STOP does, clears both projectors' timers and start-pending flags,
takes ENGAGED to HALTED, clears swap due as a projector leaves ON_SCREEN (R70), and sets the house channel at once to the
INTERMISSION level unless the fire state holds it; lamps, aisle and conditions stay. That the inch count is left is log
entry 10. -/
def Obligations.StopAllStopsTheBooth : Prop :=
  ∀ (n : Station) (s : State), s.admitsPriority n .stopAll .noTarget = true →
    ∃ t, exec (.stopAll n .noTarget) s = .next t
      ∧ (∀ p : Side, (s.proj.get p).state.moving = true →
          (t.proj.get p).state = .threaded ∧ (t.proj.get p).motorRunning = false
            ∧ (t.proj.get p).dowserOpen = false ∧ (t.proj.get p).windowOpen = false)
      ∧ (∀ p : Side, (s.proj.get p).state.moving = false →
          t.proj.get p =
            { s.proj.get p with startPending := false, startFade := false, inchTimer := none, runUpTimer := none })
      ∧ (∀ p : Side, (t.proj.get p).f = (s.proj.get p).f ∧ (t.proj.get p).marks = (s.proj.get p).marks
          ∧ (t.proj.get p).startPending = false ∧ (t.proj.get p).inchTimer = none
          ∧ (t.proj.get p).runUpTimer = none ∧ (t.proj.get p).inchCount = (s.proj.get p).inchCount)
      ∧ t.reels.records =
          s.reels.records.map (fun r =>
            if (s.proj.get r.projector).state.moving && r.isBound then { r with status := .bound } else r)
      ∧ t.seq.automation = (if s.seq.automation = .engaged then .halted else s.seq.automation)
      ∧ t.seq.swapDue = (s.seq.swapDue && !s.onScreen .a && !s.onScreen .b)
      ∧ t.seq.strikeTaken = s.seq.strikeTaken ∧ t.seq.motorTaken = s.seq.motorTaken
      ∧ t.seq.swapReached = s.seq.swapReached ∧ t.seq.countdown = s.seq.countdown ∧ s.WithholdingOnlyEnds t
      ∧ (∀ l : Side, t.seq.douse.get l =
          if (s.proj.get l).state = .runout then none else s.seq.douse.get l)
      ∧ t.lights.house =
          (if s.fireAllows then
            { s.lights.house with
              level := s.store.working.intermissionLevel * 16, target := s.store.working.intermissionLevel * 16
              step := none }
          else s.lights.house)
      ∧ t.lights.aisle = s.lights.aisle
      ∧ s.Replies t n .stopAll .done 0
      ∧ t.lamp = s.lamp ∧ t.fire = s.fire ∧ t.cond = s.cond ∧ t.store = s.store
      ∧ t.reels.code = s.reels.code

/-! ### Fire -/

/-- R145, R149: ALERT, FIRE_CLEAR and FIRE_ACK move the fire state as the table gives, ALERT in CLEAR raising FIRE_ALERT with
the station; every other case of the table is refused or changes nothing. -/
def Obligations.FirePanelMovesTheFireState : Prop :=
  ∀ (n : Station) (s : State),
    (s.admits n .alert .shutters = true →
      (s.fire.state = .clear →
        ∃ t, exec (.alert n .shutters) s = .next t ∧ t.fire = { s.fire with state := .alert }
          ∧ s.Raised t .fireAlert { unit := .station n, f := none, t := none }
          ∧ t.seq = { s.seq with automation := automationAfter s .fireAlert } ∧ t.current .fireAlert = true
          ∧ s.Replies t n .alert .done 0
          ∧ t.proj = s.proj ∧ t.lamp = s.lamp ∧ t.lights = s.lights ∧ t.reels = s.reels ∧ t.store = s.store)
        ∧ (s.fire.state = .alert → exec (.alert n .shutters) s = .next (s.answered n .alert .done 0))
        ∧ (s.fireAllows = false → exec (.alert n .shutters) s = .next (s.answered n .alert .refusedState 0)))
      ∧ (s.admits n .fireClear .shutters = true →
          (s.fire.state = .alert →
            exec (.fireClear n .shutters) s =
              .next ({ s with fire := { s.fire with state := .clear } }.answered n .fireClear .done 0))
            ∧ (s.fire.state = .dropped → s.fire.link = .intact →
                exec (.fireClear n .shutters) s =
                  .next ({ s with fire := { s.fire with state := .resetPending } }.answered n .fireClear .done 0))
            ∧ ((s.fire.state = .clear ∨ s.fire.state = .resetPending
                  ∨ (s.fire.state = .dropped ∧ s.fire.link = .opened)) →
                exec (.fireClear n .shutters) s = .next (s.answered n .fireClear .refusedState 0)))
      ∧ (s.admits n .fireAck .shutters = true →
          (s.fire.state = .resetPending →
            exec (.fireAck n .shutters) s =
              .next ({ s with fire := { s.fire with state := .clear } }.answered n .fireAck .done 0))
            ∧ (s.fire.state ≠ .resetPending →
                exec (.fireAck n .shutters) s = .next (s.answered n .fireAck .refusedState 0)))

/-- R146, R147: what the entry to DROPPED leaves, by a DROP from any other state and by the link sensed open: shutters
released, moving projectors at THREADED, timers and start-pending flags cleared, lamps DARK with their douse timers
cancelled, both channels full up, ENGAGED taken to HALTED and FIRE raised. In DROPPED neither changes anything more. The
fall timer of 31 periods is log entry 8. -/
def Obligations.EntryToDroppedForcesTheSafeState : Prop :=
  ∀ (n : Station) (s : State),
    (s.fire.state ≠ .dropped →
      ∀ (c : Instr) (u : DetailUnit) (link : FireLink),
        (c = .drop n .shutters ∧ s.admitsPriority n .drop .shutters = true ∧ u = .station n ∧ link = s.fire.link
            ∨ c = .fireLinkOpen ∧ u = .nothing ∧ link = .opened) →
          ∃ t, exec c s = .next t
            ∧ t.fire.state = .dropped ∧ t.fire.link = link ∧ t.fire.stations = s.fire.stations
            ∧ (∀ q : Port, t.fire.get q =
                if (s.fire.get q).state = .up ∨ (s.fire.get q).state = .raising then
                  { state := .falling, latchHolding := false, motorRunning := false, fallTimer := some 31
                    raiseTimer := none }
                else s.fire.get q)
            ∧ (∀ p : Side, (s.proj.get p).state.moving = true →
                (t.proj.get p).state = .threaded ∧ (t.proj.get p).motorRunning = false
                  ∧ (t.proj.get p).dowserOpen = false ∧ (t.proj.get p).windowOpen = false)
            ∧ (∀ p : Side, (s.proj.get p).state.moving = false →
                t.proj.get p =
                  { s.proj.get p with
                    startPending := false, startFade := false, inchTimer := none, runUpTimer := none
                    inchCount := 0 })
            ∧ (∀ p : Side, (t.proj.get p).f = (s.proj.get p).f ∧ (t.proj.get p).marks = (s.proj.get p).marks
                ∧ (t.proj.get p).startPending = false ∧ (t.proj.get p).inchTimer = none
                ∧ (t.proj.get p).runUpTimer = none ∧ (t.proj.get p).inchCount = 0)
            ∧ t.reels.records =
                s.reels.records.map (fun r =>
                  if (s.proj.get r.projector).state.moving && r.isBound then { r with status := .bound } else r)
            ∧ (∀ l : Side, (t.lamp.get l).state = .dark
                ∧ ((s.lamp.get l).state = .dark → t.lamp.get l = s.lamp.get l)
                ∧ ((s.lamp.get l).state ≠ .dark →
                    (t.lamp.get l).rectifierClosed = false ∧ (t.lamp.get l).iset = 0
                      ∧ (t.lamp.get l).strikerClosed = false ∧ (t.lamp.get l).mode ≠ .trim
                      ∧ (t.lamp.get l).attempt = (s.lamp.get l).attempt)
                ∧ (t.lamp.get l).stock = (s.lamp.get l).stock ∧ t.seq.douse.get l = none)
            ∧ (∀ ch : Channel, t.lights.get ch =
                { s.lights.get ch with level := 1600, target := 1600, step := none })
            ∧ t.seq.automation = (if s.seq.automation = .engaged then .halted else s.seq.automation)
            ∧ s.Raised t .fire { unit := u, f := none, t := none }
            ∧ t.store = s.store
            ∧ (c = .fireLinkOpen → s.LineKept t)
            ∧ (c = .drop n .shutters → s.Replies t n .drop .done 0))
      ∧ (s.fire.state = .dropped →
          (s.admitsPriority n .drop .shutters = true →
            exec (.drop n .shutters) s = .next (s.answered n .drop .done 0))
            ∧ exec .fireLinkOpen s = .next { s with fire := { s.fire with link := .opened } })

/-- R140 to R144, R148: RAISE winds a DOWN shutter in CLEAR with the link intact; its UP switch completes the raise; the
DOWN switch lands a FALLING or JAMMED one; a fall or a raise out of time jams the shutter and raises SHUTTER_JAM. A
boundary that finds the link intact takes DROPPED to RESET_PENDING in a house with no FIRE station. The row FIRE_LINK_INTACT
records a link that stood open as intact and changes nothing more, and is that boundary's judging of one recorded intact
already (log entry 19). At a boundary each timer is counted, or is out of time with one period or none left, as its row is
(log entry 4); the raise timer of 81 periods is log entry 8. -/
def Obligations.ShuttersRaiseFallAndJam : Prop :=
  ∀ (n : Station) (q : Port) (s : State),
    (s.admits n .raise .shutters = true →
      (s.fire.state = .clear → s.fire.link = .intact → (s.fire.get q).state = .down →
        exec (.raise n .shutters (portCode q)) s =
          .next ((s.onShutter q fun x =>
            { x with state := .raising, motorRunning := true, raiseTimer := some 81 }).answered n .raise .done 0))
        ∧ ((s.fire.state ≠ .clear ∨ s.fire.link ≠ .intact ∨ (s.fire.get q).state ≠ .down) →
            exec (.raise n .shutters (portCode q)) s = .next (s.answered n .raise .refusedState 0))
        ∧ ∀ v, v = 0 ∨ 5 ≤ v → exec (.raise n .shutters v) s = .next (s.answered n .raise .refusedRange 1))
      ∧ ((s.fire.get q).state = .raising →
          exec (.shutterUpSwitch q) s =
            .next (s.onShutter q fun x =>
              { x with state := .up, latchHolding := true, motorRunning := false, raiseTimer := none }))
      ∧ ((s.fire.get q).state ≠ .raising → exec (.shutterUpSwitch q) s = .next s)
      ∧ ((s.fire.get q).state = .falling →
          exec (.shutterDownSwitch q) s =
            .next (s.onShutter q fun x => { x with state := .down, fallTimer := none }))
      ∧ ((s.fire.get q).state = .jammed →
          exec (.shutterDownSwitch q) s = .next (s.onShutter q fun x => { x with state := .down }))
      ∧ ((s.fire.get q).state ≠ .falling → (s.fire.get q).state ≠ .jammed →
          exec (.shutterDownSwitch q) s = .next s)
      ∧ (∀ c : Instr,
          (c = .fallTimerExpiry q ∧ (s.fire.get q).state = .falling
              ∧ (∃ left, (s.fire.get q).fallTimer = some left ∧ left ≤ 1)
            ∨ c = .raiseTimerExpiry q ∧ (s.fire.get q).state = .raising
              ∧ (∃ left, (s.fire.get q).raiseTimer = some left ∧ left ≤ 1)) →
            ∃ t, exec c s = .next t
              ∧ t.fire =
                  s.fire.set q
                    { state := .jammed, latchHolding := false, motorRunning := false, fallTimer := none
                      raiseTimer := none }
              ∧ s.Raised t .shutterJam { unit := .port q, f := none, t := none }
              ∧ t.seq = { s.seq with automation := automationAfter s .shutterJam } ∧ s.LineKept t
              ∧ t.proj = s.proj ∧ t.lamp = s.lamp ∧ t.lights = s.lights ∧ t.reels = s.reels ∧ t.store = s.store)
      ∧ (s.fire.link = .opened →
          exec .fireLinkIntact s = .next { s with fire := { s.fire with link := .intact } })
      ∧ (s.fire.state = .dropped → s.fire.link = .intact → s.fire.stations = 0 →
          exec .fireLinkIntact s = .next { s with fire := { s.fire with state := .resetPending } })
      ∧ (s.fire.link = .intact → (s.fire.state ≠ .dropped ∨ s.fire.stations ≠ 0) →
          exec .fireLinkIntact s = .next s)
      ∧ ∀ r : Readings, ∃ t, exec (.linePeriodBoundary r) s = .next t
          ∧ t.fire.link = s.fire.link ∧ t.fire.stations = s.fire.stations
          ∧ t.fire.state =
              (if s.fire.state = .dropped ∧ s.fire.link = .intact ∧ s.fire.stations = 0 then .resetPending
              else s.fire.state)
          ∧ ∀ (x : Shutter) (left : Nat), x = s.fire.get q →
              ((x.state = .falling ∧ x.fallTimer = some left ∧ x.raiseTimer = none
                  ∨ x.state = .raising ∧ x.raiseTimer = some left ∧ x.fallTimer = none) →
                  (left ≤ 1 →
                    t.fire.get q =
                        { state := .jammed, latchHolding := false, motorRunning := false, fallTimer := none
                          raiseTimer := none }
                      ∧ (t.record .shutterJam).accrued = true)
                    ∧ (2 ≤ left →
                        t.fire.get q =
                          { x with
                            fallTimer := if x.state = .falling then some (left - 1) else none
                            raiseTimer := if x.state = .raising then some (left - 1) else none }))
                ∧ (x.fallTimer = none → x.raiseTimer = none → t.fire.get q = x)

/-- R144, R45: the latch of an UP shutter lets go: the shutter falls, SHUTTER_JAM is raised with the port, and an ON_SCREEN
projector behind it goes to RUNNING with its dowser closed and its record RUNNING. The fall timer of 31 periods is log
entry 8. -/
def Obligations.LatchLetGoDarkensItsProjector : Prop :=
  ∀ (q : Port) (s : State), (s.fire.get q).state = .up →
    ∃ t, exec (.shutterLatchLetGo q) s = .next t
      ∧ t.fire =
          s.fire.set q
            { state := .falling, latchHolding := false, motorRunning := false, fallTimer := some 31
              raiseTimer := none }
      ∧ s.Raised t .shutterJam { unit := .port q, f := none, t := none }
      ∧ t.seq.automation = automationAfter s .shutterJam
      ∧ (∀ p : Side, p.port = q → s.onScreen p = true →
          t.proj =
              s.proj.set p
                { s.proj.get p with state := .running, dowserOpen := false, windowOpen := false, stall := 0 }
            ∧ t.reels.records = boundBecome s.reels.records p .running ∧ t.seq.swapDue = false)
      ∧ ((∀ p : Side, p.port = q → s.onScreen p = false) → t.proj = s.proj ∧ t.reels = s.reels)
      ∧ s.LineKept t ∧ t.lamp = s.lamp ∧ t.lights = s.lights ∧ t.store = s.store

/-! ### Settings store -/

/-- R119, R128, R174, R175: LOAD_PRESET copies a channel into the working settings, with what that does to Iset and the
aisle, and makes it the start channel; SAVE_PRESET takes the
image, marks the save with its timer of 1.0 s (21 periods, log entry 8) and fails the store check; the save timer's expiry,
its row's with one period or none left (log entry 4) or the boundary's, writes the image, makes the channel the start
channel and the check good; with more left the row changes nothing and the boundary counts it. The refusals are those of
the rules. -/
def Obligations.PresetsAreLoadedAndSaved : Prop :=
  ∀ (n : Station) (k : Nat) (s : State),
    (s.admits n .loadPreset .presets = true →
      (4 ≤ k → exec (.loadPreset n .presets k) s = .next (s.answered n .loadPreset .refusedRange 1))
        ∧ (k ≤ 3 → s.store.save.isSome = true →
            exec (.loadPreset n .presets k) s = .next (s.answered n .loadPreset .refusedBusy 0))
        ∧ (k ≤ 3 → s.store.save = none →
            (s.onScreen .a = true ∨ s.onScreen .b = true ∨ s.seq.automation ≠ .off) →
            exec (.loadPreset n .presets k) s = .next (s.answered n .loadPreset .refusedState 0))
        ∧ (k ≤ 3 → s.store.save = none → s.onScreen .a = false → s.onScreen .b = false → s.seq.automation = .off →
            ∃ t, exec (.loadPreset n .presets k) s = .next t
              ∧ t.store =
                  { s.store with working := s.store.channel k, startChannel := k, checkGood := true }
              ∧ (t.reels.code, t.reels.faultReel) = formatCheck (s.store.channel k) s.reels.records
              ∧ t.reels.records = s.reels.records
              ∧ s.Replies t n .loadPreset .done t.reels.code
              ∧ (∀ l : Side, t.lamp.get l =
                  lampAfter (s.store.working.lamp.get l) ((s.store.channel k).lamp.get l) (s.lamp.get l))
              ∧ t.lights =
                  { s.lights with
                    aisle := aisleAfter s.store.working.aisleMin (s.store.channel k).aisleMin s.lights.aisle }
              ∧ t.proj = s.proj ∧ t.seq = s.seq ∧ t.fire = s.fire ∧ t.cond = s.cond))
      ∧ (s.admits n .savePreset .presets = true →
          ((k = 0 ∨ 4 ≤ k) → exec (.savePreset n .presets k) s = .next (s.answered n .savePreset .refusedRange 1))
            ∧ (1 ≤ k → k ≤ 3 → s.store.save.isSome = true →
                exec (.savePreset n .presets k) s = .next (s.answered n .savePreset .refusedBusy 0))
            ∧ (1 ≤ k → k ≤ 3 → s.store.save = none →
                exec (.savePreset n .presets k) s =
                  .next ({ s with
                    store :=
                      { s.store with
                        checkGood := false
                        save := some
                          { channel := k, image := s.store.working
                            timer := { periods := 21, phase := .fresh } } } }.answered n .savePreset .done 0)))
      ∧ (∀ j : SaveJob, s.store.save = some j → j.timer.periods ≤ 1 → 1 ≤ j.channel → j.channel ≤ 3 →
          exec .saveTimerExpiry s =
            .next
              { s with
                store :=
                  { s.store with
                    channel1 := if j.channel = 1 then j.image else s.store.channel1
                    channel2 := if j.channel = 2 then j.image else s.store.channel2
                    channel3 := if j.channel = 3 then j.image else s.store.channel3
                    startChannel := j.channel, checkGood := true, save := none } })
      ∧ ((∀ j ∈ s.store.save, 2 ≤ j.timer.periods) → exec .saveTimerExpiry s = .next s)
      ∧ ∀ r : Readings, ∃ t, exec (.linePeriodBoundary r) s = .next t
          ∧ t.store.startChannel =
              (match s.store.save with
              | none => s.store.startChannel
              | some j => if j.timer.periods ≤ 1 then j.channel else s.store.startChannel)
          ∧ t.store.save =
              (match s.store.save with
              | none => none
              | some j =>
                if j.timer.periods ≤ 1 then none
                else some { j with timer := { periods := j.timer.periods - 1, phase := j.timer.phase.passed } })
          ∧ t.store.checkGood = (s.store.checkGood || s.store.save.any fun j => decide (j.timer.periods ≤ 1))
          ∧ ∀ j ∈ s.store.save, j.timer.periods ≤ 1 → 1 ≤ j.channel → j.channel ≤ 3 →
              t.store.channel j.channel = j.image

/-! ### Events: the projectors -/

/-- R60, R62, R63, R45, R84: a pulse adds 1 to F up to 131,071 except in IDLE, counts for RATE, and takes a frame from an
inch, whose end at 0 stops the motor and returns the projector to THREADED; a run-up is done at RATE 44 or more, at a
boundary or at its timer's end; and an inch or a run-up that runs out of time stops the projector with START_FAIL raised,
the inch count left as it stands (log entry 10). A row's timer is out of time with one period or none left (log entry 4),
and INCH_DONE as a row ends an inch whose count is 0 already (log entry 20). At a boundary both timers are counted until
then, and the run-up's RATE is that of the boundary. -/
def Obligations.PulsesInchesAndRunUps : Prop :=
  ∀ (p : Side) (s : State) (x : Projector), x = s.proj.get p →
    (x.state = .idle → exec (.tachometerPulse p) s = .next (s.onProj p fun y => { y with pulses := y.pulses + 1 }))
      ∧ (x.state ≠ .idle → x.state ≠ .inching →
          exec (.tachometerPulse p) s =
            .next (s.onProj p fun y => { y with f := min (y.f + 1) 131071, pulses := y.pulses + 1 }))
      ∧ (x.state = .inching → 2 ≤ x.inchCount →
          exec (.tachometerPulse p) s =
            .next (s.onProj p fun y =>
              { y with f := min (y.f + 1) 131071, pulses := y.pulses + 1, inchCount := y.inchCount - 1 }))
      ∧ (x.state = .inching → x.inchCount ≤ 1 →
          exec (.tachometerPulse p) s =
            .next (s.onProj p fun y =>
              { y with
                f := min (y.f + 1) 131071, pulses := y.pulses + 1, inchCount := 0, state := .threaded
                motorRunning := false, inchTimer := none, lossCheck := false }))
      ∧ (x.state = .inching → x.inchCount = 0 →
          exec (.inchDone p) s =
            .next (s.onProj p fun y =>
              { y with state := .threaded, motorRunning := false, inchTimer := none, lossCheck := false }))
      ∧ ((x.state ≠ .inching ∨ x.inchCount ≠ 0) → exec (.inchDone p) s = .next s)
      ∧ (x.state = .starting → 44 ≤ x.rate →
          ∀ c, (c = .runUpDone p ∨ c = .runUpTimerExpiry p ∧ x.runUpTimer.Last) →
            exec c s =
              .next
                { s with
                  proj := s.proj.set p { x with state := .running, runUpTimer := none }
                  reels := { s.reels with records := boundBecome s.reels.records p .running } })
      ∧ (∀ c,
          (c = .inchTimerExpiry p ∧ x.state = .inching ∧ x.inchTimer.Last ∧ 1 ≤ x.inchCount
            ∨ c = .runUpTimerExpiry p ∧ x.state = .starting ∧ x.runUpTimer.Last ∧ x.rate < 44) →
            ∃ t, exec c s = .next t
              ∧ t.proj =
                  s.proj.set p
                    { x with
                      state := .threaded, motorRunning := false, dowserOpen := false, windowOpen := false, stall := 0
                      startPending := false, startFade := false, inchTimer := none, runUpTimer := none
                      lossCheck := false }
              ∧ t.reels = { s.reels with records := boundBecome s.reels.records p .bound }
              ∧ s.Raised t .startFail { unit := .projector p, f := some x.f, t := none }
              ∧ t.seq =
                  { s.seq with automation := automationAfter s .startFail, withholding := t.seq.withholding }
              ∧ s.WithholdingOnlyEnds t ∧ s.LineKept t
              ∧ t.lamp = s.lamp ∧ t.lights = s.lights ∧ t.fire = s.fire ∧ t.store = s.store)
      ∧ ((x.state ≠ .starting ∨ x.rate < 44) → exec (.runUpDone p) s = .next s)
      ∧ ((x.state ≠ .starting ∨ ¬x.runUpTimer.Last) → exec (.runUpTimerExpiry p) s = .next s)
      ∧ ((x.state ≠ .inching ∨ ¬x.inchTimer.Last ∨ x.inchCount = 0) → exec (.inchTimerExpiry p) s = .next s)
      ∧ ∀ r : Readings, s.NoStandingLoss → s.seq.automation ≠ .engaged →
          ∃ t, exec (.linePeriodBoundary r) s = .next t
            ∧ (∀ left, x.state = .inching → x.runUpTimer = none → x.inchTimer = some left →
                (2 ≤ left → (t.proj.get p).state = .inching ∧ (t.proj.get p).inchTimer = some (left - 1))
                  ∧ (left ≤ 1 → 1 ≤ x.inchCount →
                      (t.proj.get p).state = .threaded ∧ (t.proj.get p).motorRunning = false
                        ∧ (t.record .startFail).accrued = true))
            ∧ ∀ left, x.state = .starting → x.inchTimer = none → x.runUpTimer = some left →
                (44 ≤ (t.proj.get p).rate → (t.proj.get p).state = .running ∧ (t.proj.get p).runUpTimer = none)
                  ∧ ((t.proj.get p).rate < 44 → 2 ≤ left →
                      (t.proj.get p).state = .starting ∧ (t.proj.get p).runUpTimer = some (left - 1))
                  ∧ ((t.proj.get p).rate < 44 → left ≤ 1 →
                      (t.proj.get p).state = .threaded ∧ (t.proj.get p).motorRunning = false
                        ∧ (t.record .startFail).accrued = true)

/-- R69, R57, R76: a mark on a moving projector is stray when it is not ON_SCREEN, its window is closed or two marks are
counted, and raises STRAY_CUE with the projector and F; else the first is the motor cue, which while ENGAGED starts a
THREADED incoming projector once, and the second the changeover cue, which while OFF sets Em and while HALTED does
nothing more. The second mark while ENGAGED is in SwapPointTakesTheEnding. The run-up timer of 121 periods is log entry 8,
and that no reachable ENGAGED state forbids the start log entry 22. -/
def Obligations.CueMarksAreCounted : Prop :=
  ∀ (p : Side) (s : State) (x : Projector), x = s.proj.get p →
    (x.state.moving = false → exec (.cueMark p) s = .next s)
      ∧ (x.state.moving = true → (x.state ≠ .onScreen ∨ x.windowOpen = false ∨ 2 ≤ x.marks) →
          ∃ t, exec (.cueMark p) s = .next t
            ∧ s.Raised t .strayCue { unit := .projector p, f := some x.f, t := none }
            ∧ t = { s with cond := t.cond, seq := { s.seq with automation := automationAfter s .strayCue } })
      ∧ (x.state = .onScreen → x.windowOpen = true → x.marks = 0 →
          (s.seq.automation ≠ .engaged → exec (.cueMark p) s = .next (s.onProj p fun y => { y with marks := 1 }))
            ∧ (s.seq.automation = .engaged → ∀ o r, s.outgoing = some p → s.outgoingReel = some o →
                (s.incomingReel = some r → o.intermission = false → o.last = false → s.reelBound r = true →
                    (s.proj.get r.projector).state = .threaded → s.seq.motorTaken = false → s.fireAllows = true →
                    exec (.cueMark p) s =
                      .next
                        { ((s.onProj p fun y => { y with marks := 1 }).onProj r.projector Projector.started) with
                          seq := { s.seq with motorTaken := true } })
                  ∧ ((s.incomingReel = none ∨ o.intermission = true ∨ o.last = true ∨ s.seq.motorTaken = true
                        ∨ s.incomingReel = some r
                          ∧ (s.reelBound r = false ∨ (s.proj.get r.projector).state ≠ .threaded)) →
                      exec (.cueMark p) s = .next (s.onProj p fun y => { y with marks := 1 }))))
      ∧ (x.state = .onScreen → x.windowOpen = true → x.marks = 1 →
          (s.seq.automation = .halted → exec (.cueMark p) s = .next (s.onProj p fun y => { y with marks := 2 }))
            ∧ (s.seq.automation = .off →
                exec (.cueMark p) s =
                  .next
                    { (s.onProj p fun y => { y with marks := 2 }) with
                      reels :=
                        { s.reels with
                          records :=
                            s.reels.records.map fun r =>
                              if r.projector = p && r.isBound then { r with measuredEnd := some x.f } else r } }))

/-! ### Events: the changeover sequencer -/

/-- R77 to R82, R57: the swap point, reached by the countdown or by an accepted changeover cue, is taken once for an
outgoing record: the intermission ending, the last-reel ending, the swap when the incoming record is bound and its
projector ready, or else the missed changeover; and the late swap is taken while swap due is set. What SWAP_POINT and
LATE_SWAP take between boundaries is the test on the countdown record as it stands (log entry 4), and the douse timer it
starts has one period more (log entry 8). -/
def Obligations.SwapPointTakesTheEnding : Prop :=
  (∀ (c : Instr) (s x : State) (o : Side) (r : Reel),
    (c = .swapPoint ∧ s.seq.countdown.state = .ordered ∧ s.seq.countdown.t = some 0 ∧ s.seq.countdown.overrun = true
        ∧ x = s
      ∨ c = .cueMark o ∧ (s.proj.get o).windowOpen = true ∧ (s.proj.get o).marks = 1
        ∧ x =
            { (s.onProj o fun y => { y with marks := 2 }) with
              reels :=
                { s.reels with
                  records :=
                    s.reels.records.map fun y =>
                      if y.projector = o && y.isBound then { y with measuredEnd := some (s.proj.get o).f } else y } }) →
      s.seq.automation = .engaged → x.outgoing = some o → x.outgoingReel = some r →
        (x.seq.swapReached = true → exec c s = .next x)
          ∧ (x.seq.swapReached = false →
              ∃ t, exec c s = .next t ∧ x.LineKept t ∧ t.fire = x.fire ∧ t.store = x.store
                ∧ t.lights.aisle = x.lights.aisle
                ∧ (∀ level ramp endState,
                    (r.intermission = true ∧ level = x.store.working.intermissionLevel
                        ∧ ramp = x.store.working.showRamp ∧ endState = Automation.engaged
                      ∨ r.intermission = false ∧ r.last = true ∧ level = 100 ∧ ramp = x.store.working.endRamp
                        ∧ endState = Automation.off) →
                      t.reels = x.reels ∧ t.cond = x.cond
                        ∧ t.lights.house =
                            (if x.lights.house.mode = .auto ∧ x.fireAllows = true then
                              x.lights.house.rampTo (level * 16) ramp
                            else x.lights.house)
                        ∧ t.lamp = x.lampsAfter o
                        ∧ t.seq =
                            { x.seq with
                              automation := endState, swapReached := true, swapDue := false
                              withholding := t.seq.withholding, douse := x.douseAfter o }
                        ∧ x.WithholdingOnlyEnds t
                        ∧ t.proj.get o =
                            (if x.dousesNow o = true ∨ endState = .off then
                              ((x.proj.get o).hidden .runout).notStarting
                            else (x.proj.get o).hidden .runout)
                        ∧ t.proj.get o.other =
                            (if endState = .off then (x.proj.get o.other).notStarting else x.proj.get o.other))
                ∧ (r.intermission = false → r.last = false →
                    (∀ y, x.incomingReel = some y → x.reelBound y = true → x.ready y.projector = true →
                        x.Swapped t y.projector o ∧ t.cond = x.cond ∧ t.lights = x.lights)
                      ∧ ((∀ y, x.incomingReel = some y → x.reelBound y = false ∨ x.ready y.projector = false) →
                          x.Raised t .missedChangeover
                              { unit := .projector o, f := some (x.proj.get o).f, t := x.tOfDetail }
                            ∧ t.seq =
                                { x.seq with
                                  swapReached := true, swapDue := x.seq.swapDue || x.incomingReel.isSome
                                  automation := automationAfter x .missedChangeover }
                            ∧ t.proj = x.proj ∧ t.reels = x.reels ∧ t.lamp = x.lamp ∧ t.lights = x.lights))))
    ∧ (∀ s : State,
        (s.seq.automation ≠ .engaged ∨ s.seq.countdown.state ≠ .ordered ∨ s.seq.countdown.t ≠ some 0
          ∨ s.seq.countdown.overrun = false ∨ s.outgoing = none) →
          exec .swapPoint s = .next s)
    ∧ ∀ (s : State),
        (∀ o y, s.seq.automation = .engaged → s.seq.swapDue = true → s.outgoing = some o → s.incomingReel = some y →
            s.reelBound y = true → s.ready y.projector = true →
            ∃ t, exec .lateSwap s = .next t ∧ s.Swapped t y.projector o ∧ s.LineKept t ∧ t.cond = s.cond
              ∧ t.lights = s.lights ∧ t.fire = s.fire ∧ t.store = s.store)
          ∧ ((s.seq.automation ≠ .engaged ∨ s.seq.swapDue = false ∨ s.incomingReel = none
                ∨ ∃ y, s.incomingReel = some y ∧ (s.reelBound y = false ∨ s.ready y.projector = false)) →
              exec .lateSwap s = .next s)

/-- R74, R75, R84, R101, R102, R106: the strike test, its countdown ordered and within S_LEAD, and the show start's first
step strike a DARK lamp whose rod stock meets the rod need, in CLEAR or ALERT; a shorter rod makes a withholding with
ROD_SHORT raised, or leaves the one that stands. One withholding takes another's place, and the F of the detail is the
outgoing projector's for the test and the pending one's for the show start (log entry 10); the rows act on the countdown
record as it stands (log entry 4); the settling timer of 41 periods is log entry 8, and a picture length with E below P is
taken as 0 (log entry 29). -/
def Obligations.AutomaticStrikesAreAskedOrWithheld : Prop :=
  ∀ (c : Instr) (s : State) (l : Side) (r : Reel) (w : Withholding) (d : Detail) (taken : Bool) (need : Nat),
    ((∃ p o lead, c = .strikeTest ∧ s.outgoing = some p ∧ s.outgoingReel = some o ∧ o.intermission = false
        ∧ o.last = false ∧ s.incomingReel = some r ∧ s.reelBound r = true
        ∧ s.seq.strikeTaken = false ∧ s.seq.countdown.state = .ordered ∧ s.seq.countdown.t = some lead
        ∧ lead ≤ s.store.working.sLead ∧ taken = true
        ∧ w = { lamp := l, reel := r.number, outgoing := some p }
        ∧ d = { unit := .lamp l, f := some (s.proj.get p).f, t := some lead })
      ∨ c = .showStartStrike l ∧ s.boundReel l = some r ∧ (s.proj.get l).startPending = true
        ∧ taken = s.seq.strikeTaken
        ∧ w = { lamp := l, reel := r.number, outgoing := none }
        ∧ d = { unit := .lamp l, f := some (s.proj.get l).f, t := s.tOfDetail }) →
      s.seq.automation = .engaged → (s.lamp.get l).state = .dark → r.projector = l →
      need =
        min
          (((r.endFrame - r.leader)
                * (((s.store.working.lamp.get l).inom * (s.store.working.lamp.get l).burn + 15) / 16) + 23) / 24
            + (s.store.working.lamp.get l).reserve * 1000) 999999 →
        (need ≤ (s.lamp.get l).stock → s.fireAllows = true →
          ∃ t, exec c s = .next t
            ∧ t.lamp =
                s.lamp.set l
                  { s.lamp.get l with
                    state := .settling, rectifierClosed := true, iset := (s.store.working.lamp.get l).inom
                    attempt := 0, settlingTimer := some 41 }
            ∧ t.seq = { s.seq with strikeTaken := taken, withholding := t.seq.withholding }
            ∧ s.WithholdingOnlyEnds t ∧ (∀ v, t.seq.withholding = some v → v.lamp ≠ l)
            ∧ s.LineKept t ∧ t.reels = s.reels ∧ t.proj = s.proj ∧ t.lights = s.lights ∧ t.fire = s.fire
            ∧ t.cond = s.cond ∧ t.store = s.store)
          ∧ ((s.lamp.get l).stock < need → s.seq.withholding = some w → exec c s = .next s)
          ∧ ((s.lamp.get l).stock < need → s.seq.withholding ≠ some w →
              ∃ t, exec c s = .next t ∧ s.Raised t .rodShort d ∧ t.current .rodShort = true
                ∧ t =
                    { s with
                      cond := t.cond
                      seq := { s.seq with withholding := some w, automation := automationAfter s .rodShort } })

/-- R73, R74, R76, R79, R97, R100: the motor test starts the THREADED incoming projector once, when the ordered countdown is
within P × 10 / 24 rounded up plus RUNUP; a lead test whose other conditions hold on an unordered countdown raises
UNORDERED once in the spell; and a test whose conditions fail, or whose countdown is above its lead, does nothing. At a
boundary the four tests are made in order on the evaluation of that boundary, each seeing what the one before has changed:
a missed changeover that halts leaves strike and motor unmade, and one that does not is followed by both; a withheld
strike that halts leaves the motor unmade; and a late swap is taken as soon as the incoming projector is ready. The rows
are the tests on the record as it stands (log entry 4), a boundary's own order is log entry 6, and the timers are those of
log entry 8. -/
def Obligations.LeadTestsFollowTheCountdown : Prop :=
  (∀ (s : State) (p : Side) (o r : Reel), s.seq.automation = .engaged → s.outgoing = some p →
    s.outgoingReel = some o → s.incomingReel = some r →
      (o.intermission = false → o.last = false → s.reelBound r = true →
        (∀ lead, (s.proj.get r.projector).state = .threaded → s.seq.motorTaken = false →
            s.seq.countdown.state = .ordered → s.seq.countdown.t = some lead →
            (lead ≤ (r.leader * 10 + 23) / 24 + s.store.working.runUp → s.fireAllows = true →
              exec .motorTest s =
                .next
                  { (s.onProj r.projector Projector.started) with seq := { s.seq with motorTaken := true } })
              ∧ ((r.leader * 10 + 23) / 24 + s.store.working.runUp < lead → exec .motorTest s = .next s))
          ∧ (∀ c,
              (c = .strikeTest ∧ (s.lamp.get r.projector).state = .dark ∧ s.seq.strikeTaken = false
                ∨ c = .motorTest ∧ (s.proj.get r.projector).state = .threaded ∧ s.seq.motorTaken = false) →
              s.seq.countdown.state = .unordered →
                (s.seq.countdown.raised = true → exec c s = .next s)
                  ∧ (s.seq.countdown.raised = false →
                      ∃ t, exec c s = .next t
                        ∧ s.Raised t .unordered { unit := .projector p, f := some (s.proj.get p).f, t := none }
                        ∧ t =
                            { s with
                              cond := t.cond
                              seq :=
                                { s.seq with
                                  countdown := { s.seq.countdown with raised := true }
                                  automation := automationAfter s .unordered } })))
        ∧ ((o.intermission = true ∨ o.last = true ∨ s.reelBound r = false) →
            exec .strikeTest s = .next s ∧ exec .motorTest s = .next s)
        ∧ (((s.lamp.get r.projector).state ≠ .dark ∨ s.seq.strikeTaken = true
              ∨ ∃ lead, s.seq.countdown.state = .ordered ∧ s.seq.countdown.t = some lead
                  ∧ s.store.working.sLead < lead) →
            exec .strikeTest s = .next s)
        ∧ (((s.proj.get r.projector).state ≠ .threaded ∨ s.seq.motorTaken = true) → exec .motorTest s = .next s))
    ∧ ∀ (readings : Readings) (s : State) (p : Side) (o i : Reel), s.Quiet readings p → s.seq.automation = .engaged →
        s.outgoingReel = some o → s.incomingReel = some i → o.intermission = false → o.last = false →
        s.reelBound i = true → i.projector = p.other →
        o.measuredEnd.getD o.endFrame ≤ (s.proj.get p).f →
        s.store.working.stall ≤ (s.proj.get p).rateCounted.rate →
          ∃ t, exec (.linePeriodBoundary readings) s = .next t
            ∧ (∀ missed withheld : Bool, s.seq.strikeTaken = false → s.seq.motorTaken = false → s.seq.swapDue = false →
                s.seq.withholding = none →
                (s.lamp.get p.other).state = .dark → (s.proj.get p.other).state = .threaded →
                missed = !s.seq.swapReached → withheld = !s.rodSuffices i →
                  (missed = true → (t.record .missedChangeover).accrued = true ∧ t.seq.swapDue = true
                      ∧ t.seq.swapReached = true)
                    ∧ ((missed = true ∧ s.store.working.halts[2] = 1) →
                        t.seq.automation = .halted ∧ t.seq.strikeTaken = false ∧ t.seq.motorTaken = false
                          ∧ t.seq.withholding = none ∧ (t.lamp.get p.other).state = .dark
                          ∧ (t.proj.get p.other).state = .threaded)
                    ∧ (¬(missed = true ∧ s.store.working.halts[2] = 1) → withheld = true →
                        (t.record .rodShort).accrued = true ∧ t.current .rodShort = true ∧ t.seq.strikeTaken = false
                          ∧ (t.lamp.get p.other).state = .dark
                          ∧ (s.store.working.halts[7] = 1 →
                              t.seq.automation = .halted ∧ t.seq.motorTaken = false
                                ∧ (t.proj.get p.other).state = .threaded)
                          ∧ (s.store.working.halts[7] ≠ 1 →
                              t.seq.automation = .engaged ∧ t.seq.motorTaken = true
                                ∧ (t.proj.get p.other).state = .starting
                                ∧ (t.proj.get p.other).runUpTimer = some 120))
                    ∧ (¬(missed = true ∧ s.store.working.halts[2] = 1) → withheld = false →
                        t.seq.automation = .engaged ∧ t.seq.strikeTaken = true ∧ t.seq.motorTaken = true
                          ∧ (t.lamp.get p.other).state = .settling ∧ (t.lamp.get p.other).settlingTimer = some 40
                          ∧ (t.proj.get p.other).state = .starting
                          ∧ (t.proj.get p.other).runUpTimer = some 120))
            ∧ (s.ready p.other = true → (s.seq.swapReached = false ∨ s.seq.swapDue = true) →
                t.onScreen p.other = true ∧ (t.proj.get p).state = .runout ∧ t.seq.automation = .engaged
                  ∧ t.seq.strikeTaken = false ∧ t.seq.motorTaken = false ∧ t.seq.swapReached = false
                  ∧ t.seq.swapDue = false ∧ (t.record .missedChangeover) = s.record .missedChangeover)

/-- R84, R132, R82, R131: the show start's second and third steps, the reel house cue and the douse, each when its
conditions hold and not otherwise. The fade is the ramp of R126 on the house channel, in AUTO with the fire state CLEAR
or ALERT; the douse is not taken while HALTED. A row is its step on the state as it stands, a timer's with one period or
none left (log entry 4); a start's run-up timer is log entry 8; and where the fire state forbids the start the fade flag
is set all the same (log entry 22). At a boundary the house cue of the record evaluated is judged, and a douse timer is
counted, or is out of time. -/
def Obligations.ShowStartHouseCueAndDouse : Prop :=
  ∀ (p : Side) (s : State),
    ((s.seq.automation = .engaged ∧ (s.proj.get p).startPending = true) →
      ((s.lamp.get p).state = .lit → (s.proj.get p).startFade = false →
        ∃ t, exec (.showStartFadeAndMotor p) s = .next t
          ∧ t.proj =
              s.proj.set p
                (if ((s.proj.get p).state = .threaded ∨ (s.proj.get p).state = .inching) ∧ s.fireAllows = true then
                  { (s.proj.get p).started with startFade := true }
                else { s.proj.get p with startFade := true })
          ∧ t.lights.house =
              (if s.lights.house.mode = .auto ∧ s.fireAllows = true then
                s.lights.house.rampTo (s.store.working.showLevel * 16) s.store.working.showRamp
              else s.lights.house)
          ∧ t = { s with proj := t.proj, lights := { s.lights with house := t.lights.house } })
        ∧ (∀ r, s.boundReel p = some r → r.leader ≤ (s.proj.get p).f → (s.proj.get p).state = .running →
            s.screenAllowed p = true → s.onScreen p.other = false →
            ∃ t, exec (.showStartOpen p) s = .next t ∧ s.Opened t p ∧ s.LineKept t)
        ∧ (((s.lamp.get p).state ≠ .lit ∨ (s.proj.get p).startFade = true) →
            exec (.showStartFadeAndMotor p) s = .next s)
        ∧ ((s.lamp.get p).state ≠ .dark → exec (.showStartStrike p) s = .next s)
        ∧ ((s.boundReel p = none ∨ (∃ r, s.boundReel p = some r ∧ (s.proj.get p).f < r.leader)
              ∨ (s.proj.get p).state ≠ .running ∨ s.screenAllowed p = false ∨ s.onScreen p.other = true) →
            exec (.showStartOpen p) s = .next s))
      ∧ ((s.seq.automation ≠ .engaged ∨ (s.proj.get p).startPending = false) →
          ∀ c, (c = .showStartStrike p ∨ c = .showStartFadeAndMotor p ∨ c = .showStartOpen p) → exec c s = .next s)
      ∧ (∀ r c n, s.outgoingReel = some r → r.cue = some c → s.seq.countdown.n = some n →
          (s.seq.automation = .engaged → r.cueTaken = false → n ≤ c.point →
            exec .houseCueReached s =
              .next
                { s with
                  reels :=
                    { s.reels with
                      records :=
                        s.reels.records.map fun y => if y.number = r.number then { y with cueTaken := true } else y }
                  lights :=
                    { s.lights with
                      house :=
                        if s.lights.house.mode = .auto ∧ s.fireAllows = true then
                          s.lights.house.rampTo (c.level * 16) c.ramp
                        else s.lights.house } })
            ∧ ((s.seq.automation ≠ .engaged ∨ r.cueTaken = true ∨ c.point < n) →
                exec .houseCueReached s = .next s))
      ∧ ((s.seq.douse.get p).Last →
          ((s.seq.automation = .halted ∨ (s.lamp.get p).state = .dark) →
            exec (.douseTimerExpiry p) s =
              .next { s with seq := { s.seq with douse := s.seq.douse.set p none } })
            ∧ (s.seq.automation ≠ .halted → (s.lamp.get p).state ≠ .dark →
                ∃ t, exec (.douseTimerExpiry p) s = .next t ∧ s.PutOut t p ∧ s.LineKept t))
      ∧ (¬(s.seq.douse.get p).Last → exec (.douseTimerExpiry p) s = .next s)
      ∧ ∀ r : Readings, ∃ t, exec (.linePeriodBoundary r) s = .next t
          ∧ (∀ e c n, s.Showing p → t.onScreen p = true → t.seq.automation = .engaged → s.boundReel p = some e →
              e.cue = some c → t.seq.countdown.n = some n →
                ∃ e', t.boundReel p = some e'
                  ∧ e' = { e with cueTaken := e.cueTaken || decide (n ≤ c.point) })
          ∧ ∀ y : TimeLeft, (s.proj.get p).state = .runout → s.NoStandingLoss → (s.lamp.get p).state = .lit →
              30 ≤ r.amperes.get p → s.seq.douse.get p = some y →
                (2 ≤ y.periods →
                  t.seq.douse.get p = some { periods := y.periods - 1, phase := y.phase.passed }
                    ∧ (t.lamp.get p).state = .lit)
                  ∧ (y.periods ≤ 1 → s.seq.automation ≠ .engaged →
                      t.seq.douse.get p = none
                        ∧ (t.lamp.get p).state = (if s.seq.automation = .halted then .lit else .dark))

/-! ### Events: the lamps -/

/-- R107 to R110: settling ends in attempt 1 and a wait in the next; an attempt whose reading is 30 A or more establishes
the arc and warms, with the warm timer, the feed interval clock and the current watch started; an attempt that runs out of
time below 30 A waits, and the third fails the strike: DARK with the attempt count kept, and STRIKE_FAIL raised; and
warming ends LIT. A row is due with one period or none left, and one that is not due changes nothing (log entry 4); how
many boundaries a timer and the feed clock then run from a row is log entries 8 and 24, and where the reading is written
log entry 9. At a boundary the lamp's timer is counted, or the step is taken with its timer begun at that boundary. -/
def Obligations.StrikeRunsItsCourse : Prop :=
  ∀ (l : Side) (s : State) (x : Lamp) (attempting : Prop), x = s.lamp.get l →
    (attempting ↔ x.state = .striking ∧ x.attemptTimer ≠ none) →
    (∀ c,
        (c = .settlingTimerExpiry l ∧ x.state = .settling ∧ x.settlingTimer.Last
          ∨ c = .waitTimerExpiry l ∧ x.state = .striking ∧ x.waitTimer.Last) →
          exec c s =
            .next (s.onLamp l fun y =>
              { y with
                state := .striking, attempt := y.attempt + 1, strikerClosed := true, settlingTimer := none
                waitTimer := none, attemptTimer := some 61 }))
      ∧ (∀ c i, attempting → 30 ≤ i →
          (c = .arcEstablished l i ∨ c = .attemptTimerExpiry l i ∧ x.attemptTimer.Last) →
            exec c s =
              .next (s.onLamp l fun y =>
                { y with
                  state := .warming, strikerClosed := false, amperes := i, lowCurrent := 0, attemptTimer := none
                  warmTimer := some { periods := (s.store.working.lamp.get l).warm * 2 + 1, phase := .fresh }
                  feedClock := some 11 }))
      ∧ (∀ i, attempting → x.attemptTimer.Last → i < 30 →
          (x.attempt < 3 →
            exec (.attemptTimerExpiry l i) s =
              .next (s.onLamp l fun y =>
                { y with amperes := i, strikerClosed := false, attemptTimer := none, waitTimer := some 41 }))
            ∧ (3 ≤ x.attempt →
                ∃ t, exec (.attemptTimerExpiry l i) s = .next t
                  ∧ t.lamp = s.lamp.set l { x.out with amperes := i, lowCurrent := x.lowCurrent }
                  ∧ s.Raised t .strikeFail
                      { unit := .lamp l, f := some (s.proj.get l).f, t := s.tOfDetail }
                  ∧ t.proj = s.proj.set l (s.proj.get l).notStarting
                  ∧ t.seq =
                      { s.seq with
                        douse := s.seq.douse.set l none, automation := automationAfter s .strikeFail
                        withholding := t.seq.withholding }
                  ∧ s.WithholdingOnlyEnds t ∧ s.LineKept t
                  ∧ t.reels = s.reels ∧ t.lights = s.lights ∧ t.fire = s.fire ∧ t.store = s.store))
      ∧ (x.state = .warming → x.warmTimer.Last →
          exec (.warmTimerExpiry l) s =
            .next (s.onLamp l fun y => { y with state := .lit, warmTimer := none, highClamp := 0, lowClamp := 0 }))
      ∧ (∀ c,
          (c = .settlingTimerExpiry l ∧ (x.state ≠ .settling ∨ ¬x.settlingTimer.Last)
            ∨ c = .waitTimerExpiry l ∧ (x.state ≠ .striking ∨ ¬x.waitTimer.Last)
            ∨ c = .warmTimerExpiry l ∧ (x.state ≠ .warming ∨ ¬x.warmTimer.Last)
            ∨ (∃ i, c = .arcEstablished l i ∧ (¬attempting ∨ i < 30))
            ∨ ∃ i, c = .attemptTimerExpiry l i ∧ (¬attempting ∨ ¬x.attemptTimer.Last)) →
            exec c s = .next s)
      ∧ ∀ r : Readings, s.seq.automation ≠ .engaged → s.seq.douse.get l = none →
          ∃ t, exec (.linePeriodBoundary r) s = .next t
            ∧ (∀ left, x.state = .settling → x.settlingTimer = some left →
                (2 ≤ left →
                  t.lamp.get l =
                    { x with settlingTimer := some (left - 1), feedClock := (t.lamp.get l).feedClock })
                  ∧ (left ≤ 1 → r.amperes.get l < 30 →
                      (t.lamp.get l).state = .striking ∧ (t.lamp.get l).attempt = x.attempt + 1
                        ∧ (t.lamp.get l).strikerClosed = true ∧ (t.lamp.get l).attemptTimer = some 60))
            ∧ (∀ left, x.state = .striking → x.waitTimer = none → x.attemptTimer = some left →
                (30 ≤ r.amperes.get l →
                    (t.lamp.get l).state = .warming ∧ (t.lamp.get l).strikerClosed = false
                      ∧ (t.lamp.get l).amperes = r.amperes.get l
                      ∧ (t.lamp.get l).warmTimer =
                          some { periods := (s.store.working.lamp.get l).warm * 2, phase := .whole })
                  ∧ (r.amperes.get l < 30 → 2 ≤ left →
                      (t.lamp.get l).state = .striking ∧ (t.lamp.get l).attemptTimer = some (left - 1))
                  ∧ (r.amperes.get l < 30 → left ≤ 1 → x.attempt < 3 →
                      (t.lamp.get l).state = .striking ∧ (t.lamp.get l).waitTimer = some 40)
                  ∧ (r.amperes.get l < 30 → left ≤ 1 → 3 ≤ x.attempt →
                      (t.lamp.get l).state = .dark ∧ (t.record .strikeFail).accrued = true))
            ∧ ∀ y : TimeLeft, x.state = .warming → x.warmTimer = some y → 30 ≤ r.amperes.get l →
                (2 ≤ y.periods →
                  (t.lamp.get l).state = .warming
                    ∧ (t.lamp.get l).warmTimer = some { periods := y.periods - 1, phase := y.phase.passed })
                  ∧ (y.periods ≤ 1 → (t.lamp.get l).state = .lit ∧ (t.lamp.get l).warmTimer = none)

/-- R111, R86, R78, R45, R84: at the tenth consecutive reading below 30 A in WARMING or LIT the arc is lost: the lamp is put
out, its start-pending flag and douse timer cleared, an ON_SCREEN projector of it passes the screen to the other one by the
emergency swap while ENGAGED and the other ready, and goes to RUNNING otherwise, and ARC_OUT is raised with the lamp, F
and T. As a row (log entry 4) an earlier reading, one of 30 A or more, and one in another state change nothing; at a
boundary an earlier low reading is counted and one of 30 A or more sets the count to 0. That the low-current count stands
at 10 after the loss is log entry 10, and where the reading is written log entry 9. -/
def Obligations.ArcLossDarkensOrSwaps : Prop :=
  ∀ (l : Side) (i : Nat) (s : State) (x : Lamp), x = s.lamp.get l →
    ((x.state = .warming ∨ x.state = .lit) → i < 30 → 9 ≤ x.lowCurrent →
      ∃ t, exec (.arcLoss l i) s = .next t
        ∧ t.lamp = s.lamp.set l { x.out with amperes := i, lowCurrent := 10 }
        ∧ s.Raised t .arcOut { unit := .lamp l, f := some (s.proj.get l).f, t := s.tOfDetail }
        ∧ t.seq.automation = automationAfter s .arcOut
        ∧ t.seq.douse = s.seq.douse.set l none ∧ t.seq.countdown = s.seq.countdown
        ∧ s.WithholdingOnlyEnds t ∧ s.LineKept t
        ∧ t.lights = s.lights ∧ t.fire = s.fire ∧ t.store = s.store
        ∧ (s.onScreen l = true → s.seq.automation = .engaged → s.ready l.other = true →
            t.proj.get l.other = (s.proj.get l.other).shown
              ∧ t.proj.get l = ((s.proj.get l).hidden .runout).notStarting
              ∧ t.reels = { s.reels with records := boundBecome s.reels.records l.other .showing }
              ∧ t.seq.strikeTaken = false ∧ t.seq.motorTaken = false ∧ t.seq.swapReached = false
              ∧ t.seq.swapDue = false)
        ∧ (s.onScreen l = true → (s.seq.automation ≠ .engaged ∨ s.ready l.other = false) →
            t.proj = s.proj.set l ((s.proj.get l).hidden .running).notStarting
              ∧ t.reels = { s.reels with records := boundBecome s.reels.records l .running }
              ∧ t.seq.strikeTaken = s.seq.strikeTaken ∧ t.seq.motorTaken = s.seq.motorTaken
              ∧ t.seq.swapReached = s.seq.swapReached ∧ t.seq.swapDue = false)
        ∧ (s.onScreen l = false →
            t.proj = s.proj.set l (s.proj.get l).notStarting ∧ t.reels = s.reels
              ∧ t.seq.strikeTaken = s.seq.strikeTaken ∧ t.seq.motorTaken = s.seq.motorTaken
              ∧ t.seq.swapReached = s.seq.swapReached ∧ t.seq.swapDue = s.seq.swapDue))
      ∧ ((x.state ≠ .warming ∧ x.state ≠ .lit ∨ 30 ≤ i ∨ x.lowCurrent < 9) → exec (.arcLoss l i) s = .next s)
      ∧ ∀ r : Readings, (x.state = .warming ∨ x.state = .lit) → r.amperes.get l = i → s.seq.douse.get l = none →
          s.seq.automation ≠ .engaged →
          (30 ≤ i ∨ x.lowCurrent < 9) →
            ∃ t, exec (.linePeriodBoundary r) s = .next t ∧ (t.lamp.get l).amperes = i
              ∧ (t.lamp.get l).lowCurrent = (if i < 30 then x.lowCurrent + 1 else 0)
              ∧ ((t.lamp.get l).state = .warming ∨ (t.lamp.get l).state = .lit)

/-- R113 to R121: a feed interval reads V and I, finds f (by the regulator, or in LIT under MANUAL by the manual rate no
higher than FMAX), counts the clamp in LIT under AUTO, counts a running trim, and advances the carbon by (f + h) div 2
from the rod, or runs the rod out; the next falls ten boundaries on from the one the row stands for (log entry 24). And
the rows of the clamp adjustments and of the ends of a trim, acting at a count one short of its end and else changing
nothing (log entry 4); the f that a TRIM_CONVERGED row sets is the base rate at the current last read, no higher than FMAX
(R120, log entry 21). -/
def Obligations.FeedIntervalDoesItsFiveSteps : Prop :=
  ∀ (l : Side) (s : State) (x : Lamp) (w : LampSettings), x = s.lamp.get l → w = s.store.working.lamp.get l →
    (∀ (v i f : Nat) (e raw : Int) (banded high low adjusts : Bool),
        (x.state = .warming ∨ x.state = .lit) → x.feedClock.Last →
        e = (v : Int) - w.vt → banded = decide (-(w.dead : Int) ≤ e ∧ e ≤ w.dead) →
        raw =
          (((i * w.burn + 15) / 16 : Nat) : Int) + (if banded then 0 else (((w.gain : Int) * e).tdiv 8)) →
        (if x.state = .lit ∧ x.mode = .manual then f = min w.manualRate w.fmax ∧ high = false ∧ low = false
          else (f : Int) = max 0 (min raw w.fmax) ∧ high = decide (w.fmax < raw) ∧ low = decide (raw < 0)) →
        adjusts = decide (x.state = .lit ∧ x.mode = .auto) →
          ∃ t y, exec (.feedInterval l v i) s = .next t ∧ t.lamp = s.lamp.set l y
            ∧ y.amperes = i ∧ y.volts = v ∧ y.highLimit = high ∧ y.lowLimit = low ∧ y.feedClock = some 11
            ∧ (x.rodOut = true → y.f = 0 ∧ y.stock = x.stock ∧ y.fed = x.fed ∧ y.carry = x.carry ∧ y.rodOut = true)
            ∧ (x.rodOut = false → (f + x.carry) / 2 ≤ x.stock →
                y.f = f ∧ y.stock = x.stock - (f + x.carry) / 2 ∧ y.fed = x.fed + (f + x.carry) / 2
                  ∧ y.carry = (f + x.carry) % 2 ∧ y.rodOut = false)
            ∧ (x.rodOut = false → x.stock < (f + x.carry) / 2 →
                y.f = 0 ∧ y.stock = 0 ∧ y.fed = x.fed + x.stock ∧ y.carry = 0 ∧ y.rodOut = true)
            ∧ (adjusts = true →
                y.highClamp = (if high then (if 9 ≤ x.highClamp then 0 else x.highClamp + 1) else 0)
                  ∧ y.lowClamp =
                      (if high then 0 else if low then (if 9 ≤ x.lowClamp then 0 else x.lowClamp + 1) else 0)
                  ∧ y.iset =
                      (if high then (if 9 ≤ x.highClamp ∧ w.imin < x.iset then x.iset - 1 else x.iset)
                      else if low then (if 9 ≤ x.lowClamp ∧ x.iset < w.inom then x.iset + 1 else x.iset)
                      else x.iset))
            ∧ (adjusts = false → y.highClamp = x.highClamp ∧ y.lowClamp = x.lowClamp ∧ y.iset = x.iset)
            ∧ y =
                { x with
                  f := y.f, amperes := i, volts := v, highLimit := high, lowLimit := low, iset := y.iset
                  highClamp := y.highClamp, lowClamp := y.lowClamp, mode := y.mode
                  trimIntervals := y.trimIntervals, trimConverge := y.trimConverge, stock := y.stock, fed := y.fed
                  carry := y.carry, rodOut := y.rodOut, feedClock := some 11 }
            ∧ s.LineKept t ∧ t.proj = s.proj ∧ t.reels = s.reels ∧ t.lights = s.lights ∧ t.fire = s.fire
            ∧ (¬(x.state = .lit ∧ x.mode = .trim) →
                y.mode = x.mode ∧ y.trimIntervals = x.trimIntervals ∧ y.trimConverge = x.trimConverge
                  ∧ t.store = s.store ∧ t.cond = s.cond ∧ t.seq = s.seq)
            ∧ (x.state = .lit → x.mode = .trim → banded = true → 9 ≤ x.trimConverge →
                y.mode = .manual ∧ y.trimIntervals = 0 ∧ y.trimConverge = 0
                  ∧ t.store =
                      { s.store with
                        working :=
                          { s.store.working with lamp := s.store.working.lamp.set l { w with manualRate := f } } }
                  ∧ t.cond = s.cond ∧ t.seq = s.seq)
            ∧ (x.state = .lit → x.mode = .trim → (banded = false ∨ x.trimConverge < 9) → 119 ≤ x.trimIntervals →
                y.mode = .manual ∧ y.trimIntervals = 0 ∧ y.trimConverge = 0 ∧ t.store = s.store
                  ∧ s.Raised t .trimFailed { unit := .lamp l, f := some (s.proj.get l).f, t := s.tOfDetail }
                  ∧ t.seq = { s.seq with automation := automationAfter s .trimFailed })
            ∧ (x.state = .lit → x.mode = .trim → (banded = false ∨ x.trimConverge < 9) → x.trimIntervals < 119 →
                y.mode = .trim ∧ y.trimIntervals = x.trimIntervals + 1
                  ∧ y.trimConverge = (if banded then x.trimConverge + 1 else 0)
                  ∧ t.store = s.store ∧ t.cond = s.cond ∧ t.seq = s.seq))
      ∧ ((x.state ≠ .warming ∧ x.state ≠ .lit ∨ ¬x.feedClock.Last) →
          ∀ v i, exec (.feedInterval l v i) s = .next s)
      ∧ (x.state = .lit → x.mode = .auto → x.highLimit = true → 9 ≤ x.highClamp →
          exec (.highClampAdjust l) s =
            .next (s.onLamp l fun y =>
              { y with iset := if w.imin < y.iset then y.iset - 1 else y.iset, highClamp := 0 }))
      ∧ (x.state = .lit → x.mode = .auto → x.lowLimit = true → 9 ≤ x.lowClamp →
          exec (.lowClampAdjust l) s =
            .next (s.onLamp l fun y =>
              { y with iset := if y.iset < w.inom then y.iset + 1 else y.iset, lowClamp := 0 }))
      ∧ (x.state = .lit → x.mode = .trim → 9 ≤ x.trimConverge →
          exec (.trimConverged l) s =
            .next
              { (s.onLamp l fun y => { y with mode := .manual, trimIntervals := 0, trimConverge := 0 }) with
                store :=
                  { s.store with
                    working :=
                      { s.store.working with
                        lamp :=
                          s.store.working.lamp.set l
                            { w with manualRate := min ((x.amperes * w.burn + 15) / 16) w.fmax } } } })
      ∧ (x.state = .lit → x.mode = .trim → 119 ≤ x.trimIntervals →
          ∃ t, exec (.trimFailed l) s = .next t
            ∧ t.lamp = s.lamp.set l { x with mode := .manual, trimIntervals := 0, trimConverge := 0 }
            ∧ s.Raised t .trimFailed { unit := .lamp l, f := some (s.proj.get l).f, t := s.tOfDetail }
            ∧ t =
                { s with
                  lamp := t.lamp, cond := t.cond
                  seq := { s.seq with automation := automationAfter s .trimFailed } })
      ∧ ∀ c,
          (c = .highClampAdjust l
              ∧ (x.state ≠ .lit ∨ x.mode ≠ .auto ∨ x.highLimit = false ∨ x.highClamp < 9)
            ∨ c = .lowClampAdjust l ∧ (x.state ≠ .lit ∨ x.mode ≠ .auto ∨ x.lowLimit = false ∨ x.lowClamp < 9)
            ∨ c = .trimConverged l ∧ (x.state ≠ .lit ∨ x.mode ≠ .trim ∨ x.trimConverge < 9)
            ∨ c = .trimFailed l ∧ (x.state ≠ .lit ∨ x.mode ≠ .trim ∨ x.trimIntervals < 119)) →
            exec c s = .next s

/-! ### Events: film protection -/

/-- R151 to R154, R134, R55, R72: the film-loss switch's opening is a tail-out in RUNOUT, and at or past the effective end
in the other moving states, and a film break before it; it is not acted on in the states in which no film is driven, and
neither is its closing. The gate thermal switch's opening and the tenth boundary with RATE below 8 trip the gate of an
ON_SCREEN projector. At a boundary a switch standing open since the entry to INCHING or STARTING is judged (log entry 16),
the stall count is counted, and a gate switch standing open or the tenth slow boundary trips. A STALL_TRIP row acts at a
count one short and else changes nothing (log entry 4); that any film break clears swap due and that a tail-out leaves the
inch count is log entry 10. -/
def Obligations.FilmProtectionActs : Prop :=
  ∀ (p : Side) (s : State) (x : Projector), x = s.proj.get p →
    exec (.filmLossSwitch p .closed) s = .next (s.onProj p fun y => { y with filmLoss := .closed })
      ∧ exec (.gateThermalOpen p .closed) s = .next (s.onProj p fun y => { y with gate := .closed })
      ∧ (x.state.moving = false →
          exec (.filmLossSwitch p .opened) s = .next (s.onProj p fun y => { y with filmLoss := .opened }))
      ∧ (x.state ≠ .onScreen →
          exec (.gateThermalOpen p .opened) s = .next (s.onProj p fun y => { y with gate := .opened }))
      ∧ (∀ records code reel,
          (x.state = .runout
            ∨ x.state.moving = true ∧ ∃ r, s.boundReel p = some r ∧ r.measuredEnd.getD r.endFrame ≤ x.f) →
          records = boundBecome s.reels.records p .shown →
          (code, reel) = formatCheck s.store.working records →
            ∃ t, exec (.filmLossSwitch p .opened) s = .next t
              ∧ t.proj.get p =
                  { x with
                    state := .stopped, motorRunning := false, dowserOpen := false, windowOpen := false, stall := 0
                    startPending := false, startFade := false, inchTimer := none, runUpTimer := none
                    filmLoss := .opened, lossCheck := false }
              ∧ t.proj.get p.other =
                  (if code ≠ 0 ∧ s.seq.automation ≠ .off then (s.proj.get p.other).notStarting
                  else s.proj.get p.other)
              ∧ t.reels = { records := records, code := code, faultReel := reel }
              ∧ t.seq =
                  { s.seq with
                    automation := if code ≠ 0 then .off else s.seq.automation
                    swapDue := s.seq.swapDue && !s.onScreen p, withholding := t.seq.withholding }
              ∧ s.WithholdingOnlyEnds t ∧ s.LineKept t
              ∧ t.lamp = s.lamp ∧ t.lights = s.lights ∧ t.fire = s.fire ∧ t.cond = s.cond ∧ t.store = s.store)
      ∧ (x.state.moving = true → x.state ≠ .runout →
          (∃ r, s.boundReel p = some r ∧ x.f < r.measuredEnd.getD r.endFrame) →
            ∃ t, exec (.filmLossSwitch p .opened) s = .next t
              ∧ t.proj =
                  s.proj.set p
                    { x with
                      state := .broken, motorRunning := false, dowserOpen := false, windowOpen := false, stall := 0
                      startPending := false, startFade := false, inchTimer := none, runUpTimer := none
                      inchCount := 0, filmLoss := .opened, lossCheck := false }
              ∧ t.reels = { s.reels with records := boundBecome s.reels.records p .interrupted }
              ∧ s.Raised t .filmBreak { unit := .projector p, f := some x.f, t := s.tOfDetail }
              ∧ t.current .filmBreak = true
              ∧ t.seq =
                  { s.seq with
                    automation := if s.seq.automation = .engaged then .halted else s.seq.automation
                    swapDue := false, withholding := t.seq.withholding }
              ∧ s.WithholdingOnlyEnds t ∧ s.LineKept t
              ∧ t.lights.house =
                  (if s.onScreen p.other = false ∧ s.fireAllows = true then
                    s.lights.house.rampTo (s.store.working.breakLevel * 16) 20
                  else s.lights.house)
              ∧ t.lights.aisle = s.lights.aisle
              ∧ t.lamp = s.lamp ∧ t.fire = s.fire ∧ t.store = s.store)
      ∧ (x.state = .onScreen → ∀ c gate,
          (c = .gateThermalOpen p .opened ∧ gate = .opened
            ∨ c = .stallTrip p ∧ x.rate < 8 ∧ 9 ≤ x.stall ∧ gate = x.gate) →
            ∃ t, exec c s = .next t
              ∧ t.proj = s.proj.set p { x.hidden .running with gate := gate }
              ∧ t.reels = { s.reels with records := boundBecome s.reels.records p .running }
              ∧ s.Raised t .gateTrip { unit := .projector p, f := some x.f, t := s.tOfDetail }
              ∧ t.seq =
                  { s.seq with
                    automation := automationAfter s .gateTrip, swapDue := false, withholding := t.seq.withholding }
              ∧ s.WithholdingOnlyEnds t ∧ s.LineKept t
              ∧ t.lamp = s.lamp ∧ t.lights = s.lights ∧ t.fire = s.fire ∧ t.store = s.store)
      ∧ ((x.state ≠ .onScreen ∨ 8 ≤ x.rate ∨ x.stall < 9) → exec (.stallTrip p) s = .next s)
      ∧ ∀ r : Readings, ∃ t, exec (.linePeriodBoundary r) s = .next t
          ∧ (s.seq.automation ≠ .engaged → (t.proj.get p).lossCheck = false)
          ∧ (∀ e, x.lossCheck = true → x.filmLoss = .opened → (x.state = .inching ∨ x.state = .starting) →
              s.boundReel p = some e →
                (x.f < e.measuredEnd.getD e.endFrame →
                  (t.proj.get p).state = .broken ∧ (t.proj.get p).motorRunning = false
                    ∧ (t.record .filmBreak).accrued = true ∧ t.current .filmBreak = true
                    ∧ t.seq.automation ≠ .engaged)
                  ∧ (e.measuredEnd.getD e.endFrame ≤ x.f →
                      (t.proj.get p).state = .stopped ∧ (t.proj.get p).motorRunning = false
                        ∧ t.boundReel p = none))
          ∧ (s.Showing p → x.lossCheck = false →
              ((x.gate = .opened ∨ (t.proj.get p).rate < 8 ∧ 9 ≤ x.stall) →
                (t.proj.get p).state = .running ∧ (t.proj.get p).dowserOpen = false ∧ (t.proj.get p).stall = 0
                  ∧ (t.proj.get p).windowOpen = false ∧ (t.record .gateTrip).accrued = true
                  ∧ t.seq.swapDue = false)
                ∧ (x.gate = .closed → t.onScreen p = true →
                    (8 ≤ (t.proj.get p).rate → (t.proj.get p).stall = 0)
                      ∧ ((t.proj.get p).rate < 8 → x.stall < 9 ∧ (t.proj.get p).stall = x.stall + 1)))

/-! ### Invariants -/

/-- Reset meets every invariant below. -/
def Obligations.ResetMeetsTheInvariants : Prop :=
  State.reset.ScreenSafe ∧ State.reset.FireSafe ∧ State.reset.RangesSafe ∧ State.reset.LineSafe
    ∧ State.reset.ListSafe ∧ State.reset.FormatSafe ∧ State.reset.RodSafe ∧ State.reset.WithholdingSafe

/-- R59, R66: every step keeps the screen safe: a dowser is open exactly while its projector is ON_SCREEN, a motor runs
exactly in the moving states, no projector is ON_SCREEN without its lamp LIT, its port shutter UP and the fire state CLEAR
or ALERT, and at most one projector is ON_SCREEN. -/
def Obligations.StepKeepsScreenSafe : Prop :=
  ∀ s t : State, s.ScreenSafe → step s = .next t → t.ScreenSafe

/-- R104, R147, R148: every step keeps the lamps' equipment agreeing with their states, and while the fire state is DROPPED
or RESET_PENDING keeps the booth held. The ranges are a premise because the panic's full level must not be lifted. -/
def Obligations.StepKeepsFireSafe : Prop :=
  ∀ s t : State, s.RangesSafe → s.FireSafe → step s = .next t → t.FireSafe

/-- R41, R60, R124, R128, R169, R172, R173: every step keeps each setting of each image within its range, both channels
between 0 and 1,600 in MANUAL or AUTO with the aisle at AISLE_MIN or above, each house cue's level a percentage, and each
projector's F, RATE, count window and marks within their ranges. -/
def Obligations.StepKeepsRangesSafe : Prop :=
  ∀ s t : State, s.RangesSafe → step s = .next t → t.RangesSafe

/-- R6, R7, R10, R11, R13, R14, R15, R27: every step keeps at most 8 entries in each queue, at most 16 answers, the hold
marks and bad-entry flags as the queues have them, the lane to good DROPs and STOP_ALLs, no entry queued for an ABSENT
station and its marks clear, and only HOUSE and PROGRAMMER stations locked. -/
def Obligations.StepKeepsLineSafe : Prop :=
  ∀ s t : State, s.LineSafe → step s = .next t → t.LineSafe

/-- R41, R42, R44, R45: every step keeps the list of at most 24 records with distinct numbers and fields in range, and each
projector with exactly the bound record, at exactly the status, that its state calls for. -/
def Obligations.StepKeepsListSafe : Prop :=
  ∀ s t : State, s.ListSafe → step s = .next t → t.ListSafe

/-- R54, R55, R56: every step keeps the format code and fault reel those of the list and the settings as they stand, and
automation OFF while the code is not 0. -/
def Obligations.StepKeepsFormatSafe : Prop :=
  ∀ s t : State, s.ListSafe → s.FormatSafe → step s = .next t → t.FormatSafe

/-- R75, R116, R117, R122: every step keeps the two rod accounts (stock and fed length together are a whole rod), and keeps
the sum of stock and fed length of each lamp unless it is POWER_ON, a NEW ROD for that lamp or the taking of an entry of
that kind; and, while the list agrees with the projectors, it lets a withholding stand only while what keeps it standing
does. -/
def Obligations.StepKeepsRodAndWithholdingSafe : Prop :=
  ∀ s t : State, step s = .next t →
    (s.RodSafe → t.RodSafe) ∧ (s.ListSafe → s.WithholdingSafe → t.WithholdingSafe)
      ∧ ∀ l : Side,
          (∀ c ∈ s.pending.head?,
            (∀ x, c ≠ .powerOn x) ∧ (∀ n length, c ≠ .newRod n (.arc l) length)
              ∧ (c = .takeEntry →
                  ∀ n e rest, s.nextStation = some n → s.line.stations[n].queue = e :: rest →
                    e.bad = true ∨ e.kind ≠ 18)
              ∧ (c = .takePriorityEntry → ∀ e rest, s.line.lane = e :: rest → e.bad = true ∨ e.kind ≠ 18)) →
            (t.lamp.get l).stock + (t.lamp.get l).fed = (s.lamp.get l).stock + (s.lamp.get l).fed
end

