-- ==== Sys2Proof/Laws/State.lean ====
section
/-! SUPPORT. One lemma for each field under each update of the state, and the laws of reading and writing one member of
a pair, a channel and a shutter. -/

namespace Sys2Proof

/-! ### Pairs -/

@[simp] theorem Side.other_other (p : Side) : p.other.other = p := by cases p <;> rfl

@[simp] theorem Side.other_ne (p : Side) : p.other ≠ p := by cases p <;> decide

@[simp] theorem Side.ne_other (p : Side) : p ≠ p.other := by cases p <;> decide

theorem Side.eq_other_of_ne {p q : Side} (h : p ≠ q) : p = q.other := by
  cases p <;> cases q <;> first | rfl | exact absurd rfl h

@[simp] theorem Both.get_mk_a {α : Type} (x y : α) : (Both.mk x y).get .a = x := rfl

@[simp] theorem Both.get_mk_b {α : Type} (x y : α) : (Both.mk x y).get .b = y := rfl

@[simp] theorem Both.get_set_same {α : Type} (x : Both α) (p : Side) (v : α) : (x.set p v).get p = v := by
  cases p <;> rfl

@[simp] theorem Both.get_set_other {α : Type} (x : Both α) (p : Side) (v : α) : (x.set p v).get p.other = x.get p.other := by
  cases p <;> rfl

theorem Both.get_set_ne {α : Type} (x : Both α) {p q : Side} (v : α) (h : p ≠ q) : (x.set p v).get q = x.get q := by
  cases p <;> cases q <;> first | rfl | exact absurd rfl h

theorem Both.get_set {α : Type} (x : Both α) (p q : Side) (v : α) :
    (x.set p v).get q = if p = q then v else x.get q := by
  cases p <;> cases q <;> rfl

@[simp] theorem Both.set_get {α : Type} (x : Both α) (p : Side) : x.set p (x.get p) = x := by cases p <;> rfl

@[simp] theorem Both.set_set {α : Type} (x : Both α) (p : Side) (v w : α) : (x.set p v).set p w = x.set p w := by
  cases p <;> rfl

theorem Both.ext_get {α : Type} {x y : Both α} (h : ∀ p, x.get p = y.get p) : x = y := by
  cases x; cases y; exact congrArg₂ Both.mk (h .a) (h .b)

end Sys2Proof

namespace Sys2Proof.Machine

open Sys2Proof

/-! ### Channels and shutters -/

theorem HouseUnit.get_set (u : HouseUnit) (c d : Channel) (x : Light) :
    (u.set c x).get d = if c = d then x else u.get d := by
  cases c <;> cases d <;> rfl

@[simp] theorem HouseUnit.get_set_same (u : HouseUnit) (c : Channel) (x : Light) : (u.set c x).get c = x := by
  cases c <;> rfl

@[simp] theorem HouseUnit.set_set (u : HouseUnit) (c : Channel) (x y : Light) : (u.set c x).set c y = u.set c y := by
  cases c <;> rfl

theorem FireUnit.get_set (u : FireUnit) (q r : Port) (x : Shutter) :
    (u.set q x).get r = if q = r then x else u.get r := by
  cases q <;> cases r <;> rfl

@[simp] theorem FireUnit.get_set_same (u : FireUnit) (q : Port) (x : Shutter) : (u.set q x).get q = x := by
  cases q <;> rfl

@[simp] theorem FireUnit.set_state (u : FireUnit) (q : Port) (x : Shutter) : (u.set q x).state = u.state := by
  cases q <;> rfl

@[simp] theorem FireUnit.set_link (u : FireUnit) (q : Port) (x : Shutter) : (u.set q x).link = u.link := by
  cases q <;> rfl

@[simp] theorem FireUnit.set_stations (u : FireUnit) (q : Port) (x : Shutter) : (u.set q x).stations = u.stations := by
  cases q <;> rfl

/-! ### Fields under updates -/

@[simp] theorem State.onLine_line (s : State) (g : LineUnit → LineUnit) : (s.onLine g).line = g s.line := rfl

@[simp] theorem State.onLine_rotation (s : State) (g : LineUnit → LineUnit) : (s.onLine g).rotation = s.rotation := rfl

@[simp] theorem State.onLine_reels (s : State) (g : LineUnit → LineUnit) : (s.onLine g).reels = s.reels := rfl

@[simp] theorem State.onLine_proj (s : State) (g : LineUnit → LineUnit) : (s.onLine g).proj = s.proj := rfl

@[simp] theorem State.onLine_seq (s : State) (g : LineUnit → LineUnit) : (s.onLine g).seq = s.seq := rfl

@[simp] theorem State.onLine_lamp (s : State) (g : LineUnit → LineUnit) : (s.onLine g).lamp = s.lamp := rfl

@[simp] theorem State.onLine_lights (s : State) (g : LineUnit → LineUnit) : (s.onLine g).lights = s.lights := rfl

@[simp] theorem State.onLine_fire (s : State) (g : LineUnit → LineUnit) : (s.onLine g).fire = s.fire := rfl

@[simp] theorem State.onLine_cond (s : State) (g : LineUnit → LineUnit) : (s.onLine g).cond = s.cond := rfl

@[simp] theorem State.onLine_store (s : State) (g : LineUnit → LineUnit) : (s.onLine g).store = s.store := rfl

@[simp] theorem State.onLine_pending (s : State) (g : LineUnit → LineUnit) : (s.onLine g).pending = s.pending := rfl

@[simp] theorem State.onStation_line (s : State) (n : Station) (g : StationRecord → StationRecord) :
    (s.onStation n g).line = { s.line with stations := s.line.stations.set n (g s.line.stations[n]) } := rfl

@[simp] theorem State.onStation_rotation (s : State) (n : Station) (g : StationRecord → StationRecord) :
    (s.onStation n g).rotation = s.rotation := rfl

@[simp] theorem State.onStation_reels (s : State) (n : Station) (g : StationRecord → StationRecord) :
    (s.onStation n g).reels = s.reels := rfl

@[simp] theorem State.onStation_proj (s : State) (n : Station) (g : StationRecord → StationRecord) :
    (s.onStation n g).proj = s.proj := rfl

@[simp] theorem State.onStation_seq (s : State) (n : Station) (g : StationRecord → StationRecord) :
    (s.onStation n g).seq = s.seq := rfl

@[simp] theorem State.onStation_lamp (s : State) (n : Station) (g : StationRecord → StationRecord) :
    (s.onStation n g).lamp = s.lamp := rfl

@[simp] theorem State.onStation_lights (s : State) (n : Station) (g : StationRecord → StationRecord) :
    (s.onStation n g).lights = s.lights := rfl

@[simp] theorem State.onStation_fire (s : State) (n : Station) (g : StationRecord → StationRecord) :
    (s.onStation n g).fire = s.fire := rfl

@[simp] theorem State.onStation_cond (s : State) (n : Station) (g : StationRecord → StationRecord) :
    (s.onStation n g).cond = s.cond := rfl

@[simp] theorem State.onStation_store (s : State) (n : Station) (g : StationRecord → StationRecord) :
    (s.onStation n g).store = s.store := rfl

@[simp] theorem State.onStation_pending (s : State) (n : Station) (g : StationRecord → StationRecord) :
    (s.onStation n g).pending = s.pending := rfl

@[simp] theorem State.onReels_line (s : State) (g : ReelList → ReelList) : (s.onReels g).line = s.line := rfl

@[simp] theorem State.onReels_rotation (s : State) (g : ReelList → ReelList) :
    (s.onReels g).rotation = s.rotation := rfl

@[simp] theorem State.onReels_reels (s : State) (g : ReelList → ReelList) : (s.onReels g).reels = g s.reels := rfl

@[simp] theorem State.onReels_proj (s : State) (g : ReelList → ReelList) : (s.onReels g).proj = s.proj := rfl

@[simp] theorem State.onReels_seq (s : State) (g : ReelList → ReelList) : (s.onReels g).seq = s.seq := rfl

@[simp] theorem State.onReels_lamp (s : State) (g : ReelList → ReelList) : (s.onReels g).lamp = s.lamp := rfl

@[simp] theorem State.onReels_lights (s : State) (g : ReelList → ReelList) : (s.onReels g).lights = s.lights := rfl

@[simp] theorem State.onReels_fire (s : State) (g : ReelList → ReelList) : (s.onReels g).fire = s.fire := rfl

@[simp] theorem State.onReels_cond (s : State) (g : ReelList → ReelList) : (s.onReels g).cond = s.cond := rfl

@[simp] theorem State.onReels_store (s : State) (g : ReelList → ReelList) : (s.onReels g).store = s.store := rfl

@[simp] theorem State.onReels_pending (s : State) (g : ReelList → ReelList) : (s.onReels g).pending = s.pending := rfl

@[simp] theorem State.onProj_line (s : State) (p : Side) (g : Projector → Projector) :
    (s.onProj p g).line = s.line := rfl

@[simp] theorem State.onProj_rotation (s : State) (p : Side) (g : Projector → Projector) :
    (s.onProj p g).rotation = s.rotation := rfl

@[simp] theorem State.onProj_reels (s : State) (p : Side) (g : Projector → Projector) :
    (s.onProj p g).reels = s.reels := rfl

@[simp] theorem State.onProj_proj (s : State) (p : Side) (g : Projector → Projector) :
    (s.onProj p g).proj = s.proj.set p (g (s.proj.get p)) := rfl

@[simp] theorem State.onProj_seq (s : State) (p : Side) (g : Projector → Projector) : (s.onProj p g).seq = s.seq := rfl

@[simp] theorem State.onProj_lamp (s : State) (p : Side) (g : Projector → Projector) :
    (s.onProj p g).lamp = s.lamp := rfl

@[simp] theorem State.onProj_lights (s : State) (p : Side) (g : Projector → Projector) :
    (s.onProj p g).lights = s.lights := rfl

@[simp] theorem State.onProj_fire (s : State) (p : Side) (g : Projector → Projector) :
    (s.onProj p g).fire = s.fire := rfl

@[simp] theorem State.onProj_cond (s : State) (p : Side) (g : Projector → Projector) :
    (s.onProj p g).cond = s.cond := rfl

@[simp] theorem State.onProj_store (s : State) (p : Side) (g : Projector → Projector) :
    (s.onProj p g).store = s.store := rfl

@[simp] theorem State.onProj_pending (s : State) (p : Side) (g : Projector → Projector) :
    (s.onProj p g).pending = s.pending := rfl

@[simp] theorem State.onSeq_line (s : State) (g : Sequencer → Sequencer) : (s.onSeq g).line = s.line := rfl

@[simp] theorem State.onSeq_rotation (s : State) (g : Sequencer → Sequencer) : (s.onSeq g).rotation = s.rotation := rfl

@[simp] theorem State.onSeq_reels (s : State) (g : Sequencer → Sequencer) : (s.onSeq g).reels = s.reels := rfl

@[simp] theorem State.onSeq_proj (s : State) (g : Sequencer → Sequencer) : (s.onSeq g).proj = s.proj := rfl

@[simp] theorem State.onSeq_seq (s : State) (g : Sequencer → Sequencer) : (s.onSeq g).seq = g s.seq := rfl

@[simp] theorem State.onSeq_lamp (s : State) (g : Sequencer → Sequencer) : (s.onSeq g).lamp = s.lamp := rfl

@[simp] theorem State.onSeq_lights (s : State) (g : Sequencer → Sequencer) : (s.onSeq g).lights = s.lights := rfl

@[simp] theorem State.onSeq_fire (s : State) (g : Sequencer → Sequencer) : (s.onSeq g).fire = s.fire := rfl

@[simp] theorem State.onSeq_cond (s : State) (g : Sequencer → Sequencer) : (s.onSeq g).cond = s.cond := rfl

@[simp] theorem State.onSeq_store (s : State) (g : Sequencer → Sequencer) : (s.onSeq g).store = s.store := rfl

@[simp] theorem State.onSeq_pending (s : State) (g : Sequencer → Sequencer) : (s.onSeq g).pending = s.pending := rfl

@[simp] theorem State.onLamp_line (s : State) (l : Side) (g : Lamp → Lamp) : (s.onLamp l g).line = s.line := rfl

@[simp] theorem State.onLamp_rotation (s : State) (l : Side) (g : Lamp → Lamp) :
    (s.onLamp l g).rotation = s.rotation := rfl

@[simp] theorem State.onLamp_reels (s : State) (l : Side) (g : Lamp → Lamp) : (s.onLamp l g).reels = s.reels := rfl

@[simp] theorem State.onLamp_proj (s : State) (l : Side) (g : Lamp → Lamp) : (s.onLamp l g).proj = s.proj := rfl

@[simp] theorem State.onLamp_seq (s : State) (l : Side) (g : Lamp → Lamp) : (s.onLamp l g).seq = s.seq := rfl

@[simp] theorem State.onLamp_lamp (s : State) (l : Side) (g : Lamp → Lamp) :
    (s.onLamp l g).lamp = s.lamp.set l (g (s.lamp.get l)) := rfl

@[simp] theorem State.onLamp_lights (s : State) (l : Side) (g : Lamp → Lamp) : (s.onLamp l g).lights = s.lights := rfl

@[simp] theorem State.onLamp_fire (s : State) (l : Side) (g : Lamp → Lamp) : (s.onLamp l g).fire = s.fire := rfl

@[simp] theorem State.onLamp_cond (s : State) (l : Side) (g : Lamp → Lamp) : (s.onLamp l g).cond = s.cond := rfl

@[simp] theorem State.onLamp_store (s : State) (l : Side) (g : Lamp → Lamp) : (s.onLamp l g).store = s.store := rfl

@[simp] theorem State.onLamp_pending (s : State) (l : Side) (g : Lamp → Lamp) :
    (s.onLamp l g).pending = s.pending := rfl

@[simp] theorem State.onLight_line (s : State) (c : Channel) (g : Light → Light) : (s.onLight c g).line = s.line := rfl

@[simp] theorem State.onLight_rotation (s : State) (c : Channel) (g : Light → Light) :
    (s.onLight c g).rotation = s.rotation := rfl

@[simp] theorem State.onLight_reels (s : State) (c : Channel) (g : Light → Light) :
    (s.onLight c g).reels = s.reels := rfl

@[simp] theorem State.onLight_proj (s : State) (c : Channel) (g : Light → Light) : (s.onLight c g).proj = s.proj := rfl

@[simp] theorem State.onLight_seq (s : State) (c : Channel) (g : Light → Light) : (s.onLight c g).seq = s.seq := rfl

@[simp] theorem State.onLight_lamp (s : State) (c : Channel) (g : Light → Light) : (s.onLight c g).lamp = s.lamp := rfl

@[simp] theorem State.onLight_lights (s : State) (c : Channel) (g : Light → Light) :
    (s.onLight c g).lights = s.lights.set c (g (s.lights.get c)) := rfl

@[simp] theorem State.onLight_fire (s : State) (c : Channel) (g : Light → Light) : (s.onLight c g).fire = s.fire := rfl

@[simp] theorem State.onLight_cond (s : State) (c : Channel) (g : Light → Light) : (s.onLight c g).cond = s.cond := rfl

@[simp] theorem State.onLight_store (s : State) (c : Channel) (g : Light → Light) :
    (s.onLight c g).store = s.store := rfl

@[simp] theorem State.onLight_pending (s : State) (c : Channel) (g : Light → Light) :
    (s.onLight c g).pending = s.pending := rfl

@[simp] theorem State.onFire_line (s : State) (g : FireUnit → FireUnit) : (s.onFire g).line = s.line := rfl

@[simp] theorem State.onFire_rotation (s : State) (g : FireUnit → FireUnit) : (s.onFire g).rotation = s.rotation := rfl

@[simp] theorem State.onFire_reels (s : State) (g : FireUnit → FireUnit) : (s.onFire g).reels = s.reels := rfl

@[simp] theorem State.onFire_proj (s : State) (g : FireUnit → FireUnit) : (s.onFire g).proj = s.proj := rfl

@[simp] theorem State.onFire_seq (s : State) (g : FireUnit → FireUnit) : (s.onFire g).seq = s.seq := rfl

@[simp] theorem State.onFire_lamp (s : State) (g : FireUnit → FireUnit) : (s.onFire g).lamp = s.lamp := rfl

@[simp] theorem State.onFire_lights (s : State) (g : FireUnit → FireUnit) : (s.onFire g).lights = s.lights := rfl

@[simp] theorem State.onFire_fire (s : State) (g : FireUnit → FireUnit) : (s.onFire g).fire = g s.fire := rfl

@[simp] theorem State.onFire_cond (s : State) (g : FireUnit → FireUnit) : (s.onFire g).cond = s.cond := rfl

@[simp] theorem State.onFire_store (s : State) (g : FireUnit → FireUnit) : (s.onFire g).store = s.store := rfl

@[simp] theorem State.onFire_pending (s : State) (g : FireUnit → FireUnit) : (s.onFire g).pending = s.pending := rfl

@[simp] theorem State.onShutter_line (s : State) (q : Port) (g : Shutter → Shutter) :
    (s.onShutter q g).line = s.line := rfl

@[simp] theorem State.onShutter_rotation (s : State) (q : Port) (g : Shutter → Shutter) :
    (s.onShutter q g).rotation = s.rotation := rfl

@[simp] theorem State.onShutter_reels (s : State) (q : Port) (g : Shutter → Shutter) :
    (s.onShutter q g).reels = s.reels := rfl

@[simp] theorem State.onShutter_proj (s : State) (q : Port) (g : Shutter → Shutter) :
    (s.onShutter q g).proj = s.proj := rfl

@[simp] theorem State.onShutter_seq (s : State) (q : Port) (g : Shutter → Shutter) :
    (s.onShutter q g).seq = s.seq := rfl

@[simp] theorem State.onShutter_lamp (s : State) (q : Port) (g : Shutter → Shutter) :
    (s.onShutter q g).lamp = s.lamp := rfl

@[simp] theorem State.onShutter_lights (s : State) (q : Port) (g : Shutter → Shutter) :
    (s.onShutter q g).lights = s.lights := rfl

@[simp] theorem State.onShutter_fire (s : State) (q : Port) (g : Shutter → Shutter) :
    (s.onShutter q g).fire = s.fire.set q (g (s.fire.get q)) := rfl

@[simp] theorem State.onShutter_cond (s : State) (q : Port) (g : Shutter → Shutter) :
    (s.onShutter q g).cond = s.cond := rfl

@[simp] theorem State.onShutter_store (s : State) (q : Port) (g : Shutter → Shutter) :
    (s.onShutter q g).store = s.store := rfl

@[simp] theorem State.onShutter_pending (s : State) (q : Port) (g : Shutter → Shutter) :
    (s.onShutter q g).pending = s.pending := rfl

@[simp] theorem State.onStore_line (s : State) (g : Store → Store) : (s.onStore g).line = s.line := rfl

@[simp] theorem State.onStore_rotation (s : State) (g : Store → Store) : (s.onStore g).rotation = s.rotation := rfl

@[simp] theorem State.onStore_reels (s : State) (g : Store → Store) : (s.onStore g).reels = s.reels := rfl

@[simp] theorem State.onStore_proj (s : State) (g : Store → Store) : (s.onStore g).proj = s.proj := rfl

@[simp] theorem State.onStore_seq (s : State) (g : Store → Store) : (s.onStore g).seq = s.seq := rfl

@[simp] theorem State.onStore_lamp (s : State) (g : Store → Store) : (s.onStore g).lamp = s.lamp := rfl

@[simp] theorem State.onStore_lights (s : State) (g : Store → Store) : (s.onStore g).lights = s.lights := rfl

@[simp] theorem State.onStore_fire (s : State) (g : Store → Store) : (s.onStore g).fire = s.fire := rfl

@[simp] theorem State.onStore_cond (s : State) (g : Store → Store) : (s.onStore g).cond = s.cond := rfl

@[simp] theorem State.onStore_store (s : State) (g : Store → Store) : (s.onStore g).store = g s.store := rfl

@[simp] theorem State.onStore_pending (s : State) (g : Store → Store) : (s.onStore g).pending = s.pending := rfl

@[simp] theorem State.withConditions_line (s : State) (v : Vector ConditionRecord 15) :
    (s.withConditions v).line = s.line := rfl

@[simp] theorem State.withConditions_rotation (s : State) (v : Vector ConditionRecord 15) :
    (s.withConditions v).rotation = s.rotation := rfl

@[simp] theorem State.withConditions_reels (s : State) (v : Vector ConditionRecord 15) :
    (s.withConditions v).reels = s.reels := rfl

@[simp] theorem State.withConditions_proj (s : State) (v : Vector ConditionRecord 15) :
    (s.withConditions v).proj = s.proj := rfl

@[simp] theorem State.withConditions_seq (s : State) (v : Vector ConditionRecord 15) :
    (s.withConditions v).seq = s.seq := rfl

@[simp] theorem State.withConditions_lamp (s : State) (v : Vector ConditionRecord 15) :
    (s.withConditions v).lamp = s.lamp := rfl

@[simp] theorem State.withConditions_lights (s : State) (v : Vector ConditionRecord 15) :
    (s.withConditions v).lights = s.lights := rfl

@[simp] theorem State.withConditions_fire (s : State) (v : Vector ConditionRecord 15) :
    (s.withConditions v).fire = s.fire := rfl

@[simp] theorem State.withConditions_cond (s : State) (v : Vector ConditionRecord 15) :
    (s.withConditions v).cond = v := rfl

@[simp] theorem State.withConditions_store (s : State) (v : Vector ConditionRecord 15) :
    (s.withConditions v).store = s.store := rfl

@[simp] theorem State.withConditions_pending (s : State) (v : Vector ConditionRecord 15) :
    (s.withConditions v).pending = s.pending := rfl

end Sys2Proof.Machine
end

