-- ==== Sys2Proof/Laws/Frames.lean ====
section
/-! SUPPORT. For each shared operation of the booth, what it leaves as it was. -/

namespace Sys2Proof.Machine

open Sys2Proof

@[simp] theorem raiseCondition_frame (k : Condition) (d : Detail) (s : State) :
    (raiseCondition k d s).line = s.line
      ∧ (raiseCondition k d s).rotation = s.rotation
      ∧ (raiseCondition k d s).reels = s.reels
      ∧ (raiseCondition k d s).proj = s.proj
      ∧ (raiseCondition k d s).lamp = s.lamp
      ∧ (raiseCondition k d s).lights = s.lights
      ∧ (raiseCondition k d s).fire = s.fire
      ∧ (raiseCondition k d s).store = s.store
      ∧ (raiseCondition k d s).pending = s.pending
      ∧ (raiseCondition k d s).seq.withholding = s.seq.withholding
      ∧ (raiseCondition k d s).seq.strikeTaken = s.seq.strikeTaken
      ∧ (raiseCondition k d s).seq.motorTaken = s.seq.motorTaken
      ∧ (raiseCondition k d s).seq.swapReached = s.seq.swapReached
      ∧ (raiseCondition k d s).seq.swapDue = s.seq.swapDue
      ∧ (raiseCondition k d s).seq.douse = s.seq.douse
      ∧ (raiseCondition k d s).seq.countdown = s.seq.countdown := by
  unfold raiseCondition; split <;> simp

@[simp] theorem settleWithholding_frame (s : State) :
    (settleWithholding s).line = s.line
      ∧ (settleWithholding s).rotation = s.rotation
      ∧ (settleWithholding s).reels = s.reels
      ∧ (settleWithholding s).proj = s.proj
      ∧ (settleWithholding s).lamp = s.lamp
      ∧ (settleWithholding s).lights = s.lights
      ∧ (settleWithholding s).fire = s.fire
      ∧ (settleWithholding s).cond = s.cond
      ∧ (settleWithholding s).store = s.store
      ∧ (settleWithholding s).pending = s.pending
      ∧ (settleWithholding s).seq.automation = s.seq.automation
      ∧ (settleWithholding s).seq.strikeTaken = s.seq.strikeTaken
      ∧ (settleWithholding s).seq.motorTaken = s.seq.motorTaken
      ∧ (settleWithholding s).seq.swapReached = s.seq.swapReached
      ∧ (settleWithholding s).seq.swapDue = s.seq.swapDue
      ∧ (settleWithholding s).seq.douse = s.seq.douse
      ∧ (settleWithholding s).seq.countdown = s.seq.countdown := by
  unfold settleWithholding; (repeat' split) <;> simp

@[simp] theorem withholdStrike_frame (w : Withholding) (d : Detail) (s : State) :
    (withholdStrike w d s).line = s.line
      ∧ (withholdStrike w d s).rotation = s.rotation
      ∧ (withholdStrike w d s).reels = s.reels
      ∧ (withholdStrike w d s).proj = s.proj
      ∧ (withholdStrike w d s).lamp = s.lamp
      ∧ (withholdStrike w d s).lights = s.lights
      ∧ (withholdStrike w d s).fire = s.fire
      ∧ (withholdStrike w d s).store = s.store
      ∧ (withholdStrike w d s).pending = s.pending
      ∧ (withholdStrike w d s).seq.strikeTaken = s.seq.strikeTaken
      ∧ (withholdStrike w d s).seq.motorTaken = s.seq.motorTaken
      ∧ (withholdStrike w d s).seq.swapReached = s.seq.swapReached
      ∧ (withholdStrike w d s).seq.swapDue = s.seq.swapDue
      ∧ (withholdStrike w d s).seq.douse = s.seq.douse
      ∧ (withholdStrike w d s).seq.countdown = s.seq.countdown := by
  unfold withholdStrike; split <;> simp

@[simp] theorem clearStart_frame (p : Side) (s : State) :
    (clearStart p s).line = s.line
      ∧ (clearStart p s).rotation = s.rotation
      ∧ (clearStart p s).reels = s.reels
      ∧ (clearStart p s).lamp = s.lamp
      ∧ (clearStart p s).lights = s.lights
      ∧ (clearStart p s).fire = s.fire
      ∧ (clearStart p s).cond = s.cond
      ∧ (clearStart p s).store = s.store
      ∧ (clearStart p s).pending = s.pending
      ∧ (clearStart p s).seq.automation = s.seq.automation
      ∧ (clearStart p s).seq.strikeTaken = s.seq.strikeTaken
      ∧ (clearStart p s).seq.motorTaken = s.seq.motorTaken
      ∧ (clearStart p s).seq.swapReached = s.seq.swapReached
      ∧ (clearStart p s).seq.swapDue = s.seq.swapDue
      ∧ (clearStart p s).seq.douse = s.seq.douse
      ∧ (clearStart p s).seq.countdown = s.seq.countdown := by
  simp [clearStart]

@[simp] theorem automationOff_frame (s : State) :
    (automationOff s).line = s.line
      ∧ (automationOff s).rotation = s.rotation
      ∧ (automationOff s).reels = s.reels
      ∧ (automationOff s).lamp = s.lamp
      ∧ (automationOff s).lights = s.lights
      ∧ (automationOff s).fire = s.fire
      ∧ (automationOff s).cond = s.cond
      ∧ (automationOff s).store = s.store
      ∧ (automationOff s).pending = s.pending
      ∧ (automationOff s).seq.strikeTaken = s.seq.strikeTaken
      ∧ (automationOff s).seq.motorTaken = s.seq.motorTaken
      ∧ (automationOff s).seq.swapReached = s.seq.swapReached
      ∧ (automationOff s).seq.swapDue = s.seq.swapDue
      ∧ (automationOff s).seq.douse = s.seq.douse
      ∧ (automationOff s).seq.countdown = s.seq.countdown := by
  simp [automationOff]

@[simp] theorem setBoundStatus_frame (p : Side) (st : RecordStatus) (s : State) :
    (setBoundStatus p st s).line = s.line
      ∧ (setBoundStatus p st s).rotation = s.rotation
      ∧ (setBoundStatus p st s).proj = s.proj
      ∧ (setBoundStatus p st s).seq = s.seq
      ∧ (setBoundStatus p st s).lamp = s.lamp
      ∧ (setBoundStatus p st s).lights = s.lights
      ∧ (setBoundStatus p st s).fire = s.fire
      ∧ (setBoundStatus p st s).cond = s.cond
      ∧ (setBoundStatus p st s).store = s.store
      ∧ (setBoundStatus p st s).pending = s.pending
      ∧ (setBoundStatus p st s).reels.code = s.reels.code
      ∧ (setBoundStatus p st s).reels.faultReel = s.reels.faultReel := by
  simp [setBoundStatus]

@[simp] theorem evaluateFormat_frame (s : State) :
    (evaluateFormat s).line = s.line
      ∧ (evaluateFormat s).rotation = s.rotation
      ∧ (evaluateFormat s).proj = s.proj
      ∧ (evaluateFormat s).seq = s.seq
      ∧ (evaluateFormat s).lamp = s.lamp
      ∧ (evaluateFormat s).lights = s.lights
      ∧ (evaluateFormat s).fire = s.fire
      ∧ (evaluateFormat s).cond = s.cond
      ∧ (evaluateFormat s).store = s.store
      ∧ (evaluateFormat s).pending = s.pending
      ∧ (evaluateFormat s).reels.records = s.reels.records := by
  simp [evaluateFormat]

@[simp] theorem markShown_frame (p : Side) (s : State) :
    (markShown p s).line = s.line
      ∧ (markShown p s).rotation = s.rotation
      ∧ (markShown p s).lamp = s.lamp
      ∧ (markShown p s).lights = s.lights
      ∧ (markShown p s).fire = s.fire
      ∧ (markShown p s).cond = s.cond
      ∧ (markShown p s).store = s.store
      ∧ (markShown p s).pending = s.pending
      ∧ (markShown p s).seq.strikeTaken = s.seq.strikeTaken
      ∧ (markShown p s).seq.motorTaken = s.seq.motorTaken
      ∧ (markShown p s).seq.swapReached = s.seq.swapReached
      ∧ (markShown p s).seq.swapDue = s.seq.swapDue
      ∧ (markShown p s).seq.douse = s.seq.douse
      ∧ (markShown p s).seq.countdown = s.seq.countdown := by
  unfold markShown; dsimp only; split <;> simp

@[simp] theorem giveTarget_frame (c : Channel) (percent tenths : Nat) (s : State) :
    (giveTarget c percent tenths s).line = s.line
      ∧ (giveTarget c percent tenths s).rotation = s.rotation
      ∧ (giveTarget c percent tenths s).reels = s.reels
      ∧ (giveTarget c percent tenths s).proj = s.proj
      ∧ (giveTarget c percent tenths s).seq = s.seq
      ∧ (giveTarget c percent tenths s).lamp = s.lamp
      ∧ (giveTarget c percent tenths s).fire = s.fire
      ∧ (giveTarget c percent tenths s).cond = s.cond
      ∧ (giveTarget c percent tenths s).store = s.store
      ∧ (giveTarget c percent tenths s).pending = s.pending := by
  simp [giveTarget]

@[simp] theorem automaticFade_frame (percent tenths : Nat) (s : State) :
    (automaticFade percent tenths s).line = s.line
      ∧ (automaticFade percent tenths s).rotation = s.rotation
      ∧ (automaticFade percent tenths s).reels = s.reels
      ∧ (automaticFade percent tenths s).proj = s.proj
      ∧ (automaticFade percent tenths s).seq = s.seq
      ∧ (automaticFade percent tenths s).lamp = s.lamp
      ∧ (automaticFade percent tenths s).fire = s.fire
      ∧ (automaticFade percent tenths s).cond = s.cond
      ∧ (automaticFade percent tenths s).store = s.store
      ∧ (automaticFade percent tenths s).pending = s.pending
      ∧ (automaticFade percent tenths s).lights.aisle = s.lights.aisle := by
  unfold automaticFade giveTarget; split <;> simp [HouseUnit.set]

@[simp] theorem leaveScreen_frame (p : Side) (st : ProjectorState) (s : State) :
    (leaveScreen p st s).line = s.line
      ∧ (leaveScreen p st s).rotation = s.rotation
      ∧ (leaveScreen p st s).reels = s.reels
      ∧ (leaveScreen p st s).lamp = s.lamp
      ∧ (leaveScreen p st s).lights = s.lights
      ∧ (leaveScreen p st s).fire = s.fire
      ∧ (leaveScreen p st s).cond = s.cond
      ∧ (leaveScreen p st s).store = s.store
      ∧ (leaveScreen p st s).pending = s.pending
      ∧ (leaveScreen p st s).seq.automation = s.seq.automation
      ∧ (leaveScreen p st s).seq.strikeTaken = s.seq.strikeTaken
      ∧ (leaveScreen p st s).seq.motorTaken = s.seq.motorTaken
      ∧ (leaveScreen p st s).seq.swapReached = s.seq.swapReached
      ∧ (leaveScreen p st s).seq.douse = s.seq.douse
      ∧ (leaveScreen p st s).seq.countdown = s.seq.countdown := by
  simp [leaveScreen]

@[simp] theorem darkenScreen_frame (p : Side) (s : State) :
    (darkenScreen p s).line = s.line
      ∧ (darkenScreen p s).rotation = s.rotation
      ∧ (darkenScreen p s).lamp = s.lamp
      ∧ (darkenScreen p s).lights = s.lights
      ∧ (darkenScreen p s).fire = s.fire
      ∧ (darkenScreen p s).cond = s.cond
      ∧ (darkenScreen p s).store = s.store
      ∧ (darkenScreen p s).pending = s.pending
      ∧ (darkenScreen p s).seq.automation = s.seq.automation
      ∧ (darkenScreen p s).seq.strikeTaken = s.seq.strikeTaken
      ∧ (darkenScreen p s).seq.motorTaken = s.seq.motorTaken
      ∧ (darkenScreen p s).seq.swapReached = s.seq.swapReached
      ∧ (darkenScreen p s).seq.douse = s.seq.douse
      ∧ (darkenScreen p s).seq.countdown = s.seq.countdown
      ∧ (darkenScreen p s).reels.code = s.reels.code
      ∧ (darkenScreen p s).reels.faultReel = s.reels.faultReel := by
  simp [darkenScreen]

@[simp] theorem enterScreen_frame (p : Side) (s : State) :
    (enterScreen p s).line = s.line
      ∧ (enterScreen p s).rotation = s.rotation
      ∧ (enterScreen p s).lamp = s.lamp
      ∧ (enterScreen p s).lights = s.lights
      ∧ (enterScreen p s).fire = s.fire
      ∧ (enterScreen p s).cond = s.cond
      ∧ (enterScreen p s).store = s.store
      ∧ (enterScreen p s).pending = s.pending
      ∧ (enterScreen p s).seq.automation = s.seq.automation
      ∧ (enterScreen p s).seq.douse = s.seq.douse
      ∧ (enterScreen p s).seq.countdown = s.seq.countdown
      ∧ (enterScreen p s).reels.code = s.reels.code
      ∧ (enterScreen p s).reels.faultReel = s.reels.faultReel := by
  simp [enterScreen]

@[simp] theorem lampToDark_frame (l : Side) (g : Lamp → Lamp) (s : State) :
    (lampToDark l g s).line = s.line
      ∧ (lampToDark l g s).rotation = s.rotation
      ∧ (lampToDark l g s).reels = s.reels
      ∧ (lampToDark l g s).lights = s.lights
      ∧ (lampToDark l g s).fire = s.fire
      ∧ (lampToDark l g s).cond = s.cond
      ∧ (lampToDark l g s).store = s.store
      ∧ (lampToDark l g s).pending = s.pending
      ∧ (lampToDark l g s).seq.automation = s.seq.automation
      ∧ (lampToDark l g s).seq.strikeTaken = s.seq.strikeTaken
      ∧ (lampToDark l g s).seq.motorTaken = s.seq.motorTaken
      ∧ (lampToDark l g s).seq.swapReached = s.seq.swapReached
      ∧ (lampToDark l g s).seq.swapDue = s.seq.swapDue
      ∧ (lampToDark l g s).seq.countdown = s.seq.countdown := by
  simp [lampToDark]

@[simp] theorem extinguishLamp_frame (l : Side) (s : State) :
    (extinguishLamp l s).line = s.line
      ∧ (extinguishLamp l s).rotation = s.rotation
      ∧ (extinguishLamp l s).lights = s.lights
      ∧ (extinguishLamp l s).fire = s.fire
      ∧ (extinguishLamp l s).cond = s.cond
      ∧ (extinguishLamp l s).store = s.store
      ∧ (extinguishLamp l s).pending = s.pending
      ∧ (extinguishLamp l s).seq.automation = s.seq.automation
      ∧ (extinguishLamp l s).seq.countdown = s.seq.countdown
      ∧ (extinguishLamp l s).reels.code = s.reels.code
      ∧ (extinguishLamp l s).reels.faultReel = s.reels.faultReel
      ∧ (extinguishLamp l s).seq.strikeTaken = s.seq.strikeTaken
      ∧ (extinguishLamp l s).seq.motorTaken = s.seq.motorTaken
      ∧ (extinguishLamp l s).seq.swapReached = s.seq.swapReached := by
  unfold extinguishLamp; (repeat' split) <;> simp

@[simp] theorem startDouse_frame (l : Side) (m : Moment) (s : State) :
    (startDouse l m s).line = s.line
      ∧ (startDouse l m s).rotation = s.rotation
      ∧ (startDouse l m s).reels = s.reels
      ∧ (startDouse l m s).lights = s.lights
      ∧ (startDouse l m s).fire = s.fire
      ∧ (startDouse l m s).cond = s.cond
      ∧ (startDouse l m s).store = s.store
      ∧ (startDouse l m s).pending = s.pending
      ∧ (startDouse l m s).seq.automation = s.seq.automation
      ∧ (startDouse l m s).seq.strikeTaken = s.seq.strikeTaken
      ∧ (startDouse l m s).seq.motorTaken = s.seq.motorTaken
      ∧ (startDouse l m s).seq.swapReached = s.seq.swapReached
      ∧ (startDouse l m s).seq.swapDue = s.seq.swapDue
      ∧ (startDouse l m s).seq.countdown = s.seq.countdown := by
  unfold startDouse; (repeat' split) <;> simp

@[simp] theorem swapScreens_frame (i o : Side) (m : Moment) (s : State) :
    (swapScreens i o m s).line = s.line
      ∧ (swapScreens i o m s).rotation = s.rotation
      ∧ (swapScreens i o m s).lights = s.lights
      ∧ (swapScreens i o m s).fire = s.fire
      ∧ (swapScreens i o m s).cond = s.cond
      ∧ (swapScreens i o m s).store = s.store
      ∧ (swapScreens i o m s).pending = s.pending
      ∧ (swapScreens i o m s).seq.automation = s.seq.automation
      ∧ (swapScreens i o m s).seq.countdown = s.seq.countdown
      ∧ (swapScreens i o m s).reels.code = s.reels.code
      ∧ (swapScreens i o m s).reels.faultReel = s.reels.faultReel := by
  simp [swapScreens]

@[simp] theorem loseArc_frame (l : Side) (m : Moment) (s : State) :
    (loseArc l m s).line = s.line
      ∧ (loseArc l m s).rotation = s.rotation
      ∧ (loseArc l m s).lights = s.lights
      ∧ (loseArc l m s).fire = s.fire
      ∧ (loseArc l m s).store = s.store
      ∧ (loseArc l m s).pending = s.pending
      ∧ (loseArc l m s).seq.countdown = s.seq.countdown
      ∧ (loseArc l m s).reels.code = s.reels.code
      ∧ (loseArc l m s).reels.faultReel = s.reels.faultReel := by
  unfold loseArc; dsimp only; (repeat' split) <;> simp

@[simp] theorem beginStrike_frame (l : Side) (m : Moment) (s : State) :
    (beginStrike l m s).line = s.line
      ∧ (beginStrike l m s).rotation = s.rotation
      ∧ (beginStrike l m s).reels = s.reels
      ∧ (beginStrike l m s).proj = s.proj
      ∧ (beginStrike l m s).lights = s.lights
      ∧ (beginStrike l m s).fire = s.fire
      ∧ (beginStrike l m s).cond = s.cond
      ∧ (beginStrike l m s).store = s.store
      ∧ (beginStrike l m s).pending = s.pending
      ∧ (beginStrike l m s).seq.automation = s.seq.automation
      ∧ (beginStrike l m s).seq.strikeTaken = s.seq.strikeTaken
      ∧ (beginStrike l m s).seq.motorTaken = s.seq.motorTaken
      ∧ (beginStrike l m s).seq.swapReached = s.seq.swapReached
      ∧ (beginStrike l m s).seq.swapDue = s.seq.swapDue
      ∧ (beginStrike l m s).seq.douse = s.seq.douse
      ∧ (beginStrike l m s).seq.countdown = s.seq.countdown := by
  simp [beginStrike]

@[simp] theorem beginAttempt_frame (l : Side) (m : Moment) (s : State) :
    (beginAttempt l m s).line = s.line
      ∧ (beginAttempt l m s).rotation = s.rotation
      ∧ (beginAttempt l m s).reels = s.reels
      ∧ (beginAttempt l m s).proj = s.proj
      ∧ (beginAttempt l m s).seq = s.seq
      ∧ (beginAttempt l m s).lights = s.lights
      ∧ (beginAttempt l m s).fire = s.fire
      ∧ (beginAttempt l m s).cond = s.cond
      ∧ (beginAttempt l m s).store = s.store
      ∧ (beginAttempt l m s).pending = s.pending := by
  simp [beginAttempt]

@[simp] theorem establishArc_frame (l : Side) (amperes : Nat) (m : Moment) (s : State) :
    (establishArc l amperes m s).line = s.line
      ∧ (establishArc l amperes m s).rotation = s.rotation
      ∧ (establishArc l amperes m s).reels = s.reels
      ∧ (establishArc l amperes m s).proj = s.proj
      ∧ (establishArc l amperes m s).seq = s.seq
      ∧ (establishArc l amperes m s).lights = s.lights
      ∧ (establishArc l amperes m s).fire = s.fire
      ∧ (establishArc l amperes m s).cond = s.cond
      ∧ (establishArc l amperes m s).store = s.store
      ∧ (establishArc l amperes m s).pending = s.pending := by
  simp [establishArc]

@[simp] theorem failStrike_frame (l : Side) (s : State) :
    (failStrike l s).line = s.line
      ∧ (failStrike l s).rotation = s.rotation
      ∧ (failStrike l s).reels = s.reels
      ∧ (failStrike l s).lights = s.lights
      ∧ (failStrike l s).fire = s.fire
      ∧ (failStrike l s).store = s.store
      ∧ (failStrike l s).pending = s.pending
      ∧ (failStrike l s).seq.countdown = s.seq.countdown := by
  simp [failStrike]

@[simp] theorem failAttempt_frame (l : Side) (amperes : Nat) (m : Moment) (s : State) :
    (failAttempt l amperes m s).line = s.line
      ∧ (failAttempt l amperes m s).rotation = s.rotation
      ∧ (failAttempt l amperes m s).reels = s.reels
      ∧ (failAttempt l amperes m s).lights = s.lights
      ∧ (failAttempt l amperes m s).fire = s.fire
      ∧ (failAttempt l amperes m s).store = s.store
      ∧ (failAttempt l amperes m s).pending = s.pending
      ∧ (failAttempt l amperes m s).seq.countdown = s.seq.countdown := by
  unfold failAttempt; split <;> simp

@[simp] theorem becomeLit_frame (l : Side) (s : State) :
    (becomeLit l s).line = s.line
      ∧ (becomeLit l s).rotation = s.rotation
      ∧ (becomeLit l s).reels = s.reels
      ∧ (becomeLit l s).proj = s.proj
      ∧ (becomeLit l s).seq = s.seq
      ∧ (becomeLit l s).lights = s.lights
      ∧ (becomeLit l s).fire = s.fire
      ∧ (becomeLit l s).cond = s.cond
      ∧ (becomeLit l s).store = s.store
      ∧ (becomeLit l s).pending = s.pending := by
  simp [becomeLit]

@[simp] theorem stopProjector_frame (p : Side) (s : State) :
    (stopProjector p s).line = s.line
      ∧ (stopProjector p s).rotation = s.rotation
      ∧ (stopProjector p s).lamp = s.lamp
      ∧ (stopProjector p s).lights = s.lights
      ∧ (stopProjector p s).fire = s.fire
      ∧ (stopProjector p s).cond = s.cond
      ∧ (stopProjector p s).store = s.store
      ∧ (stopProjector p s).pending = s.pending
      ∧ (stopProjector p s).seq.automation = s.seq.automation
      ∧ (stopProjector p s).seq.countdown = s.seq.countdown
      ∧ (stopProjector p s).seq.strikeTaken = s.seq.strikeTaken
      ∧ (stopProjector p s).seq.motorTaken = s.seq.motorTaken
      ∧ (stopProjector p s).seq.swapReached = s.seq.swapReached
      ∧ (stopProjector p s).reels.code = s.reels.code
      ∧ (stopProjector p s).reels.faultReel = s.reels.faultReel := by
  simp [stopProjector]

@[simp] theorem failStart_frame (p : Side) (s : State) :
    (failStart p s).line = s.line
      ∧ (failStart p s).rotation = s.rotation
      ∧ (failStart p s).lamp = s.lamp
      ∧ (failStart p s).lights = s.lights
      ∧ (failStart p s).fire = s.fire
      ∧ (failStart p s).store = s.store
      ∧ (failStart p s).pending = s.pending
      ∧ (failStart p s).seq.countdown = s.seq.countdown
      ∧ (failStart p s).reels.code = s.reels.code
      ∧ (failStart p s).reels.faultReel = s.reels.faultReel := by
  simp [failStart]

@[simp] theorem finishInch_frame (p : Side) (s : State) :
    (finishInch p s).line = s.line
      ∧ (finishInch p s).rotation = s.rotation
      ∧ (finishInch p s).reels = s.reels
      ∧ (finishInch p s).seq = s.seq
      ∧ (finishInch p s).lamp = s.lamp
      ∧ (finishInch p s).lights = s.lights
      ∧ (finishInch p s).fire = s.fire
      ∧ (finishInch p s).cond = s.cond
      ∧ (finishInch p s).store = s.store
      ∧ (finishInch p s).pending = s.pending := by
  simp [finishInch]

@[simp] theorem startMotor_frame (p : Side) (m : Moment) (s : State) :
    (startMotor p m s).line = s.line
      ∧ (startMotor p m s).rotation = s.rotation
      ∧ (startMotor p m s).reels = s.reels
      ∧ (startMotor p m s).seq = s.seq
      ∧ (startMotor p m s).lamp = s.lamp
      ∧ (startMotor p m s).lights = s.lights
      ∧ (startMotor p m s).fire = s.fire
      ∧ (startMotor p m s).cond = s.cond
      ∧ (startMotor p m s).store = s.store
      ∧ (startMotor p m s).pending = s.pending := by
  simp [startMotor]

@[simp] theorem askStart_frame (p : Side) (m : Moment) (s : State) :
    (askStart p m s).line = s.line
      ∧ (askStart p m s).rotation = s.rotation
      ∧ (askStart p m s).reels = s.reels
      ∧ (askStart p m s).seq = s.seq
      ∧ (askStart p m s).lamp = s.lamp
      ∧ (askStart p m s).lights = s.lights
      ∧ (askStart p m s).fire = s.fire
      ∧ (askStart p m s).cond = s.cond
      ∧ (askStart p m s).store = s.store
      ∧ (askStart p m s).pending = s.pending := by
  unfold askStart; split <;> simp

@[simp] theorem reachSpeed_frame (p : Side) (s : State) :
    (reachSpeed p s).line = s.line
      ∧ (reachSpeed p s).rotation = s.rotation
      ∧ (reachSpeed p s).seq = s.seq
      ∧ (reachSpeed p s).lamp = s.lamp
      ∧ (reachSpeed p s).lights = s.lights
      ∧ (reachSpeed p s).fire = s.fire
      ∧ (reachSpeed p s).cond = s.cond
      ∧ (reachSpeed p s).store = s.store
      ∧ (reachSpeed p s).pending = s.pending
      ∧ (reachSpeed p s).reels.code = s.reels.code
      ∧ (reachSpeed p s).reels.faultReel = s.reels.faultReel := by
  simp [reachSpeed]

@[simp] theorem tailOut_frame (p : Side) (s : State) :
    (tailOut p s).line = s.line
      ∧ (tailOut p s).rotation = s.rotation
      ∧ (tailOut p s).lamp = s.lamp
      ∧ (tailOut p s).lights = s.lights
      ∧ (tailOut p s).fire = s.fire
      ∧ (tailOut p s).cond = s.cond
      ∧ (tailOut p s).store = s.store
      ∧ (tailOut p s).pending = s.pending
      ∧ (tailOut p s).seq.countdown = s.seq.countdown
      ∧ (tailOut p s).seq.douse = s.seq.douse := by
  unfold tailOut; split <;> simp

@[simp] theorem breakFilm_frame (p : Side) (s : State) :
    (breakFilm p s).line = s.line
      ∧ (breakFilm p s).rotation = s.rotation
      ∧ (breakFilm p s).lamp = s.lamp
      ∧ (breakFilm p s).fire = s.fire
      ∧ (breakFilm p s).store = s.store
      ∧ (breakFilm p s).pending = s.pending
      ∧ (breakFilm p s).seq.countdown = s.seq.countdown
      ∧ (breakFilm p s).seq.douse = s.seq.douse
      ∧ (breakFilm p s).reels.code = s.reels.code
      ∧ (breakFilm p s).reels.faultReel = s.reels.faultReel
      ∧ (breakFilm p s).lights.aisle = s.lights.aisle := by
  unfold breakFilm giveTarget; dsimp only; split <;> simp [HouseUnit.set]

@[simp] theorem judgeFilmLoss_frame (p : Side) (s : State) :
    (judgeFilmLoss p s).line = s.line
      ∧ (judgeFilmLoss p s).rotation = s.rotation
      ∧ (judgeFilmLoss p s).lamp = s.lamp
      ∧ (judgeFilmLoss p s).fire = s.fire
      ∧ (judgeFilmLoss p s).store = s.store
      ∧ (judgeFilmLoss p s).pending = s.pending
      ∧ (judgeFilmLoss p s).seq.countdown = s.seq.countdown
      ∧ (judgeFilmLoss p s).seq.douse = s.seq.douse
      ∧ (judgeFilmLoss p s).lights.aisle = s.lights.aisle := by
  unfold judgeFilmLoss; (repeat' split) <;> simp

@[simp] theorem gateTrip_frame (p : Side) (s : State) :
    (gateTrip p s).line = s.line
      ∧ (gateTrip p s).rotation = s.rotation
      ∧ (gateTrip p s).lamp = s.lamp
      ∧ (gateTrip p s).lights = s.lights
      ∧ (gateTrip p s).fire = s.fire
      ∧ (gateTrip p s).store = s.store
      ∧ (gateTrip p s).pending = s.pending
      ∧ (gateTrip p s).seq.countdown = s.seq.countdown
      ∧ (gateTrip p s).seq.douse = s.seq.douse
      ∧ (gateTrip p s).reels.code = s.reels.code
      ∧ (gateTrip p s).reels.faultReel = s.reels.faultReel := by
  simp [gateTrip]

@[simp] theorem fireStop_frame (p : Side) (s : State) :
    (fireStop p s).line = s.line
      ∧ (fireStop p s).rotation = s.rotation
      ∧ (fireStop p s).lamp = s.lamp
      ∧ (fireStop p s).lights = s.lights
      ∧ (fireStop p s).fire = s.fire
      ∧ (fireStop p s).cond = s.cond
      ∧ (fireStop p s).store = s.store
      ∧ (fireStop p s).pending = s.pending
      ∧ (fireStop p s).seq.automation = s.seq.automation
      ∧ (fireStop p s).seq.countdown = s.seq.countdown
      ∧ (fireStop p s).reels.code = s.reels.code
      ∧ (fireStop p s).reels.faultReel = s.reels.faultReel := by
  unfold fireStop; split <;> simp

@[simp] theorem fireExtinguish_frame (l : Side) (s : State) :
    (fireExtinguish l s).line = s.line
      ∧ (fireExtinguish l s).rotation = s.rotation
      ∧ (fireExtinguish l s).lights = s.lights
      ∧ (fireExtinguish l s).fire = s.fire
      ∧ (fireExtinguish l s).cond = s.cond
      ∧ (fireExtinguish l s).store = s.store
      ∧ (fireExtinguish l s).pending = s.pending
      ∧ (fireExtinguish l s).seq.automation = s.seq.automation
      ∧ (fireExtinguish l s).seq.countdown = s.seq.countdown
      ∧ (fireExtinguish l s).reels.code = s.reels.code
      ∧ (fireExtinguish l s).reels.faultReel = s.reels.faultReel := by
  simp [fireExtinguish]

@[simp] theorem panicLights_frame (s : State) :
    (panicLights s).line = s.line
      ∧ (panicLights s).rotation = s.rotation
      ∧ (panicLights s).reels = s.reels
      ∧ (panicLights s).proj = s.proj
      ∧ (panicLights s).seq = s.seq
      ∧ (panicLights s).lamp = s.lamp
      ∧ (panicLights s).fire = s.fire
      ∧ (panicLights s).cond = s.cond
      ∧ (panicLights s).store = s.store
      ∧ (panicLights s).pending = s.pending := by
  simp [panicLights]

@[simp] theorem enterDropped_frame (u : DetailUnit) (m : Moment) (s : State) :
    (enterDropped u m s).line = s.line
      ∧ (enterDropped u m s).rotation = s.rotation
      ∧ (enterDropped u m s).store = s.store
      ∧ (enterDropped u m s).pending = s.pending
      ∧ (enterDropped u m s).seq.countdown = s.seq.countdown
      ∧ (enterDropped u m s).reels.code = s.reels.code
      ∧ (enterDropped u m s).reels.faultReel = s.reels.faultReel := by
  simp [enterDropped]

@[simp] theorem dropFire_frame (u : DetailUnit) (m : Moment) (s : State) :
    (dropFire u m s).line = s.line
      ∧ (dropFire u m s).rotation = s.rotation
      ∧ (dropFire u m s).store = s.store
      ∧ (dropFire u m s).pending = s.pending
      ∧ (dropFire u m s).seq.countdown = s.seq.countdown
      ∧ (dropFire u m s).reels.code = s.reels.code
      ∧ (dropFire u m s).reels.faultReel = s.reels.faultReel := by
  unfold dropFire; split <;> simp

@[simp] theorem applySettings_frame (t : Settings) (s : State) :
    (applySettings t s).line = s.line
      ∧ (applySettings t s).rotation = s.rotation
      ∧ (applySettings t s).reels = s.reels
      ∧ (applySettings t s).proj = s.proj
      ∧ (applySettings t s).seq = s.seq
      ∧ (applySettings t s).fire = s.fire
      ∧ (applySettings t s).cond = s.cond
      ∧ (applySettings t s).pending = s.pending
      ∧ (applySettings t s).lights.house = s.lights.house
      ∧ (applySettings t s).store.channel1 = s.store.channel1
      ∧ (applySettings t s).store.channel2 = s.store.channel2
      ∧ (applySettings t s).store.channel3 = s.store.channel3
      ∧ (applySettings t s).store.startChannel = s.store.startChannel
      ∧ (applySettings t s).store.checkGood = s.store.checkGood
      ∧ (applySettings t s).store.save = s.store.save
      ∧ (applySettings t s).store.rebuilt = s.store.rebuilt := by
  unfold applySettings; (try dsimp only); (repeat' split) <;> simp [HouseUnit.set]

end Sys2Proof.Machine
end

