-- ==== Sys2Proof/Laws/EventFrames.lean ====
section
/-! SUPPORT. For each event and each step of a boundary, what it leaves as it was. -/

namespace Sys2Proof.Machine

open Sys2Proof

@[simp] theorem missChangeover_frame (o : Side) (s : State) :
    (missChangeover o s).line = s.line
      ∧ (missChangeover o s).rotation = s.rotation
      ∧ (missChangeover o s).reels = s.reels
      ∧ (missChangeover o s).proj = s.proj
      ∧ (missChangeover o s).lamp = s.lamp
      ∧ (missChangeover o s).lights = s.lights
      ∧ (missChangeover o s).fire = s.fire
      ∧ (missChangeover o s).store = s.store
      ∧ (missChangeover o s).pending = s.pending
      ∧ (missChangeover o s).seq.countdown = s.seq.countdown := by
  simp [missChangeover]

@[simp] theorem intermissionEnding_frame (o : Side) (m : Moment) (s : State) :
    (intermissionEnding o m s).line = s.line
      ∧ (intermissionEnding o m s).rotation = s.rotation
      ∧ (intermissionEnding o m s).reels = s.reels
      ∧ (intermissionEnding o m s).fire = s.fire
      ∧ (intermissionEnding o m s).cond = s.cond
      ∧ (intermissionEnding o m s).store = s.store
      ∧ (intermissionEnding o m s).pending = s.pending
      ∧ (intermissionEnding o m s).seq.countdown = s.seq.countdown := by
  simp [intermissionEnding]

@[simp] theorem lastReelEnding_frame (o : Side) (m : Moment) (s : State) :
    (lastReelEnding o m s).line = s.line
      ∧ (lastReelEnding o m s).rotation = s.rotation
      ∧ (lastReelEnding o m s).reels = s.reels
      ∧ (lastReelEnding o m s).fire = s.fire
      ∧ (lastReelEnding o m s).cond = s.cond
      ∧ (lastReelEnding o m s).store = s.store
      ∧ (lastReelEnding o m s).pending = s.pending
      ∧ (lastReelEnding o m s).seq.countdown = s.seq.countdown := by
  simp [lastReelEnding]

@[simp] theorem takeEnding_frame (o : Side) (r : Reel) (m : Moment) (s : State) :
    (takeEnding o r m s).line = s.line
      ∧ (takeEnding o r m s).rotation = s.rotation
      ∧ (takeEnding o r m s).fire = s.fire
      ∧ (takeEnding o r m s).store = s.store
      ∧ (takeEnding o r m s).pending = s.pending
      ∧ (takeEnding o r m s).seq.countdown = s.seq.countdown := by
  unfold takeEnding; (repeat' split) <;> simp

@[simp] theorem reachSwapPoint_frame (m : Moment) (s : State) :
    (reachSwapPoint m s).line = s.line
      ∧ (reachSwapPoint m s).rotation = s.rotation
      ∧ (reachSwapPoint m s).fire = s.fire
      ∧ (reachSwapPoint m s).store = s.store
      ∧ (reachSwapPoint m s).pending = s.pending
      ∧ (reachSwapPoint m s).seq.countdown = s.seq.countdown := by
  unfold reachSwapPoint; (repeat' split) <;> simp

@[simp] theorem swapPointTest_frame (m : Moment) (s : State) :
    (swapPointTest m s).line = s.line
      ∧ (swapPointTest m s).rotation = s.rotation
      ∧ (swapPointTest m s).fire = s.fire
      ∧ (swapPointTest m s).store = s.store
      ∧ (swapPointTest m s).pending = s.pending
      ∧ (swapPointTest m s).seq.countdown = s.seq.countdown := by
  unfold swapPointTest; split <;> simp

@[simp] theorem lateSwapTest_frame (m : Moment) (s : State) :
    (lateSwapTest m s).line = s.line
      ∧ (lateSwapTest m s).rotation = s.rotation
      ∧ (lateSwapTest m s).lights = s.lights
      ∧ (lateSwapTest m s).fire = s.fire
      ∧ (lateSwapTest m s).cond = s.cond
      ∧ (lateSwapTest m s).store = s.store
      ∧ (lateSwapTest m s).pending = s.pending
      ∧ (lateSwapTest m s).seq.countdown = s.seq.countdown := by
  unfold lateSwapTest; (repeat' split) <;> simp

@[simp] theorem raiseUnordered_frame (o : Side) (s : State) :
    (raiseUnordered o s).line = s.line
      ∧ (raiseUnordered o s).rotation = s.rotation
      ∧ (raiseUnordered o s).reels = s.reels
      ∧ (raiseUnordered o s).proj = s.proj
      ∧ (raiseUnordered o s).lamp = s.lamp
      ∧ (raiseUnordered o s).lights = s.lights
      ∧ (raiseUnordered o s).fire = s.fire
      ∧ (raiseUnordered o s).store = s.store
      ∧ (raiseUnordered o s).pending = s.pending := by
  unfold raiseUnordered; split <;> simp

@[simp] theorem automaticStrike_frame (l : Side) (m : Moment) (s : State) :
    (automaticStrike l m s).line = s.line
      ∧ (automaticStrike l m s).rotation = s.rotation
      ∧ (automaticStrike l m s).reels = s.reels
      ∧ (automaticStrike l m s).proj = s.proj
      ∧ (automaticStrike l m s).lights = s.lights
      ∧ (automaticStrike l m s).fire = s.fire
      ∧ (automaticStrike l m s).cond = s.cond
      ∧ (automaticStrike l m s).store = s.store
      ∧ (automaticStrike l m s).pending = s.pending
      ∧ (automaticStrike l m s).seq.automation = s.seq.automation
      ∧ (automaticStrike l m s).seq.strikeTaken = s.seq.strikeTaken
      ∧ (automaticStrike l m s).seq.motorTaken = s.seq.motorTaken
      ∧ (automaticStrike l m s).seq.swapReached = s.seq.swapReached
      ∧ (automaticStrike l m s).seq.swapDue = s.seq.swapDue
      ∧ (automaticStrike l m s).seq.douse = s.seq.douse
      ∧ (automaticStrike l m s).seq.countdown = s.seq.countdown := by
  unfold automaticStrike; split <;> simp

@[simp] theorem strikeIncoming_frame (o : Side) (r : Reel) (m : Moment) (s : State) :
    (strikeIncoming o r m s).line = s.line
      ∧ (strikeIncoming o r m s).rotation = s.rotation
      ∧ (strikeIncoming o r m s).reels = s.reels
      ∧ (strikeIncoming o r m s).proj = s.proj
      ∧ (strikeIncoming o r m s).lights = s.lights
      ∧ (strikeIncoming o r m s).fire = s.fire
      ∧ (strikeIncoming o r m s).store = s.store
      ∧ (strikeIncoming o r m s).pending = s.pending
      ∧ (strikeIncoming o r m s).seq.countdown = s.seq.countdown := by
  unfold strikeIncoming; split <;> simp

@[simp] theorem strikeTest_frame (m : Moment) (s : State) :
    (strikeTest m s).line = s.line
      ∧ (strikeTest m s).rotation = s.rotation
      ∧ (strikeTest m s).reels = s.reels
      ∧ (strikeTest m s).proj = s.proj
      ∧ (strikeTest m s).lights = s.lights
      ∧ (strikeTest m s).fire = s.fire
      ∧ (strikeTest m s).store = s.store
      ∧ (strikeTest m s).pending = s.pending := by
  unfold strikeTest unawareTest; (repeat' split) <;> simp

@[simp] theorem startIncoming_frame (r : Reel) (m : Moment) (s : State) :
    (startIncoming r m s).line = s.line
      ∧ (startIncoming r m s).rotation = s.rotation
      ∧ (startIncoming r m s).reels = s.reels
      ∧ (startIncoming r m s).lamp = s.lamp
      ∧ (startIncoming r m s).lights = s.lights
      ∧ (startIncoming r m s).fire = s.fire
      ∧ (startIncoming r m s).cond = s.cond
      ∧ (startIncoming r m s).store = s.store
      ∧ (startIncoming r m s).pending = s.pending
      ∧ (startIncoming r m s).seq.countdown = s.seq.countdown := by
  simp [startIncoming]

@[simp] theorem motorTest_frame (m : Moment) (s : State) :
    (motorTest m s).line = s.line
      ∧ (motorTest m s).rotation = s.rotation
      ∧ (motorTest m s).reels = s.reels
      ∧ (motorTest m s).lamp = s.lamp
      ∧ (motorTest m s).lights = s.lights
      ∧ (motorTest m s).fire = s.fire
      ∧ (motorTest m s).store = s.store
      ∧ (motorTest m s).pending = s.pending := by
  unfold motorTest unawareTest; (repeat' split) <;> simp

@[simp] theorem applyMotorCue_frame (m : Moment) (s : State) :
    (applyMotorCue m s).line = s.line
      ∧ (applyMotorCue m s).rotation = s.rotation
      ∧ (applyMotorCue m s).reels = s.reels
      ∧ (applyMotorCue m s).lamp = s.lamp
      ∧ (applyMotorCue m s).lights = s.lights
      ∧ (applyMotorCue m s).fire = s.fire
      ∧ (applyMotorCue m s).cond = s.cond
      ∧ (applyMotorCue m s).store = s.store
      ∧ (applyMotorCue m s).pending = s.pending
      ∧ (applyMotorCue m s).seq.countdown = s.seq.countdown := by
  unfold applyMotorCue; split <;> simp

@[simp] theorem showStartStrike_frame (p : Side) (m : Moment) (s : State) :
    (showStartStrike p m s).line = s.line
      ∧ (showStartStrike p m s).rotation = s.rotation
      ∧ (showStartStrike p m s).reels = s.reels
      ∧ (showStartStrike p m s).proj = s.proj
      ∧ (showStartStrike p m s).lights = s.lights
      ∧ (showStartStrike p m s).fire = s.fire
      ∧ (showStartStrike p m s).store = s.store
      ∧ (showStartStrike p m s).pending = s.pending
      ∧ (showStartStrike p m s).seq.countdown = s.seq.countdown := by
  unfold showStartStrike; (repeat' split) <;> simp

@[simp] theorem showStartFadeAndMotor_frame (p : Side) (m : Moment) (s : State) :
    (showStartFadeAndMotor p m s).line = s.line
      ∧ (showStartFadeAndMotor p m s).rotation = s.rotation
      ∧ (showStartFadeAndMotor p m s).reels = s.reels
      ∧ (showStartFadeAndMotor p m s).seq = s.seq
      ∧ (showStartFadeAndMotor p m s).lamp = s.lamp
      ∧ (showStartFadeAndMotor p m s).fire = s.fire
      ∧ (showStartFadeAndMotor p m s).cond = s.cond
      ∧ (showStartFadeAndMotor p m s).store = s.store
      ∧ (showStartFadeAndMotor p m s).pending = s.pending := by
  unfold showStartFadeAndMotor; split <;> simp

@[simp] theorem showStartOpen_frame (p : Side) (s : State) :
    (showStartOpen p s).line = s.line
      ∧ (showStartOpen p s).rotation = s.rotation
      ∧ (showStartOpen p s).lamp = s.lamp
      ∧ (showStartOpen p s).lights = s.lights
      ∧ (showStartOpen p s).fire = s.fire
      ∧ (showStartOpen p s).cond = s.cond
      ∧ (showStartOpen p s).store = s.store
      ∧ (showStartOpen p s).pending = s.pending
      ∧ (showStartOpen p s).seq.countdown = s.seq.countdown := by
  unfold showStartOpen; (repeat' split) <;> simp

@[simp] theorem takeHouseCue_frame (r : Reel) (c : HouseCue) (s : State) :
    (takeHouseCue r c s).line = s.line
      ∧ (takeHouseCue r c s).rotation = s.rotation
      ∧ (takeHouseCue r c s).proj = s.proj
      ∧ (takeHouseCue r c s).seq = s.seq
      ∧ (takeHouseCue r c s).lamp = s.lamp
      ∧ (takeHouseCue r c s).fire = s.fire
      ∧ (takeHouseCue r c s).cond = s.cond
      ∧ (takeHouseCue r c s).store = s.store
      ∧ (takeHouseCue r c s).pending = s.pending := by
  simp [takeHouseCue]

@[simp] theorem judgeHouseCue_frame (s : State) :
    (judgeHouseCue s).line = s.line
      ∧ (judgeHouseCue s).rotation = s.rotation
      ∧ (judgeHouseCue s).proj = s.proj
      ∧ (judgeHouseCue s).seq = s.seq
      ∧ (judgeHouseCue s).lamp = s.lamp
      ∧ (judgeHouseCue s).fire = s.fire
      ∧ (judgeHouseCue s).cond = s.cond
      ∧ (judgeHouseCue s).store = s.store
      ∧ (judgeHouseCue s).pending = s.pending := by
  unfold judgeHouseCue; (repeat' split) <;> simp

@[simp] theorem expireDouse_frame (l : Side) (s : State) :
    (expireDouse l s).line = s.line
      ∧ (expireDouse l s).rotation = s.rotation
      ∧ (expireDouse l s).lights = s.lights
      ∧ (expireDouse l s).fire = s.fire
      ∧ (expireDouse l s).cond = s.cond
      ∧ (expireDouse l s).store = s.store
      ∧ (expireDouse l s).pending = s.pending
      ∧ (expireDouse l s).seq.countdown = s.seq.countdown := by
  unfold expireDouse; (repeat' split) <;> simp

@[simp] theorem learnEnd_frame (p : Side) (s : State) :
    (learnEnd p s).line = s.line
      ∧ (learnEnd p s).rotation = s.rotation
      ∧ (learnEnd p s).proj = s.proj
      ∧ (learnEnd p s).seq = s.seq
      ∧ (learnEnd p s).lamp = s.lamp
      ∧ (learnEnd p s).lights = s.lights
      ∧ (learnEnd p s).fire = s.fire
      ∧ (learnEnd p s).cond = s.cond
      ∧ (learnEnd p s).store = s.store
      ∧ (learnEnd p s).pending = s.pending := by
  simp [learnEnd]

@[simp] theorem setMarks_frame (p : Side) (n : Nat) (s : State) :
    (setMarks p n s).line = s.line
      ∧ (setMarks p n s).rotation = s.rotation
      ∧ (setMarks p n s).reels = s.reels
      ∧ (setMarks p n s).seq = s.seq
      ∧ (setMarks p n s).lamp = s.lamp
      ∧ (setMarks p n s).lights = s.lights
      ∧ (setMarks p n s).fire = s.fire
      ∧ (setMarks p n s).cond = s.cond
      ∧ (setMarks p n s).store = s.store
      ∧ (setMarks p n s).pending = s.pending := by
  simp [setMarks]

@[simp] theorem countChangeoverCue_frame (p : Side) (m : Moment) (s : State) :
    (countChangeoverCue p m s).line = s.line
      ∧ (countChangeoverCue p m s).rotation = s.rotation
      ∧ (countChangeoverCue p m s).fire = s.fire
      ∧ (countChangeoverCue p m s).store = s.store
      ∧ (countChangeoverCue p m s).pending = s.pending
      ∧ (countChangeoverCue p m s).seq.countdown = s.seq.countdown := by
  unfold countChangeoverCue; split <;> simp

@[simp] theorem countMotorCue_frame (p : Side) (m : Moment) (s : State) :
    (countMotorCue p m s).line = s.line
      ∧ (countMotorCue p m s).rotation = s.rotation
      ∧ (countMotorCue p m s).reels = s.reels
      ∧ (countMotorCue p m s).lamp = s.lamp
      ∧ (countMotorCue p m s).lights = s.lights
      ∧ (countMotorCue p m s).fire = s.fire
      ∧ (countMotorCue p m s).cond = s.cond
      ∧ (countMotorCue p m s).store = s.store
      ∧ (countMotorCue p m s).pending = s.pending
      ∧ (countMotorCue p m s).seq.countdown = s.seq.countdown := by
  unfold countMotorCue; split <;> simp

@[simp] theorem judgeMark_frame (p : Side) (m : Moment) (s : State) :
    (judgeMark p m s).line = s.line
      ∧ (judgeMark p m s).rotation = s.rotation
      ∧ (judgeMark p m s).fire = s.fire
      ∧ (judgeMark p m s).store = s.store
      ∧ (judgeMark p m s).pending = s.pending
      ∧ (judgeMark p m s).seq.countdown = s.seq.countdown := by
  unfold judgeMark; (repeat' split) <;> simp

@[simp] theorem convergeTrim_frame (l : Side) (rate : Nat) (s : State) :
    (convergeTrim l rate s).line = s.line
      ∧ (convergeTrim l rate s).rotation = s.rotation
      ∧ (convergeTrim l rate s).reels = s.reels
      ∧ (convergeTrim l rate s).proj = s.proj
      ∧ (convergeTrim l rate s).seq = s.seq
      ∧ (convergeTrim l rate s).lights = s.lights
      ∧ (convergeTrim l rate s).fire = s.fire
      ∧ (convergeTrim l rate s).cond = s.cond
      ∧ (convergeTrim l rate s).pending = s.pending := by
  simp [convergeTrim]

@[simp] theorem failTrim_frame (l : Side) (s : State) :
    (failTrim l s).line = s.line
      ∧ (failTrim l s).rotation = s.rotation
      ∧ (failTrim l s).reels = s.reels
      ∧ (failTrim l s).proj = s.proj
      ∧ (failTrim l s).lights = s.lights
      ∧ (failTrim l s).fire = s.fire
      ∧ (failTrim l s).store = s.store
      ∧ (failTrim l s).pending = s.pending
      ∧ (failTrim l s).seq.countdown = s.seq.countdown := by
  simp [failTrim]

@[simp] theorem countTrim_frame (l : Side) (b : Bool) (s : State) :
    (countTrim l b s).line = s.line
      ∧ (countTrim l b s).rotation = s.rotation
      ∧ (countTrim l b s).reels = s.reels
      ∧ (countTrim l b s).proj = s.proj
      ∧ (countTrim l b s).lights = s.lights
      ∧ (countTrim l b s).fire = s.fire
      ∧ (countTrim l b s).pending = s.pending
      ∧ (countTrim l b s).seq.countdown = s.seq.countdown := by
  unfold countTrim; dsimp only; (repeat' split) <;> simp

@[simp] theorem feedOnce_frame (l : Side) (v i : Nat) (s : State) :
    (feedOnce l v i s).line = s.line
      ∧ (feedOnce l v i s).rotation = s.rotation
      ∧ (feedOnce l v i s).reels = s.reels
      ∧ (feedOnce l v i s).proj = s.proj
      ∧ (feedOnce l v i s).lights = s.lights
      ∧ (feedOnce l v i s).fire = s.fire
      ∧ (feedOnce l v i s).pending = s.pending
      ∧ (feedOnce l v i s).seq.countdown = s.seq.countdown := by
  simp [feedOnce]

@[simp] theorem feedInterval_frame (l : Side) (v i : Nat) (m : Moment) (s : State) :
    (feedInterval l v i m s).line = s.line
      ∧ (feedInterval l v i m s).rotation = s.rotation
      ∧ (feedInterval l v i m s).reels = s.reels
      ∧ (feedInterval l v i m s).proj = s.proj
      ∧ (feedInterval l v i m s).lights = s.lights
      ∧ (feedInterval l v i m s).fire = s.fire
      ∧ (feedInterval l v i m s).pending = s.pending
      ∧ (feedInterval l v i m s).seq.countdown = s.seq.countdown := by
  unfold feedInterval; split <;> simp

@[simp] theorem endInch_frame (p : Side) (s : State) :
    (endInch p s).line = s.line
      ∧ (endInch p s).rotation = s.rotation
      ∧ (endInch p s).reels = s.reels
      ∧ (endInch p s).seq = s.seq
      ∧ (endInch p s).lamp = s.lamp
      ∧ (endInch p s).lights = s.lights
      ∧ (endInch p s).fire = s.fire
      ∧ (endInch p s).cond = s.cond
      ∧ (endInch p s).store = s.store
      ∧ (endInch p s).pending = s.pending := by
  unfold endInch; split <;> simp

@[simp] theorem countPulse_frame (p : Side) (s : State) :
    (countPulse p s).line = s.line
      ∧ (countPulse p s).rotation = s.rotation
      ∧ (countPulse p s).reels = s.reels
      ∧ (countPulse p s).seq = s.seq
      ∧ (countPulse p s).lamp = s.lamp
      ∧ (countPulse p s).lights = s.lights
      ∧ (countPulse p s).fire = s.fire
      ∧ (countPulse p s).cond = s.cond
      ∧ (countPulse p s).store = s.store
      ∧ (countPulse p s).pending = s.pending := by
  simp [countPulse]

@[simp] theorem expireInch_frame (p : Side) (s : State) :
    (expireInch p s).line = s.line
      ∧ (expireInch p s).rotation = s.rotation
      ∧ (expireInch p s).lamp = s.lamp
      ∧ (expireInch p s).lights = s.lights
      ∧ (expireInch p s).fire = s.fire
      ∧ (expireInch p s).store = s.store
      ∧ (expireInch p s).pending = s.pending
      ∧ (expireInch p s).seq.countdown = s.seq.countdown := by
  unfold expireInch; split <;> simp

@[simp] theorem endRunUp_frame (p : Side) (s : State) :
    (endRunUp p s).line = s.line
      ∧ (endRunUp p s).rotation = s.rotation
      ∧ (endRunUp p s).seq = s.seq
      ∧ (endRunUp p s).lamp = s.lamp
      ∧ (endRunUp p s).lights = s.lights
      ∧ (endRunUp p s).fire = s.fire
      ∧ (endRunUp p s).cond = s.cond
      ∧ (endRunUp p s).store = s.store
      ∧ (endRunUp p s).pending = s.pending := by
  unfold endRunUp; split <;> simp

@[simp] theorem expireRunUp_frame (p : Side) (s : State) :
    (expireRunUp p s).line = s.line
      ∧ (expireRunUp p s).rotation = s.rotation
      ∧ (expireRunUp p s).lamp = s.lamp
      ∧ (expireRunUp p s).lights = s.lights
      ∧ (expireRunUp p s).fire = s.fire
      ∧ (expireRunUp p s).store = s.store
      ∧ (expireRunUp p s).pending = s.pending
      ∧ (expireRunUp p s).seq.countdown = s.seq.countdown := by
  unfold expireRunUp; (repeat' split) <;> simp

@[simp] theorem moveFilmLoss_frame (p : Side) (c : Contact) (s : State) :
    (moveFilmLoss p c s).line = s.line
      ∧ (moveFilmLoss p c s).rotation = s.rotation
      ∧ (moveFilmLoss p c s).lamp = s.lamp
      ∧ (moveFilmLoss p c s).fire = s.fire
      ∧ (moveFilmLoss p c s).store = s.store
      ∧ (moveFilmLoss p c s).pending = s.pending
      ∧ (moveFilmLoss p c s).seq.countdown = s.seq.countdown := by
  unfold moveFilmLoss; split <;> simp

@[simp] theorem moveGate_frame (p : Side) (c : Contact) (s : State) :
    (moveGate p c s).line = s.line
      ∧ (moveGate p c s).rotation = s.rotation
      ∧ (moveGate p c s).lamp = s.lamp
      ∧ (moveGate p c s).lights = s.lights
      ∧ (moveGate p c s).fire = s.fire
      ∧ (moveGate p c s).store = s.store
      ∧ (moveGate p c s).pending = s.pending
      ∧ (moveGate p c s).seq.countdown = s.seq.countdown := by
  unfold moveGate; dsimp only; split <;> simp

@[simp] theorem expireStall_frame (p : Side) (s : State) :
    (expireStall p s).line = s.line
      ∧ (expireStall p s).rotation = s.rotation
      ∧ (expireStall p s).lamp = s.lamp
      ∧ (expireStall p s).lights = s.lights
      ∧ (expireStall p s).fire = s.fire
      ∧ (expireStall p s).store = s.store
      ∧ (expireStall p s).pending = s.pending
      ∧ (expireStall p s).seq.countdown = s.seq.countdown := by
  unfold expireStall; split <;> simp

@[simp] theorem expireSettling_frame (l : Side) (m : Moment) (s : State) :
    (expireSettling l m s).line = s.line
      ∧ (expireSettling l m s).rotation = s.rotation
      ∧ (expireSettling l m s).reels = s.reels
      ∧ (expireSettling l m s).proj = s.proj
      ∧ (expireSettling l m s).seq = s.seq
      ∧ (expireSettling l m s).lights = s.lights
      ∧ (expireSettling l m s).fire = s.fire
      ∧ (expireSettling l m s).cond = s.cond
      ∧ (expireSettling l m s).store = s.store
      ∧ (expireSettling l m s).pending = s.pending := by
  unfold expireSettling; split <;> simp

@[simp] theorem judgeArc_frame (l : Side) (i : Nat) (m : Moment) (s : State) :
    (judgeArc l i m s).line = s.line
      ∧ (judgeArc l i m s).rotation = s.rotation
      ∧ (judgeArc l i m s).reels = s.reels
      ∧ (judgeArc l i m s).proj = s.proj
      ∧ (judgeArc l i m s).seq = s.seq
      ∧ (judgeArc l i m s).lights = s.lights
      ∧ (judgeArc l i m s).fire = s.fire
      ∧ (judgeArc l i m s).cond = s.cond
      ∧ (judgeArc l i m s).store = s.store
      ∧ (judgeArc l i m s).pending = s.pending := by
  unfold judgeArc; split <;> simp

@[simp] theorem expireAttempt_frame (l : Side) (i : Nat) (m : Moment) (s : State) :
    (expireAttempt l i m s).line = s.line
      ∧ (expireAttempt l i m s).rotation = s.rotation
      ∧ (expireAttempt l i m s).reels = s.reels
      ∧ (expireAttempt l i m s).lights = s.lights
      ∧ (expireAttempt l i m s).fire = s.fire
      ∧ (expireAttempt l i m s).store = s.store
      ∧ (expireAttempt l i m s).pending = s.pending
      ∧ (expireAttempt l i m s).seq.countdown = s.seq.countdown := by
  unfold expireAttempt; (repeat' split) <;> simp

@[simp] theorem expireWait_frame (l : Side) (m : Moment) (s : State) :
    (expireWait l m s).line = s.line
      ∧ (expireWait l m s).rotation = s.rotation
      ∧ (expireWait l m s).reels = s.reels
      ∧ (expireWait l m s).proj = s.proj
      ∧ (expireWait l m s).seq = s.seq
      ∧ (expireWait l m s).lights = s.lights
      ∧ (expireWait l m s).fire = s.fire
      ∧ (expireWait l m s).cond = s.cond
      ∧ (expireWait l m s).store = s.store
      ∧ (expireWait l m s).pending = s.pending := by
  unfold expireWait; split <;> simp

@[simp] theorem expireWarm_frame (l : Side) (s : State) :
    (expireWarm l s).line = s.line
      ∧ (expireWarm l s).rotation = s.rotation
      ∧ (expireWarm l s).reels = s.reels
      ∧ (expireWarm l s).proj = s.proj
      ∧ (expireWarm l s).seq = s.seq
      ∧ (expireWarm l s).lights = s.lights
      ∧ (expireWarm l s).fire = s.fire
      ∧ (expireWarm l s).cond = s.cond
      ∧ (expireWarm l s).store = s.store
      ∧ (expireWarm l s).pending = s.pending := by
  unfold expireWarm; split <;> simp

@[simp] theorem expireArc_frame (l : Side) (i : Nat) (m : Moment) (s : State) :
    (expireArc l i m s).line = s.line
      ∧ (expireArc l i m s).rotation = s.rotation
      ∧ (expireArc l i m s).lights = s.lights
      ∧ (expireArc l i m s).fire = s.fire
      ∧ (expireArc l i m s).store = s.store
      ∧ (expireArc l i m s).pending = s.pending
      ∧ (expireArc l i m s).seq.countdown = s.seq.countdown := by
  unfold expireArc; split <;> simp

@[simp] theorem openLink_frame (m : Moment) (s : State) :
    (openLink m s).line = s.line
      ∧ (openLink m s).rotation = s.rotation
      ∧ (openLink m s).store = s.store
      ∧ (openLink m s).pending = s.pending
      ∧ (openLink m s).seq.countdown = s.seq.countdown := by
  simp [openLink]

@[simp] theorem judgeLink_frame (s : State) :
    (judgeLink s).line = s.line
      ∧ (judgeLink s).rotation = s.rotation
      ∧ (judgeLink s).reels = s.reels
      ∧ (judgeLink s).proj = s.proj
      ∧ (judgeLink s).seq = s.seq
      ∧ (judgeLink s).lamp = s.lamp
      ∧ (judgeLink s).lights = s.lights
      ∧ (judgeLink s).cond = s.cond
      ∧ (judgeLink s).store = s.store
      ∧ (judgeLink s).pending = s.pending := by
  unfold judgeLink; split <;> simp

@[simp] theorem closeLink_frame (s : State) :
    (closeLink s).line = s.line
      ∧ (closeLink s).rotation = s.rotation
      ∧ (closeLink s).reels = s.reels
      ∧ (closeLink s).proj = s.proj
      ∧ (closeLink s).seq = s.seq
      ∧ (closeLink s).lamp = s.lamp
      ∧ (closeLink s).lights = s.lights
      ∧ (closeLink s).cond = s.cond
      ∧ (closeLink s).store = s.store
      ∧ (closeLink s).pending = s.pending := by
  simp [closeLink]

@[simp] theorem findLink_frame (s : State) :
    (findLink s).line = s.line
      ∧ (findLink s).rotation = s.rotation
      ∧ (findLink s).reels = s.reels
      ∧ (findLink s).proj = s.proj
      ∧ (findLink s).seq = s.seq
      ∧ (findLink s).lamp = s.lamp
      ∧ (findLink s).lights = s.lights
      ∧ (findLink s).cond = s.cond
      ∧ (findLink s).store = s.store
      ∧ (findLink s).pending = s.pending := by
  unfold findLink; split <;> simp

@[simp] theorem raiseJam_frame (q : Port) (s : State) :
    (raiseJam q s).line = s.line
      ∧ (raiseJam q s).rotation = s.rotation
      ∧ (raiseJam q s).reels = s.reels
      ∧ (raiseJam q s).proj = s.proj
      ∧ (raiseJam q s).lamp = s.lamp
      ∧ (raiseJam q s).lights = s.lights
      ∧ (raiseJam q s).fire = s.fire
      ∧ (raiseJam q s).store = s.store
      ∧ (raiseJam q s).pending = s.pending
      ∧ (raiseJam q s).seq.countdown = s.seq.countdown := by
  simp [raiseJam]

@[simp] theorem expireFall_frame (q : Port) (s : State) :
    (expireFall q s).line = s.line
      ∧ (expireFall q s).rotation = s.rotation
      ∧ (expireFall q s).reels = s.reels
      ∧ (expireFall q s).proj = s.proj
      ∧ (expireFall q s).lamp = s.lamp
      ∧ (expireFall q s).lights = s.lights
      ∧ (expireFall q s).store = s.store
      ∧ (expireFall q s).pending = s.pending
      ∧ (expireFall q s).seq.countdown = s.seq.countdown := by
  unfold expireFall; split <;> simp

@[simp] theorem expireRaise_frame (q : Port) (s : State) :
    (expireRaise q s).line = s.line
      ∧ (expireRaise q s).rotation = s.rotation
      ∧ (expireRaise q s).reels = s.reels
      ∧ (expireRaise q s).proj = s.proj
      ∧ (expireRaise q s).lamp = s.lamp
      ∧ (expireRaise q s).lights = s.lights
      ∧ (expireRaise q s).store = s.store
      ∧ (expireRaise q s).pending = s.pending
      ∧ (expireRaise q s).seq.countdown = s.seq.countdown := by
  unfold expireRaise; split <;> simp

@[simp] theorem darkenPort_frame (q : Port) (s : State) :
    (darkenPort q s).line = s.line
      ∧ (darkenPort q s).rotation = s.rotation
      ∧ (darkenPort q s).lamp = s.lamp
      ∧ (darkenPort q s).lights = s.lights
      ∧ (darkenPort q s).fire = s.fire
      ∧ (darkenPort q s).cond = s.cond
      ∧ (darkenPort q s).store = s.store
      ∧ (darkenPort q s).pending = s.pending
      ∧ (darkenPort q s).seq.countdown = s.seq.countdown := by
  unfold darkenPort; (repeat' split) <;> simp

@[simp] theorem loseLatch_frame (q : Port) (m : Moment) (s : State) :
    (loseLatch q m s).line = s.line
      ∧ (loseLatch q m s).rotation = s.rotation
      ∧ (loseLatch q m s).lamp = s.lamp
      ∧ (loseLatch q m s).lights = s.lights
      ∧ (loseLatch q m s).store = s.store
      ∧ (loseLatch q m s).pending = s.pending
      ∧ (loseLatch q m s).seq.countdown = s.seq.countdown := by
  unfold loseLatch; split <;> simp

@[simp] theorem judgeStanding_frame (p : Side) (s : State) :
    (judgeStanding p s).line = s.line
      ∧ (judgeStanding p s).rotation = s.rotation
      ∧ (judgeStanding p s).lamp = s.lamp
      ∧ (judgeStanding p s).fire = s.fire
      ∧ (judgeStanding p s).store = s.store
      ∧ (judgeStanding p s).pending = s.pending
      ∧ (judgeStanding p s).seq.countdown = s.seq.countdown := by
  unfold judgeStanding; split <;> simp

@[simp] theorem tickInch_frame (p : Side) (s : State) :
    (tickInch p s).line = s.line
      ∧ (tickInch p s).rotation = s.rotation
      ∧ (tickInch p s).lamp = s.lamp
      ∧ (tickInch p s).lights = s.lights
      ∧ (tickInch p s).fire = s.fire
      ∧ (tickInch p s).store = s.store
      ∧ (tickInch p s).pending = s.pending
      ∧ (tickInch p s).seq.countdown = s.seq.countdown := by
  unfold tickInch; split <;> simp

@[simp] theorem tickRunUp_frame (p : Side) (s : State) :
    (tickRunUp p s).line = s.line
      ∧ (tickRunUp p s).rotation = s.rotation
      ∧ (tickRunUp p s).lamp = s.lamp
      ∧ (tickRunUp p s).lights = s.lights
      ∧ (tickRunUp p s).fire = s.fire
      ∧ (tickRunUp p s).store = s.store
      ∧ (tickRunUp p s).pending = s.pending
      ∧ (tickRunUp p s).seq.countdown = s.seq.countdown := by
  unfold tickRunUp; (repeat' split) <;> simp

@[simp] theorem projectorWork_frame (p : Side) (s : State) :
    (projectorWork p s).line = s.line
      ∧ (projectorWork p s).rotation = s.rotation
      ∧ (projectorWork p s).lamp = s.lamp
      ∧ (projectorWork p s).fire = s.fire
      ∧ (projectorWork p s).store = s.store
      ∧ (projectorWork p s).pending = s.pending
      ∧ (projectorWork p s).seq.countdown = s.seq.countdown := by
  simp [projectorWork]

@[simp] theorem tickAttempt_frame (l : Side) (i : Nat) (s : State) :
    (tickAttempt l i s).line = s.line
      ∧ (tickAttempt l i s).rotation = s.rotation
      ∧ (tickAttempt l i s).reels = s.reels
      ∧ (tickAttempt l i s).lights = s.lights
      ∧ (tickAttempt l i s).fire = s.fire
      ∧ (tickAttempt l i s).store = s.store
      ∧ (tickAttempt l i s).pending = s.pending
      ∧ (tickAttempt l i s).seq.countdown = s.seq.countdown := by
  unfold tickAttempt; (repeat' split) <;> simp

@[simp] theorem firstReading_frame (l : Side) (i : Nat) (s : State) :
    (firstReading l i s).line = s.line
      ∧ (firstReading l i s).rotation = s.rotation
      ∧ (firstReading l i s).reels = s.reels
      ∧ (firstReading l i s).proj = s.proj
      ∧ (firstReading l i s).seq = s.seq
      ∧ (firstReading l i s).lights = s.lights
      ∧ (firstReading l i s).fire = s.fire
      ∧ (firstReading l i s).cond = s.cond
      ∧ (firstReading l i s).store = s.store
      ∧ (firstReading l i s).pending = s.pending := by
  unfold firstReading; split <;> simp

@[simp] theorem lampWork_frame (l : Side) (i : Nat) (s : State) :
    (lampWork l i s).line = s.line
      ∧ (lampWork l i s).rotation = s.rotation
      ∧ (lampWork l i s).reels = s.reels
      ∧ (lampWork l i s).lights = s.lights
      ∧ (lampWork l i s).fire = s.fire
      ∧ (lampWork l i s).store = s.store
      ∧ (lampWork l i s).pending = s.pending
      ∧ (lampWork l i s).seq.countdown = s.seq.countdown := by
  unfold lampWork; (repeat' split) <;> simp

@[simp] theorem gateWork_frame (p : Side) (s : State) :
    (gateWork p s).line = s.line
      ∧ (gateWork p s).rotation = s.rotation
      ∧ (gateWork p s).lamp = s.lamp
      ∧ (gateWork p s).lights = s.lights
      ∧ (gateWork p s).fire = s.fire
      ∧ (gateWork p s).store = s.store
      ∧ (gateWork p s).pending = s.pending
      ∧ (gateWork p s).seq.countdown = s.seq.countdown := by
  unfold gateWork; dsimp only; (repeat' split) <;> simp

@[simp] theorem arcWatch_frame (l : Side) (i : Nat) (s : State) :
    (arcWatch l i s).line = s.line
      ∧ (arcWatch l i s).rotation = s.rotation
      ∧ (arcWatch l i s).lights = s.lights
      ∧ (arcWatch l i s).fire = s.fire
      ∧ (arcWatch l i s).store = s.store
      ∧ (arcWatch l i s).pending = s.pending
      ∧ (arcWatch l i s).seq.countdown = s.seq.countdown := by
  unfold arcWatch; (repeat' split) <;> simp

@[simp] theorem tickFeed_frame (l : Side) (v i : Nat) (s : State) :
    (tickFeed l v i s).line = s.line
      ∧ (tickFeed l v i s).rotation = s.rotation
      ∧ (tickFeed l v i s).reels = s.reels
      ∧ (tickFeed l v i s).proj = s.proj
      ∧ (tickFeed l v i s).lights = s.lights
      ∧ (tickFeed l v i s).fire = s.fire
      ∧ (tickFeed l v i s).pending = s.pending
      ∧ (tickFeed l v i s).seq.countdown = s.seq.countdown := by
  unfold tickFeed; split <;> simp

@[simp] theorem tickShutter_frame (q : Port) (s : State) :
    (tickShutter q s).line = s.line
      ∧ (tickShutter q s).rotation = s.rotation
      ∧ (tickShutter q s).reels = s.reels
      ∧ (tickShutter q s).proj = s.proj
      ∧ (tickShutter q s).lamp = s.lamp
      ∧ (tickShutter q s).lights = s.lights
      ∧ (tickShutter q s).store = s.store
      ∧ (tickShutter q s).pending = s.pending
      ∧ (tickShutter q s).seq.countdown = s.seq.countdown := by
  unfold tickShutter; (repeat' split) <;> simp

@[simp] theorem finishSave_frame (s : State) :
    (finishSave s).line = s.line
      ∧ (finishSave s).rotation = s.rotation
      ∧ (finishSave s).reels = s.reels
      ∧ (finishSave s).proj = s.proj
      ∧ (finishSave s).seq = s.seq
      ∧ (finishSave s).lamp = s.lamp
      ∧ (finishSave s).lights = s.lights
      ∧ (finishSave s).fire = s.fire
      ∧ (finishSave s).cond = s.cond
      ∧ (finishSave s).pending = s.pending := by
  unfold finishSave; (repeat' split) <;> simp

@[simp] theorem tickSave_frame (s : State) :
    (tickSave s).line = s.line
      ∧ (tickSave s).rotation = s.rotation
      ∧ (tickSave s).reels = s.reels
      ∧ (tickSave s).proj = s.proj
      ∧ (tickSave s).seq = s.seq
      ∧ (tickSave s).lamp = s.lamp
      ∧ (tickSave s).lights = s.lights
      ∧ (tickSave s).fire = s.fire
      ∧ (tickSave s).cond = s.cond
      ∧ (tickSave s).pending = s.pending := by
  unfold tickSave; (repeat' split) <;> simp

@[simp] theorem tickDouse_frame (l : Side) (s : State) :
    (tickDouse l s).line = s.line
      ∧ (tickDouse l s).rotation = s.rotation
      ∧ (tickDouse l s).lights = s.lights
      ∧ (tickDouse l s).fire = s.fire
      ∧ (tickDouse l s).cond = s.cond
      ∧ (tickDouse l s).store = s.store
      ∧ (tickDouse l s).pending = s.pending
      ∧ (tickDouse l s).seq.countdown = s.seq.countdown := by
  unfold tickDouse; split <;> simp

@[simp] theorem ownWork_frame (r : Readings) (s : State) :
    (ownWork r s).line = s.line
      ∧ (ownWork r s).rotation = s.rotation
      ∧ (ownWork r s).pending = s.pending
      ∧ (ownWork r s).seq.countdown = s.seq.countdown := by
  simp [ownWork]

@[simp] theorem rampStep_frame (s : State) :
    (rampStep s).line = s.line
      ∧ (rampStep s).rotation = s.rotation
      ∧ (rampStep s).reels = s.reels
      ∧ (rampStep s).proj = s.proj
      ∧ (rampStep s).seq = s.seq
      ∧ (rampStep s).lamp = s.lamp
      ∧ (rampStep s).fire = s.fire
      ∧ (rampStep s).cond = s.cond
      ∧ (rampStep s).store = s.store
      ∧ (rampStep s).pending = s.pending := by
  simp [rampStep]

@[simp] theorem countdownStep_frame (s : State) :
    (countdownStep s).line = s.line
      ∧ (countdownStep s).rotation = s.rotation
      ∧ (countdownStep s).reels = s.reels
      ∧ (countdownStep s).proj = s.proj
      ∧ (countdownStep s).lamp = s.lamp
      ∧ (countdownStep s).lights = s.lights
      ∧ (countdownStep s).fire = s.fire
      ∧ (countdownStep s).cond = s.cond
      ∧ (countdownStep s).store = s.store
      ∧ (countdownStep s).pending = s.pending
      ∧ (countdownStep s).seq.automation = s.seq.automation
      ∧ (countdownStep s).seq.strikeTaken = s.seq.strikeTaken
      ∧ (countdownStep s).seq.motorTaken = s.seq.motorTaken
      ∧ (countdownStep s).seq.swapReached = s.seq.swapReached
      ∧ (countdownStep s).seq.swapDue = s.seq.swapDue
      ∧ (countdownStep s).seq.douse = s.seq.douse := by
  unfold countdownStep; split <;> simp

@[simp] theorem sendFrame_frame (s : State) :
    (sendFrame s).rotation = s.rotation
      ∧ (sendFrame s).reels = s.reels
      ∧ (sendFrame s).proj = s.proj
      ∧ (sendFrame s).seq = s.seq
      ∧ (sendFrame s).lamp = s.lamp
      ∧ (sendFrame s).lights = s.lights
      ∧ (sendFrame s).fire = s.fire
      ∧ (sendFrame s).cond = s.cond
      ∧ (sendFrame s).store = s.store
      ∧ (sendFrame s).pending = s.pending := by
  simp [sendFrame]

@[simp] theorem judgeWindow_frame (s : State) :
    (judgeWindow s).line = s.line
      ∧ (judgeWindow s).rotation = s.rotation
      ∧ (judgeWindow s).reels = s.reels
      ∧ (judgeWindow s).seq = s.seq
      ∧ (judgeWindow s).lamp = s.lamp
      ∧ (judgeWindow s).lights = s.lights
      ∧ (judgeWindow s).fire = s.fire
      ∧ (judgeWindow s).cond = s.cond
      ∧ (judgeWindow s).store = s.store
      ∧ (judgeWindow s).pending = s.pending := by
  unfold judgeWindow; (repeat' split) <;> simp

@[simp] theorem leadTests_frame (e : Option Side) (s : State) :
    (leadTests e s).line = s.line
      ∧ (leadTests e s).rotation = s.rotation
      ∧ (leadTests e s).reels = s.reels
      ∧ (leadTests e s).lights = s.lights
      ∧ (leadTests e s).fire = s.fire
      ∧ (leadTests e s).store = s.store
      ∧ (leadTests e s).pending = s.pending := by
  unfold leadTests; dsimp only; (repeat' split) <;> simp

@[simp] theorem sequencerTests_frame (s : State) :
    (sequencerTests s).line = s.line
      ∧ (sequencerTests s).rotation = s.rotation
      ∧ (sequencerTests s).fire = s.fire
      ∧ (sequencerTests s).store = s.store
      ∧ (sequencerTests s).pending = s.pending := by
  simp [sequencerTests]

@[simp] theorem evaluatedWork_frame (s : State) :
    (evaluatedWork s).line = (sendFrame (countdownStep s)).line
      ∧ (evaluatedWork s).rotation = s.rotation
      ∧ (evaluatedWork s).fire = s.fire
      ∧ (evaluatedWork s).store = s.store
      ∧ (evaluatedWork s).pending = s.pending := by
  simp [evaluatedWork]

@[simp] theorem showStartSteps_frame (p : Side) (s : State) :
    (showStartSteps p s).line = s.line
      ∧ (showStartSteps p s).rotation = s.rotation
      ∧ (showStartSteps p s).fire = s.fire
      ∧ (showStartSteps p s).store = s.store
      ∧ (showStartSteps p s).pending = s.pending
      ∧ (showStartSteps p s).seq.countdown = s.seq.countdown := by
  simp [showStartSteps]

end Sys2Proof.Machine
end

