-- ==== Sys2Proof/Laws/Requests.lean ====
section
/-! SUPPORT. What every request has in common: its work keeps the queue of commands, and a status other than DONE and
CLAMPED leaves the state as it was. -/

namespace Sys2Proof.Machine

open Sys2Proof

/-- A judged request is orderly: it keeps the queue of commands and the priority lane, and a refusal changes nothing. -/
def Orderly (s : State) (x : Judged) : Prop :=
  x.1.pending = s.pending ∧ x.1.line.lane = s.line.lane ∧ x.1.line.replies.length ≤ s.line.replies.length
    ∧ (x.2.status ≠ .done → x.2.status ≠ .clamped → x.1 = s)

theorem Orderly.refused (s : State) (st : Status) (d : Nat) : Orderly s (answerRefused s st d) :=
  ⟨rfl, rfl, le_rfl, fun _ _ => rfl⟩

theorem Orderly.done {s t : State} (d : Nat) (hp : t.pending = s.pending) (hl : t.line = s.line) :
    Orderly s (answerDone t d) :=
  ⟨hp, congrArg LineUnit.lane hl, by rw [show (answerDone t d).1 = t from rfl, hl],
    fun h => absurd rfl h⟩

theorem Orderly.applied {s t : State} (b : Bool) (d : Nat) (hp : t.pending = s.pending) (hl : t.line = s.line) :
    Orderly s (answerApplied t b d) := by
  refine ⟨hp, congrArg LineUnit.lane hl, by rw [show (answerApplied t b d).1 = t from rfl, hl], fun h h' => ?_⟩
  cases b
  · exact absurd rfl h
  · exact absurd rfl h'

theorem inquireWork_orderly (t : Target) (part : Nat) (s : State) : Orderly s (inquireWork t part s) := by
  unfold inquireWork; split
  · exact .done _ rfl rfl
  · exact .refused ..

theorem readWork_orderly (t : Target) (item : Nat) (s : State) : Orderly s (readWork t item s) := by
  unfold readWork; split
  · exact .done _ rfl rfl
  · exact .refused ..

theorem readReelWork_orderly (n : Nat) (s : State) : Orderly s (readReelWork n s) := by
  unfold readReelWork; split
  · exact .done _ rfl rfl
  · exact .refused ..

theorem readConditionsWork_orderly (n part : Nat) (s : State) : Orderly s (readConditionsWork n part s) := by
  unfold readConditionsWork; (repeat' split) <;> first | exact .done _ rfl rfl | exact .refused ..

theorem setModeWork_orderly (t : Target) (mode : Nat) (s : State) : Orderly s (setModeWork t mode s) := by
  unfold setModeWork setLightMode setArcMode
  (repeat' split) <;> first | exact .done _ rfl rfl | exact .refused ..

theorem applyLight_orderly (c : Channel) (level ramp : Nat) (s : State) : Orderly s (applyLight c level ramp s) :=
  .applied _ _ rfl rfl

theorem setValueLightWork_orderly (c : Channel) (level ramp : Nat) (s : State) :
    Orderly s (setValueLightWork c level ramp s) := by
  unfold setValueLightWork; (repeat' split) <;> first | exact applyLight_orderly .. | exact .refused ..

theorem setTargetWork_orderly (t : Target) (level ramp : Nat) (s : State) :
    Orderly s (setTargetWork t level ramp s) := by
  unfold setTargetWork setTargetLight
  (repeat' split) <;> first | exact applyLight_orderly .. | exact .refused ..

theorem setValueArcWork_orderly (l : Side) (rate : Nat) (s : State) : Orderly s (setValueArcWork l rate s) := by
  unfold setValueArcWork; dsimp only; split
  · exact .applied _ _ rfl rfl
  · exact .refused ..

theorem settingReply_orderly {s t : State} (n value applied : Nat) (hp : t.pending = s.pending) (hl : t.line = s.line) :
    Orderly s (settingReply n value applied t) := by
  unfold settingReply; split
  · exact ⟨hp, congrArg LineUnit.lane hl, by rw [hl], fun _ h => absurd rfl h⟩
  · exact .done _ hp hl

theorem setValueSettingWork_orderly (n value : Nat) (s : State) : Orderly s (setValueSettingWork n value s) := by
  unfold setValueSettingWork changeSettingWork; dsimp only
  split
  · exact setValueArcWork_orderly ..
  · (repeat' split) <;> first | exact .refused .. | exact settingReply_orderly _ _ _ (by simp) (by simp)

theorem onArc_orderly (t : Target) (work : Side → State → Judged) (s : State) (h : ∀ l, Orderly s (work l s)) :
    Orderly s (onArc t work s) := by
  unfold onArc; split
  · exact h _
  · exact .refused ..

theorem onProjector_orderly (t : Target) (work : Side → State → Judged) (s : State) (h : ∀ l, Orderly s (work l s)) :
    Orderly s (onProjector t work s) := by
  unfold onProjector; split
  · exact h _
  · exact .refused ..

theorem strikeWork_orderly (l : Side) (s : State) : Orderly s (strikeWork l s) := by
  unfold strikeWork; split
  · exact .done _ (by simp) (by simp)
  · exact .refused ..

theorem extinguishWork_orderly (l : Side) (s : State) : Orderly s (extinguishWork l s) := .done _ (by simp) (by simp)

theorem newRodWork_orderly (length : Nat) (l : Side) (s : State) : Orderly s (newRodWork length l s) := by
  unfold newRodWork; (repeat' split) <;> first | exact .refused .. | exact .done _ rfl rfl

theorem loadWork_orderly (reel f0 : Nat) (p : Side) (s : State) : Orderly s (loadWork reel f0 p s) := by
  unfold loadWork; dsimp only
  (repeat' split) <;> first | exact .refused .. | exact .done _ (by simp [setReelStatus]) (by simp [setReelStatus])

theorem unloadWork_orderly (p : Side) (s : State) : Orderly s (unloadWork p s) := by
  unfold unloadWork; split <;> first | exact .refused .. | exact .done _ (by simp) (by simp)

theorem inchWork_orderly (frames : Nat) (p : Side) (s : State) : Orderly s (inchWork frames p s) := by
  unfold inchWork; (repeat' split) <;> first | exact .refused .. | exact .done _ (by simp) (by simp)

theorem startWork_orderly (p : Side) (s : State) : Orderly s (startWork p s) := by
  unfold startWork; (repeat' split) <;> first | exact .refused .. | exact .done _ (by simp) (by simp)

theorem stopWork_orderly (p : Side) (s : State) : Orderly s (stopWork p s) := by
  unfold stopWork; (repeat' split) <;> first | exact .refused .. | exact .done _ (by simp) (by simp)

theorem openWork_orderly (p : Side) (s : State) : Orderly s (openWork p s) := by
  unfold openWork; (repeat' split) <;> first | exact .refused .. | exact .done _ (by simp) (by simp)

theorem swapWork_orderly (p : Side) (s : State) : Orderly s (swapWork p s) := by
  unfold swapWork; (repeat' split) <;> first | exact .refused .. | exact .done _ (by simp) (by simp)

theorem commitEdit_orderly (records : List Reel) (s : State) : Orderly s (commitEdit records s) := by
  unfold commitEdit; dsimp only
  (repeat' split) <;> first | exact .refused .. | exact .done _ (by simp) (by simp)

theorem addWork_orderly (x : ReelEntry) (s : State) : Orderly s (addWork x s) := by
  unfold addWork; (repeat' split) <;> first | exact .refused .. | exact commitEdit_orderly ..

theorem insertWork_orderly (before : Nat) (x : ReelEntry) (s : State) : Orderly s (insertWork before x s) := by
  unfold insertWork; (repeat' split) <;> first | exact .refused .. | exact commitEdit_orderly ..

theorem removeWork_orderly (reel : Nat) (s : State) : Orderly s (removeWork reel s) := by
  unfold removeWork; (repeat' split) <;> first | exact .refused .. | exact commitEdit_orderly ..

theorem reelCueWork_orderly (reel action point level ramp : Nat) (s : State) :
    Orderly s (reelCueWork reel action point level ramp s) := by
  unfold reelCueWork; (repeat' split) <;> first | exact .refused .. | exact commitEdit_orderly ..

theorem clearListWork_orderly (s : State) : Orderly s (clearListWork s) := by
  unfold clearListWork; (repeat' split) <;> first | exact .refused .. | exact commitEdit_orderly ..

theorem repeatShowWork_orderly (s : State) : Orderly s (repeatShowWork s) := by
  unfold repeatShowWork; (repeat' split) <;> first | exact .refused .. | exact commitEdit_orderly ..

theorem skipReelWork_orderly (reel : Nat) (s : State) : Orderly s (skipReelWork reel s) := by
  unfold skipReelWork; (repeat' split) <;> first | exact .refused .. | exact commitEdit_orderly ..

theorem engageWork_orderly (s : State) : Orderly s (engageWork s) := by
  unfold engageWork; (repeat' split) <;> first | exact .refused .. | exact .done _ rfl rfl

theorem disengageWork_orderly (s : State) : Orderly s (disengageWork s) := by
  unfold disengageWork; (repeat' split) <;> first | exact .refused .. | exact .done _ rfl rfl

theorem startShowWork_orderly (s : State) : Orderly s (startShowWork s) := by
  unfold startShowWork; (repeat' split) <;> first | exact .refused .. | exact .done _ rfl rfl

theorem resumeWork_orderly (s : State) : Orderly s (resumeWork s) := by
  unfold resumeWork; (repeat' split) <;> first | exact .refused .. | exact .done _ rfl rfl

theorem clearConditionsWork_orderly (n : Nat) (s : State) : Orderly s (clearConditionsWork n s) := by
  unfold clearConditionsWork; (repeat' split) <;> first | exact .refused .. | exact .done _ rfl rfl

/-- The line of a request that answers DONE may change where lane and waiting answers stay. -/
theorem Orderly.doneLine {s t : State} (d : Nat) (hp : t.pending = s.pending) (hl : t.line.lane = s.line.lane)
    (hr : t.line.replies.length ≤ s.line.replies.length) : Orderly s (answerDone t d) :=
  ⟨hp, hl, hr, fun h => absurd rfl h⟩

theorem lockWork_orderly (n : Nat) (s : State) : Orderly s (lockWork n s) := by
  unfold lockWork; (repeat' split) <;> first | exact .refused .. | exact .doneLine _ rfl rfl le_rfl

theorem unlockWork_orderly (n : Nat) (s : State) : Orderly s (unlockWork n s) := by
  unfold unlockWork; (repeat' split) <;> first | exact .refused .. | exact .doneLine _ rfl rfl le_rfl

theorem generalResetWork_orderly (s : State) : Orderly s (generalResetWork s) := by
  unfold generalResetWork; (repeat' split) <;> first | exact .refused .. | exact .doneLine _ rfl rfl (Nat.zero_le _)

@[simp] theorem emergencyStop_frame (p : Side) (s : State) :
    (emergencyStop p s).line = s.line ∧ (emergencyStop p s).rotation = s.rotation
      ∧ (emergencyStop p s).lamp = s.lamp ∧ (emergencyStop p s).lights = s.lights
      ∧ (emergencyStop p s).fire = s.fire ∧ (emergencyStop p s).cond = s.cond ∧ (emergencyStop p s).store = s.store
      ∧ (emergencyStop p s).pending = s.pending ∧ (emergencyStop p s).seq.automation = s.seq.automation
      ∧ (emergencyStop p s).seq.countdown = s.seq.countdown
      ∧ (emergencyStop p s).reels.code = s.reels.code ∧ (emergencyStop p s).reels.faultReel = s.reels.faultReel := by
  unfold emergencyStop; dsimp only; split <;> simp

theorem stopAllWork_line (s : State) : (stopAllWork s).1.line = s.line ∧ (stopAllWork s).1.pending = s.pending := by
  unfold stopAllWork answerDone; dsimp only; split <;> simp

theorem stopAllWork_orderly (s : State) : Orderly s (stopAllWork s) :=
  .done _ (stopAllWork_line s).2 (stopAllWork_line s).1

theorem alertWork_orderly (n : Station) (s : State) : Orderly s (alertWork n s) := by
  unfold alertWork setFireState; (repeat' split) <;> first | exact .refused .. | exact .done _ (by simp) (by simp)

theorem fireClearWork_orderly (s : State) : Orderly s (fireClearWork s) := by
  unfold fireClearWork; (repeat' split) <;> first | exact .refused .. | exact .done _ rfl rfl

theorem dropWork_orderly (n : Station) (s : State) : Orderly s (dropWork n s) := .done _ (by simp) (by simp)

theorem fireAckWork_orderly (s : State) : Orderly s (fireAckWork s) := by
  unfold fireAckWork; (repeat' split) <;> first | exact .refused .. | exact .done _ rfl rfl

theorem raiseWork_orderly (port : Nat) (s : State) : Orderly s (raiseWork port s) := by
  unfold raiseWork; (repeat' split) <;> first | exact .refused .. | exact .done _ rfl rfl

theorem loadPresetWork_orderly (n : Nat) (s : State) : Orderly s (loadPresetWork n s) := by
  unfold loadPresetWork; dsimp only
  (repeat' split) <;> first | exact .refused .. | exact .done _ (by simp) (by simp)

theorem savePresetWork_orderly (n : Nat) (s : State) : Orderly s (savePresetWork n s) := by
  unfold savePresetWork; (repeat' split) <;> first | exact .refused .. | exact .done _ rfl rfl

/-! ### Every request row -/

/-- The request unit's taking of a request of a kind. -/
def takeAs (n : Station) (k : Kind) (t : Target) (work : State → Judged) (s : State) : Result :=
  if isPriorityKind k then takePriority n k t work s else takeRequest n k t work s

/-- A request row is the taking of an orderly work. -/
theorem exec_request {c : Instr} {n : Station} {k : Kind} {t : Target} (h : requestOf c = some (n, k, t)) :
    ∃ work : State → Judged, (∀ s, Orderly s (work s)) ∧ ∀ s, exec c s = takeAs n k t work s := by
  cases c <;> simp only [requestOf, Option.some.injEq, Prod.mk.injEq, reduceCtorEq] at h <;>
    obtain ⟨rfl, rfl, rfl⟩ := h
  case inquire => exact ⟨_, inquireWork_orderly _ _, fun _ => rfl⟩
  case read => exact ⟨_, readWork_orderly _ _, fun _ => rfl⟩
  case readReel => exact ⟨_, readReelWork_orderly _, fun _ => rfl⟩
  case readConditions => exact ⟨_, readConditionsWork_orderly _ _, fun _ => rfl⟩
  case setMode => exact ⟨_, setModeWork_orderly _ _, fun _ => rfl⟩
  case setValueHouse => exact ⟨_, setValueLightWork_orderly _ _ _, fun _ => rfl⟩
  case setValueArc => exact ⟨_, setValueArcWork_orderly _ _, fun _ => rfl⟩
  case setValueSetting => exact ⟨_, setValueSettingWork_orderly _ _, fun _ => rfl⟩
  case setTarget => exact ⟨_, setTargetWork_orderly _ _ _, fun _ => rfl⟩
  case strike => exact ⟨_, fun s => onArc_orderly _ _ s fun l => strikeWork_orderly l s, fun _ => rfl⟩
  case extinguish => exact ⟨_, fun s => onArc_orderly _ _ s fun l => extinguishWork_orderly l s, fun _ => rfl⟩
  case newRod => exact ⟨_, fun s => onArc_orderly _ _ s fun l => newRodWork_orderly _ l s, fun _ => rfl⟩
  case load => exact ⟨_, fun s => onProjector_orderly _ _ s fun p => loadWork_orderly _ _ p s, fun _ => rfl⟩
  case unload => exact ⟨_, fun s => onProjector_orderly _ _ s fun p => unloadWork_orderly p s, fun _ => rfl⟩
  case inch => exact ⟨_, fun s => onProjector_orderly _ _ s fun p => inchWork_orderly _ p s, fun _ => rfl⟩
  case start => exact ⟨_, fun s => onProjector_orderly _ _ s fun p => startWork_orderly p s, fun _ => rfl⟩
  case stop => exact ⟨_, fun s => onProjector_orderly _ _ s fun p => stopWork_orderly p s, fun _ => rfl⟩
  case openDowser => exact ⟨_, fun s => onProjector_orderly _ _ s fun p => openWork_orderly p s, fun _ => rfl⟩
  case swap => exact ⟨_, fun s => onProjector_orderly _ _ s fun p => swapWork_orderly p s, fun _ => rfl⟩
  case add => exact ⟨_, addWork_orderly _, fun _ => rfl⟩
  case insert => exact ⟨_, insertWork_orderly _ _, fun _ => rfl⟩
  case remove => exact ⟨_, removeWork_orderly _, fun _ => rfl⟩
  case reelCue => exact ⟨_, reelCueWork_orderly _ _ _ _ _, fun _ => rfl⟩
  case clearList => exact ⟨_, clearListWork_orderly, fun _ => rfl⟩
  case repeatShow => exact ⟨_, repeatShowWork_orderly, fun _ => rfl⟩
  case skipReel => exact ⟨_, skipReelWork_orderly _, fun _ => rfl⟩
  case engage => exact ⟨_, engageWork_orderly, fun _ => rfl⟩
  case disengage => exact ⟨_, disengageWork_orderly, fun _ => rfl⟩
  case startShow => exact ⟨_, startShowWork_orderly, fun _ => rfl⟩
  case resume => exact ⟨_, resumeWork_orderly, fun _ => rfl⟩
  case clearConditions => exact ⟨_, clearConditionsWork_orderly _, fun _ => rfl⟩
  case lockStation => exact ⟨_, lockWork_orderly _, fun _ => rfl⟩
  case unlockStation => exact ⟨_, unlockWork_orderly _, fun _ => rfl⟩
  case generalReset => exact ⟨_, generalResetWork_orderly, fun _ => rfl⟩
  case stopAll => exact ⟨_, stopAllWork_orderly, fun _ => rfl⟩
  case alert => exact ⟨_, alertWork_orderly _, fun _ => rfl⟩
  case fireClear => exact ⟨_, fireClearWork_orderly, fun _ => rfl⟩
  case drop => exact ⟨_, dropWork_orderly _, fun _ => rfl⟩
  case fireAck => exact ⟨_, fireAckWork_orderly, fun _ => rfl⟩
  case raise => exact ⟨_, raiseWork_orderly _, fun _ => rfl⟩
  case loadPreset => exact ⟨_, loadPresetWork_orderly _, fun _ => rfl⟩
  case savePreset => exact ⟨_, savePresetWork_orderly _, fun _ => rfl⟩

end Sys2Proof.Machine
end

