-- ==== Sys2Proof/Laws/Judging.lean ====
section
/-! SUPPORT. What the request unit does with a request that it may take, and what a raise does. -/

namespace Sys2Proof.Machine

open Sys2Proof

/-! ### Judging -/

theorem judge_orderly (n : Station) (k : Kind) (t : Target) (work : State → Judged)
    (h : ∀ s, Orderly s (work s)) (s : State) : Orderly s (judge n k t work s) := by
  unfold judge; (repeat' split) <;> first | exact h s | exact .refused ..

theorem setValueWork_orderly (t : Target) (d : List Nat) (s : State) : Orderly s (setValueWork t d s) := by
  unfold setValueWork; split
  · exact setValueLightWork_orderly ..
  · exact setValueLightWork_orderly ..
  · exact setValueArcWork_orderly ..
  · exact setValueSettingWork_orderly ..
  · exact .refused ..

/-- Every work of the request unit is orderly. -/
theorem workOf_orderly (n : Station) (k : Kind) (t : Target) (d : List Nat) (s : State) :
    Orderly s (workOf n k t d s) := by
  cases k <;> simp only [workOf]
  case setValue => exact setValueWork_orderly ..
  case inquire => exact inquireWork_orderly ..
  case read => exact readWork_orderly ..
  case readReel => exact readReelWork_orderly ..
  case readConditions => exact readConditionsWork_orderly ..
  case setMode => exact setModeWork_orderly ..
  case setTarget => exact setTargetWork_orderly ..
  case add => exact addWork_orderly ..
  case insert => exact insertWork_orderly ..
  case remove => exact removeWork_orderly ..
  case reelCue => exact reelCueWork_orderly ..
  case clearList => exact clearListWork_orderly ..
  case repeatShow => exact repeatShowWork_orderly ..
  case skipReel => exact skipReelWork_orderly ..
  case engage => exact engageWork_orderly ..
  case disengage => exact disengageWork_orderly ..
  case startShow => exact startShowWork_orderly ..
  case resume => exact resumeWork_orderly ..
  case clearConditions => exact clearConditionsWork_orderly ..
  case lockStation => exact lockWork_orderly ..
  case unlockStation => exact unlockWork_orderly ..
  case generalReset => exact generalResetWork_orderly ..
  case stopAll => exact stopAllWork_orderly ..
  case alert => exact alertWork_orderly ..
  case fireClear => exact fireClearWork_orderly ..
  case drop => exact dropWork_orderly ..
  case fireAck => exact fireAckWork_orderly ..
  case raise => exact raiseWork_orderly ..
  case loadPreset => exact loadPresetWork_orderly ..
  case savePreset => exact savePresetWork_orderly ..
  case strike => exact onArc_orderly _ _ s fun l => strikeWork_orderly l s
  case extinguish => exact onArc_orderly _ _ s fun l => extinguishWork_orderly l s
  case newRod => exact onArc_orderly _ _ s fun l => newRodWork_orderly _ l s
  case load => exact onProjector_orderly _ _ s fun p => loadWork_orderly _ _ p s
  case unload => exact onProjector_orderly _ _ s fun p => unloadWork_orderly p s
  case inch => exact onProjector_orderly _ _ s fun p => inchWork_orderly _ p s
  case start => exact onProjector_orderly _ _ s fun p => startWork_orderly p s
  case stop => exact onProjector_orderly _ _ s fun p => stopWork_orderly p s
  case openDowser => exact onProjector_orderly _ _ s fun p => openWork_orderly p s
  case swap => exact onProjector_orderly _ _ s fun p => swapWork_orderly p s

/-- The handling of any entry is orderly. -/
theorem handleEntry_orderly (n : Station) (e : Entry) (s : State) : Orderly s (handleEntry n e s) := by
  unfold handleEntry serveEntry
  (repeat' split) <;> first | exact .refused .. | exact judge_orderly _ _ _ _ (workOf_orderly _ _ _ _) _

/-- A request that passes steps 1 to 3 is its work. -/
theorem judge_passes {n : Station} {k : Kind} {t : Target} {s : State} (work : State → Judged)
    (h : s.passes n k t = true) : judge n k t work s = work s := by
  unfold State.passes at h
  unfold judge
  split
  · rename_i hg; rw [hg] at h; cases h
  · rename_i g hg
    simp only [hg, Bool.and_eq_true, Bool.or_eq_true, Bool.not_eq_true', decide_eq_true_eq] at h
    obtain ⟨⟨h1, h2⟩, h3⟩ := h
    rw [if_neg (by rw [h1]; simp), if_neg, if_neg (by rw [h3]; simp)]
    rintro ⟨h4, h5⟩
    rcases h2 with h2 | h2
    · rw [h2] at h4; cases h4
    · exact h5 h2

/-- An ABSENT station passes nothing. -/
theorem passes_absent {n : Station} {k : Kind} {t : Target} {s : State} (h : s.passes n k t = true) :
    s.absent n = false := by
  by_contra ha
  have hr : s.line.stations[n].role = .absent := by simpa [State.absent] using ha
  unfold State.passes at h
  split at h
  · cases h
  · rw [hr] at h; cases h

/-- An ordinary request that is admitted is its work, with the answer queued. -/
theorem takeRequest_admits {n : Station} {k : Kind} {t : Target} {s : State} (work : State → Judged)
    (h : s.admits n k t = true) : takeRequest n k t work s = .next (queueAnswer n k.code (work s)) := by
  unfold State.admits at h
  rw [Bool.and_eq_true] at h
  rw [takeRequest, if_pos ⟨passes_absent h.2, h.1⟩, judge_passes work h.2]

/-- A priority request that is admitted is its work, with the answer queued. -/
theorem takePriority_admits {n : Station} {k : Kind} {t : Target} {s : State} {work : State → Judged}
    (ho : Orderly s (work s)) (h : s.admitsPriority n k t = true) :
    takePriority n k t work s = .next (queueAnswer n k.code (work s)) := by
  unfold State.admitsPriority at h
  rw [Bool.and_eq_true, decide_eq_true_eq] at h
  rw [takePriority, passes_absent h.2, judge_passes work h.2, if_neg Bool.false_ne_true, queuePriorityAnswer, if_pos (lt_of_le_of_lt ho.2.2.1 h.1)]

/-- A request whose answer finds room is judged, and its answer queued. -/
theorem takeAs_takes {n : Station} {k : Kind} {t : Target} {work : State → Judged} {s : State}
    (ho : ∀ s, Orderly s (work s)) (h : s.takes n k = true) :
    takeAs n k t work s = .next (queueAnswer n k.code (judge n k t work s)) := by
  unfold State.takes at h
  rw [Bool.and_eq_true, Bool.not_eq_true'] at h
  obtain ⟨ha, h⟩ := h
  unfold takeAs takePriority takeRequest queuePriorityAnswer
  by_cases hp : isPriorityKind k = true
  · simp only [hp, ha, if_true, Bool.false_eq_true, if_false, decide_eq_true_eq] at h ⊢
    rw [if_pos (lt_of_le_of_lt (judge_orderly n k t work ho s).2.2.1 h)]
  · simp only [hp, Bool.false_eq_true, if_false] at h ⊢
    rw [if_pos ⟨ha, h⟩]

/-! ### Codes -/

theorem kind_ofCode_code {c : Nat} {k : Kind} (h : Kind.ofCode c = some k) : k.code = c := by
  unfold Kind.ofCode at h; split at h <;> cases h <;> rfl

/-- The command that an entry spells is the request unit's work on its data characters. -/
theorem exec_commandOf {n : Station} {k : Kind} {t : Target} {d : List Nat} {c : Instr}
    (h : commandOf n k t d = some c) (s : State) : exec c s = takeAs n k t (workOf n k t d) s := by
  cases k <;> simp only [commandOf] at h
  case setValue => split at h <;> first | (cases h; rfl) | cases h
  all_goals (cases h; rfl)

/-! ### Raises -/

theorem index_ne {j k : Condition} (h : j ≠ k) : (k.index : Nat) ≠ j.index := by
  cases j <;> cases k <;> first | exact absurd rfl h | decide

theorem raiseCondition_cond (k : Condition) (d : Detail) (s : State) :
    (raiseCondition k d s).cond = s.cond.set k.index ((s.record k).raised d) := by
  unfold raiseCondition; dsimp only; split <;> rfl

/-- What a raise does to the condition records. -/
theorem raiseCondition_raised (k : Condition) (d : Detail) (s : State) : s.Raised (raiseCondition k d s) k d := by
  unfold State.Raised
  refine ⟨?_, ?_, fun j hj => ?_⟩ <;> unfold State.record <;> rw [raiseCondition_cond]
  · simp [ConditionRecord.raised]; split <;> simp_all
  · simp [ConditionRecord.raised, State.record]; split <;> simp_all
  · simp [index_ne hj]

/-- What a raise does to automation. -/
theorem raiseCondition_automation (k : Condition) (d : Detail) (s : State) :
    (raiseCondition k d s).seq.automation = automationAfter s k := by
  unfold raiseCondition automationAfter; dsimp only
  split <;> simp_all [Automation.halt]
  split <;> simp_all

/-- A raise as one update. -/
theorem raiseCondition_eq (k : Condition) (d : Detail) (s : State) :
    raiseCondition k d s =
      { s with
        cond := (raiseCondition k d s).cond
        seq := { s.seq with automation := automationAfter s k } } := by
  rw [← raiseCondition_automation k d s]
  unfold raiseCondition; dsimp only; split <;> rfl

end Sys2Proof.Machine
end

