-- ==== Sys2Proof/Laws/Effects.lean ====
section
/-! SUPPORT. For the shared operations that touch several blocks, everything they do, in the terms of Safety.lean. -/

namespace Sys2Proof.Machine

open Sys2Proof

/-! ### The withholding -/

theorem settleWithholding_only (s : State) : s.WithholdingOnlyEnds (settleWithholding s) := by
  unfold settleWithholding; (repeat' split) <;> simp [State.WithholdingOnlyEnds]

/-- Settling the withholding changes nothing else. -/
theorem settleWithholding_eq (s : State) :
    settleWithholding s = { s with seq := { s.seq with withholding := (settleWithholding s).seq.withholding } } := by
  unfold settleWithholding; (repeat' split) <;> rfl

/-- A withholding that is left after settling stands. -/
theorem settleWithholding_stands {s : State} {w : Withholding} (h : (settleWithholding s).seq.withholding = some w) :
    s.seq.withholding = some w ∧ w.stands s = true := by
  unfold settleWithholding at h
  split at h
  · rename_i h0; rw [h0] at h; cases h
  · rename_i v h0
    split at h
    · rename_i h1; rw [h0] at h; cases h; exact ⟨h0, h1⟩
    · cases h

theorem withholdingOnlyEnds_trans {s t u : State} (h : s.WithholdingOnlyEnds t) (h' : t.WithholdingOnlyEnds u) :
    s.WithholdingOnlyEnds u := by
  rcases h' with h' | h'
  · rcases h with h | h
    · exact .inl (h'.trans h)
    · exact .inr (h'.trans h)
  · exact .inr h'

/-! ### The screen -/

/-- Entering ON_SCREEN gives the projector an empty screen. -/
theorem enterScreen_opened (p : Side) (s : State) : s.Opened (enterScreen p s) p := by
  refine ⟨?_, ?_, ?_, ?_, ?_, ?_⟩
  · cases p <;> simp [enterScreen, Projector.shown, Projector.withoutStart, Both.get, Both.set]
  · cases p <;> simp [enterScreen, Projector.notStarting, Projector.withoutStart, Both.get, Both.set, Side.other]
  · simp [enterScreen, setBoundStatus, boundBecome]
  · unfold enterScreen; dsimp only; rw [settleWithholding_eq]; simp
  · unfold enterScreen; dsimp only; exact settleWithholding_only _
  · simp [enterScreen]

/-- Leaving the screen. -/
theorem leaveScreen_eq (p : Side) (st : ProjectorState) (s : State) :
    leaveScreen p st s =
      { s with
        proj := s.proj.set p ((s.proj.get p).hidden st)
        seq := { s.seq with swapDue := false, withholding := (leaveScreen p st s).seq.withholding } } := by
  unfold leaveScreen
  rw [settleWithholding_eq]
  simp [State.onProj, State.onSeq, Projector.offScreen, Projector.hidden]

theorem leaveScreen_only (p : Side) (st : ProjectorState) (s : State) :
    s.WithholdingOnlyEnds (leaveScreen p st s) := by
  unfold leaveScreen; exact settleWithholding_only _

/-- Taking a lamp to DARK. -/
theorem lampToDark_eq (l : Side) (g : Lamp → Lamp) (s : State) :
    lampToDark l g s =
      { s with
        lamp := s.lamp.set l (g (s.lamp.get l).darkened)
        proj := s.proj.set l (s.proj.get l).notStarting
        seq :=
          { s.seq with
            douse := s.seq.douse.set l none, withholding := (lampToDark l g s).seq.withholding } } := by
  unfold lampToDark clearStart
  dsimp only
  rw [settleWithholding_eq]
  simp [State.onProj, State.onSeq, State.onLamp, Projector.withoutStart, Projector.notStarting]

theorem lampToDark_only (l : Side) (g : Lamp → Lamp) (s : State) : s.WithholdingOnlyEnds (lampToDark l g s) := by
  unfold lampToDark clearStart; exact settleWithholding_only _

theorem Lamp.noLowCurrent_darkened (x : Lamp) : x.darkened.noLowCurrent = x.out := rfl

/-- A strike. -/
theorem beginStrike_eq (l : Side) (m : Moment) (s : State) :
    beginStrike l m s =
      { s with
        lamp :=
          s.lamp.set l
            { s.lamp.get l with
              state := .settling, rectifierClosed := true, iset := (s.store.working.lamp.get l).inom, attempt := 0
              settlingTimer := startTimer settlingTenths m }
        seq := { s.seq with withholding := (beginStrike l m s).seq.withholding } } := by
  unfold beginStrike
  rw [settleWithholding_eq]
  simp [State.onLamp]

theorem beginStrike_only (l : Side) (m : Moment) (s : State) : s.WithholdingOnlyEnds (beginStrike l m s) := by
  unfold beginStrike; exact settleWithholding_only (s.onLamp l _)

/-- A strike ends a withholding for its lamp. -/
theorem beginStrike_ends {l : Side} {m : Moment} {s : State} {w : Withholding}
    (h : (beginStrike l m s).seq.withholding = some w) : w.lamp ≠ l := by
  rintro rfl
  have h' := (settleWithholding_stands h).2
  simp [Withholding.stands] at h'

/-- The start-pending flag of one projector is cleared. -/
theorem clearStart_eq (p : Side) (s : State) :
    clearStart p s =
      { s with
        proj := s.proj.set p (s.proj.get p).notStarting
        seq := { s.seq with withholding := (clearStart p s).seq.withholding } } := by
  unfold clearStart
  rw [settleWithholding_eq]
  simp [State.onProj, Projector.withoutStart, Projector.notStarting]

theorem clearStart_only (p : Side) (s : State) : s.WithholdingOnlyEnds (clearStart p s) := by
  unfold clearStart; exact settleWithholding_only (s.onProj p _)

/-- The douse that an entry to RUNOUT between boundaries asks. -/
theorem startDouse_eq (o : Side) (s : State) :
    startDouse o .between s =
      { s with
        lamp := s.lampsAfter o
        proj := if s.dousesNow o then s.proj.set o (s.proj.get o).notStarting else s.proj
        seq :=
          { s.seq with
            douse := s.douseAfter o, withholding := (startDouse o .between s).seq.withholding } } := by
  unfold startDouse State.douseAfter State.lampsAfter State.dousesNow
  by_cases h1 : s.seq.automation = .engaged ∧ (s.lamp.get o).state ≠ .dark
  · simp only [h1, if_true, ne_eq, not_false_eq_true, and_self, decide_true, Bool.true_and, decide_eq_true_eq]
    by_cases h2 : s.store.working.douse = 0
    · simp only [h2, if_true]
      rw [lampToDark_eq]; simp [Lamp.noLowCurrent_darkened, h1.1]
    · simp [h2, State.onSeq, startTimeLeft, Moment.extra, Moment.phase, h1.1]
  · have h2 : (decide (s.seq.automation = .engaged) && decide ((s.lamp.get o).state ≠ .dark)) = false := by
      simpa using h1
    simp only [h1, h2, if_false, Bool.false_and, Bool.false_eq_true]

theorem startDouse_only (o : Side) (m : Moment) (s : State) : s.WithholdingOnlyEnds (startDouse o m s) := by
  unfold startDouse; (repeat' split)
  · exact lampToDark_only ..
  · exact .inl rfl
  · exact .inl rfl

/-- The swap between boundaries. -/
theorem swapScreens_swapped {i o : Side} (s : State) (h : i ≠ o) : s.Swapped (swapScreens i o .between s) i o := by
  have ho : o = i.other := by cases i <;> cases o <;> first | exact absurd rfl h | rfl
  subst ho
  unfold swapScreens
  have he := enterScreen_opened i (leaveScreen i.other .runout s)
  have hl := leaveScreen_eq i.other .runout s
  have hlo := leaveScreen_only i.other .runout s
  generalize leaveScreen i.other .runout s = a at *
  obtain ⟨e1, e2, e3, e4, e5, e6, e7, e8, e9, e10⟩ := he
  have hd := startDouse_eq i.other (enterScreen i a)
  have hdo := startDouse_only i.other .between (enterScreen i a)
  generalize enterScreen i a = b at *
  generalize startDouse i.other .between b = c at *
  have q1 : a.seq.automation = s.seq.automation := by rw [hl]
  have q2 : b.seq.automation = s.seq.automation := by rw [e4, ← q1]
  have q3 : b.lamp = s.lamp := by rw [e6, hl]
  have q4 : b.store = s.store := by rw [e10, hl]
  have q5 : b.seq.douse = s.seq.douse := by rw [e4, hl]
  have d1 : b.dousesNow i.other = s.dousesNow i.other := by unfold State.dousesNow; rw [q2, q3, q4]
  have d2 : b.douseAfter i.other = s.douseAfter i.other := by
    unfold State.douseAfter; rw [d1, q2, q3, q4, q5]
  have d3 : b.lampsAfter i.other = s.lampsAfter i.other := by unfold State.lampsAfter; rw [d1, q3]
  have p1 : b.proj.get i = (s.proj.get i).shown := by
    rw [e1, hl]; cases i <;> simp [Both.get, Both.set, Side.other]
  have p2 : b.proj.get i.other = ((s.proj.get i.other).hidden .runout).notStarting := by
    rw [e2, hl]; cases i <;> simp [Both.get, Both.set, Side.other]
  refine ⟨?_, ?_, ?_, ?_, ?_, ?_⟩
  · rw [hd]; dsimp only; split
    · cases i <;> simpa [Both.get, Both.set, Side.other] using p1
    · exact p1
  · rw [hd]; dsimp only; split
    · rw [Both.get_set_same, p2]; rfl
    · exact p2
  · rw [hd, e3, hl]
  · rw [hd, d2, e4, hl]
  · exact withholdingOnlyEnds_trans hlo (withholdingOnlyEnds_trans e5 hdo)
  · rw [hd]; exact d3

/-! ### The lamps -/

/-- An extinguish of a lamp that is not DARK puts it out. -/
theorem extinguishLamp_putOut {l : Side} {s : State} (h : (s.lamp.get l).state ≠ .dark) :
    s.PutOut (extinguishLamp l s) l := by
  unfold extinguishLamp darkenScreen
  rw [if_neg h]; dsimp only
  have hd := lampToDark_eq l Lamp.noLowCurrent s
  have ho := lampToDark_only l Lamp.noLowCurrent s
  generalize lampToDark l Lamp.noLowCurrent s = a at *
  by_cases hs : s.onScreen l = true
  · rw [if_pos hs]
    have hl := leaveScreen_eq l .running a
    have hlo := leaveScreen_only l .running a
    generalize leaveScreen l .running a = b at *
    refine ⟨?_, ?_, ?_, ?_, withholdingOnlyEnds_trans ho hlo, ?_⟩ <;> simp only [setBoundStatus, State.onReels, boundBecome] <;>
      (rw [hl, hd]; simp [hs, Lamp.noLowCurrent_darkened, Projector.hidden, Projector.notStarting])
  · rw [if_neg hs]
    have hs' : s.onScreen l = false := by simpa using hs
    refine ⟨?_, ?_, ?_, ?_, ho, ?_⟩ <;> rw [hd] <;> simp [hs', Lamp.noLowCurrent_darkened]

/-! ### The projectors -/

/-- Stopping a moving projector. -/
theorem stopProjector_eq (p : Side) (s : State) :
    stopProjector p s =
      { s with
        proj := s.proj.set p (s.proj.get p).rethreaded
        reels := { s.reels with records := boundBecome s.reels.records p .bound }
        seq :=
          { s.seq with
            swapDue := s.seq.swapDue && !s.onScreen p
            douse := if (s.proj.get p).state = .runout then s.seq.douse.set p none else s.seq.douse
            withholding := (stopProjector p s).seq.withholding } } := by
  unfold stopProjector
  dsimp only
  rw [settleWithholding_eq]
  simp only [setBoundStatus, State.onReels, State.onProj, State.onSeq, boundBecome, State.onScreen]
  congr 2
  by_cases h : (s.proj.get p).state = .onScreen <;> simp [h]

theorem stopProjector_only (p : Side) (s : State) : s.WithholdingOnlyEnds (stopProjector p s) := by
  unfold stopProjector; exact settleWithholding_only _

end Sys2Proof.Machine
end

