-- ==== Sys2Proof/Tests/Slice0.lean ====
section
/-! SUPPORT. Tests of the model: a refusal of every well-formedness check, small steps of each command with results taken
from the spec's rules and worked examples, and a state that meets the hypotheses of each statement. -/

set_option synthInstance.maxSize 100000
set_option synthInstance.maxHeartbeats 400000
set_option maxRecDepth 8000

namespace Sys2Proof.Tests

open Sys2Proof Sys2Proof.Machine

/-! ### Helpers -/

/-- The state a command leaves. -/
def after (c : Instr) (s : State) : State :=
  match exec c s with
  | .next t => t
  | _ => s

/-- The status and data of the newest answer. -/
def answer (s : State) : Option (Status × Nat) := s.line.replies.getLast?.map fun x => (x.status, x.data)

/-- A reel record of a 20-minute reel. -/
def reel (n : Nat) (p : Side) (st : RecordStatus) : Reel :=
  { number := n, projector := p, endFrame := 28800, leader := 192, last := false, intermission := false, cue := none
    cueTaken := false, measuredEnd := none, status := st }

/-- A list of records with its format evaluated. -/
def listed (rs : List Reel) (s : State) : State :=
  { s with
    reels :=
      { records := rs, code := (formatCheck s.store.working rs).1, faultReel := (formatCheck s.store.working rs).2 } }

/-- A timer that is read back with whole periods left. -/
def left (n : Nat) : TimeLeft := { periods := n, phase := .whole }

/-- A projector unit in a state, at a film position, with its motor and dowser as R59 has them. -/
def projAt (st : ProjectorState) (f : Nat) : Projector :=
  { Projector.powerOn .closed .closed with
    state := st, f := f, rate := if st.moving then 48 else 0, motorRunning := st.moving
    dowserOpen := decide (st = .onScreen)
    inchCount := if st = .inching then 1 else 0, inchTimer := if st = .inching then some 1 else none
    runUpTimer := if st = .starting then some 1 else none }

/-- A lamp unit in a state, with a rod of 200 mm. -/
def lampAt (st : LampState) : Lamp :=
  { Lamp.powerOn with
    state := st, rectifierClosed := decide (st ≠ .dark), iset := if st = .dark then 0 else 80
    strikerClosed := decide (st = .striking), attempt := if st = .striking then 1 else 0
    stock := 200000, rodValid := true
    settlingTimer := if st = .settling then some 1 else none
    attemptTimer := if st = .striking then some 1 else none
    warmTimer := if st = .warming then some (left 1) else none
    feedClock := if st = .warming ∨ st = .lit then some 1 else none }

/-- A shutter held UP. -/
def upShutter : Shutter :=
  { state := .up, latchHolding := true, motorRunning := false, fallTimer := none, raiseTimer := none }

/-- The house of chapter 12 with its shutters UP: reel 1 on A and reel 2 on B, each bound as its projector's state asks. -/
def booth (auto : Automation) (a b : ProjectorState) (la lb : LampState) : State :=
  listed [reel 1 .a (a.recordStatus.getD .waiting), reel 2 .b (b.recordStatus.getD .waiting)]
    { State.reset with
      proj := { a := projAt a 200, b := projAt b 200 }
      lamp := { a := lampAt la, b := lampAt lb }
      seq := { State.reset.seq with automation := auto }
      fire := { State.reset.fire with a := upShutter, b := upShutter, observation1 := upShutter, observation2 := upShutter } }

/-- A show under way: A ON_SCREEN with both lamps LIT. -/
def show_ (b : ProjectorState) : State := booth .engaged .onScreen b .lit .lit

/-- A countdown in order. -/
def ordered (n t : Nat) (overrun : Bool) : Countdown :=
  { state := .ordered, n := some n, t := some t, overrun := overrun, unordered := false, inexact := false
    saturated := false, raised := false }

/-- A state with a countdown record. -/
def counting (c : Countdown) (s : State) : State := s.onSeq fun q => { q with countdown := c }

/-- A good character: its parity bit makes the ones even, and its stop bit is at mark. -/
def good (v : Nat) : SlotCharacter :=
  { value := BitVec.ofNat 8 v, parityBit := decide (((List.range 8).countP fun i => v.testBit i) % 2 = 1)
    stopBit := true }

/-- A slot of good characters. -/
def slotOf : List Nat → Slot
  | [] => .noStartBit
  | v :: rest => .characters (good v) (rest.map good)

/-- Readings the same for both lamps. -/
def readings (i v : Nat) : Readings := { amperes := { a := i, b := i }, volts := { a := v, b := v } }

/-! ### WellFormed -/

/-- A reel entry that every check accepts, at the top of each field. -/
def entryTop : ReelEntry :=
  { reel := 255, projector := 3, endFrame := 131071, leader := 511, last := true, intermission := true }

/-- Each check refuses a target, a field or a reading one past its range. -/
theorem test_wellFormed_refuses :
    [Instr.inquire 0 (.setting 0) 1, .inquire 0 (.setting 46) 1, .inquire 0 (.unknown 10) 1,
      .inquire 0 (.unknown 65) 1, .inquire 0 (.unknown 109) 1, .inquire 0 (.unknown 256) 1, .inquire 0 .house 256,
      .read 0 .house 256, .readReel 0 .reels 256, .readConditions 0 .noTarget 256 1,
      .readConditions 0 .noTarget 1 256, .setMode 0 .house 256, .setValueHouse 0 .house 256 0,
      .setValueHouse 0 .house 0 65536, .setValueArc 0 .a 256, .setValueSetting 0 46 0, .setValueSetting 0 1 65536,
      .setTarget 0 .house 256 0, .setTarget 0 .house 0 65536, .newRod 0 (.arc .a) 65536,
      .load 0 (.proj .a) 256 0, .load 0 (.proj .a) 1 16777216, .inch 0 (.proj .a) 256].all
      (fun c => !c.wellFormed) = true := by decide

theorem test_wellFormed_refuses_lists :
    [Instr.add 0 .reels { entryTop with reel := 256 }, .add 0 .reels { entryTop with projector := 4 },
      .add 0 .reels { entryTop with endFrame := 131072 }, .add 0 .reels { entryTop with leader := 512 },
      .insert 0 .reels 256 entryTop, .insert 0 .reels 1 { entryTop with leader := 512 }, .remove 0 .reels 256,
      .reelCue 0 .reels 256 1 0 0 0, .reelCue 0 .reels 1 256 0 0 0, .reelCue 0 .reels 1 1 65536 0 0,
      .reelCue 0 .reels 1 1 0 256 0, .reelCue 0 .reels 1 1 0 0 65536, .skipReel 0 .reels 256].all
      (fun c => !c.wellFormed) = true := by decide

theorem test_wellFormed_refuses_targets :
    [Target.setting 46, .unknown 10].all (fun t =>
      [Instr.strike 0 t, .extinguish 0 t, .unload 0 t, .start 0 t, .stop 0 t, .openDowser 0 t, .swap 0 t,
        .clearList 0 t, .repeatShow 0 t, .engage 0 t, .disengage 0 t, .startShow 0 t, .resume 0 t,
        .generalReset 0 t, .stopAll 0 t, .alert 0 t, .fireClear 0 t, .drop 0 t, .fireAck 0 t, .read 0 t 1,
        .readReel 0 t 1, .readConditions 0 t 1 1, .setMode 0 t 0, .setTarget 0 t 0 0, .newRod 0 t 50,
        .load 0 t 1 0, .inch 0 t 1, .add 0 t entryTop, .insert 0 t 1 entryTop, .remove 0 t 1, .skipReel 0 t 1,
        .reelCue 0 t 1 1 0 0 0, .clearConditions 0 t 1, .lockStation 0 t 1, .unlockStation 0 t 1, .raise 0 t 1,
        .loadPreset 0 t 1, .savePreset 0 t 1].all (fun c => !c.wellFormed)) = true := by decide

theorem test_wellFormed_refuses_events :
    [Instr.clearConditions 0 .noTarget 256, .lockStation 0 .noTarget 256, .unlockStation 0 .noTarget 256,
      .raise 0 .shutters 256, .loadPreset 0 .presets 256, .savePreset 0 .presets 256, .arcEstablished .a 201,
      .attemptTimerExpiry .a 201, .arcLoss .a 201, .feedInterval .a 1000 0, .feedInterval .a 0 201,
      .linePeriodBoundary { amperes := { a := 201, b := 0 }, volts := { a := 0, b := 0 } },
      .linePeriodBoundary { amperes := { a := 0, b := 201 }, volts := { a := 0, b := 0 } },
      .linePeriodBoundary { amperes := { a := 0, b := 0 }, volts := { a := 1000, b := 0 } },
      .linePeriodBoundary { amperes := { a := 0, b := 0 }, volts := { a := 0, b := 1000 } },
      .requestSlot 0 (slotOf [1, 2, 3, 4, 5, 6, 7, 8, 9, 10, 11, 12])].all (fun c => !c.wellFormed) = true := by decide

theorem test_wellFormed_accepts_the_tops :
    [Instr.inquire 5 (.setting 45) 255, .inquire 5 (.unknown 64) 1, .inquire 0 (.unknown 110) 1,
      .setValueHouse 0 .aisle 255 65535, .load 0 (.proj .b) 255 16777215, .add 0 .reels entryTop,
      .arcLoss .b 200, .feedInterval .b 999 200, .linePeriodBoundary (readings 200 999),
      .requestSlot 0 (slotOf [1, 2, 3, 4, 5, 6, 7, 8, 9, 10, 11])].all Instr.wellFormed = true := by decide

/-! ### The codes and the table word -/

/-- The opcode table gives no row any bits (log entry 2). -/
theorem test_no_word_spells_a_command : decodeTableWord 16 24 = none := rfl

/-- 11.6: the characters of LOAD(A, 3, 15,000) and of ADD(1, A, E 28,800, P 192) spell those commands. -/
theorem test_characters_of_load_and_add :
    (slotEntry 0 (good 24) ([5, 3, 0, 58, 152, 0, 0, 0, 14].map good)).command 0 = some (.load 0 (.proj .a) 3 15000)
      ∧ (slotEntry 2 (good 32) ([9, 1, 1, 112, 128, 192, 0, 0, 37].map good)).command 2
        = some (.add 2 .reels
            { reel := 1, projector := 1, endFrame := 28800, leader := 192, last := false, intermission := false })
      ∧ (slotEntry 0 (good 24) ([5, 3, 0, 58, 152, 0, 0, 0, 14].map good)).bad = false := by decide

/-- R181: the second entry character holds bit 8 of P, bit 16 of E and both flags. -/
theorem test_entry_flags :
    dataEntry [9, 2 + 4 + 8 + 128, 0, 1, 2] 1
      = { reel := 9, projector := 2, endFrame := 65537, leader := 258, last := false, intermission := true } := by
  decide

/-- R184: the codes of kinds and targets, and the codes between them that name none. -/
theorem test_codes :
    Kind.ofCode 43 = some .resume ∧ Kind.ofCode 65 = some .savePreset ∧ Kind.ofCode 5 = none
      ∧ Target.ofCode 10 = .presets ∧ Target.ofCode 64 = .unknown 64 ∧ Target.ofCode 65 = .setting 1
      ∧ Target.ofCode 109 = .setting 45 ∧ Target.ofCode 110 = .unknown 110 := by decide

/-- R179: a parity error is an odd count of ones in data and parity bit, a framing error a stop bit at space. -/
theorem test_character_errors :
    [(24, false, true), (24, true, true), (25, true, false), (0, false, true), (255, true, true)].map
        (fun x => let c : SlotCharacter := { value := BitVec.ofNat 8 x.1, parityBit := x.2.1, stopBit := x.2.2 }
          (c.parityError, c.framingError))
      = [(false, false), (true, false), (false, true), (false, false), (true, false)] := by decide

/-! ### Arithmetic: the worked cases of chapters 3, 5 and 6 -/

/-- 5.8: T under NEAREST, EARLY and LATE. -/
theorem test_countdown_cases :
    [(27613, 47), (27610, 48), (27606, 48), (27618, 48), (28080, 48), (28900, 48), (20000, 30)].map
        (fun x => [0, 1, 2].map fun m => (evaluate x.1 28800 x.2 32 m false).t)
      = [[some 505, some 505, some 506], [some 496, some 495, some 496], [some 498, some 497, some 498],
          [some 492, some 492, some 493], [some 300, some 300, some 300], [some 0, some 0, some 0],
          [none, none, none]] := by decide

/-- 5.8: the two cases that reach the limit, with the SATURATED mark. -/
theorem test_countdown_saturates :
    ([0, 1, 2].map fun m => (evaluate 0 131071 20 16 m false).saturated) = [true, true, true]
      ∧ ([0, 1, 2].map fun m => (evaluate 7801 28800 42 32 m false).saturated) = [true, false, true]
      ∧ (evaluate 7801 28800 42 32 1 false).t = some 9999 := by decide

/-- 5.10: the three worked rod needs. -/
theorem test_rod_needs :
    rodNeed (reel 1 .a .waiting) LampSettings.factory = 127280
      ∧ rodNeed { reel 1 .a .waiting with endFrame := 28792 } { LampSettings.factory with inom := 75 } = 121292
      ∧ rodNeed { reel 1 .a .waiting with endFrame := 131071, leader := 0 }
          { LampSettings.factory with inom := 160, burn := 40, reserve := 100 } = 999999 := by decide

/-- 6.12: the regulator over six intervals. -/
theorem test_regulator :
    ([574, 530, 547, 565, 700, 400].map fun v => (regulate LampSettings.factory v 78).f)
        = [109, 43, 69, 88, 160, 0]
      ∧ (regulate LampSettings.factory 700 78).highLimit = true
      ∧ (regulate LampSettings.factory 400 78).lowLimit = true := by decide

/-- 6.12: the stock and the carry after the second interval. -/
theorem test_two_intervals :
    let x := ({ lampAt .lit with f := 109, stock := 100000 }).fedOnce
    x.stock = 99946 ∧ x.carry = 1 ∧ ({ x with f := 43 }).fedOnce.stock = 99924
      ∧ ({ x with f := 43 }).fedOnce.carry = 0 := by decide

/-- 3.8: the motor leads of leaders 192 and 480, and the format codes of steps 1, 2, 6 and of the empty list. -/
theorem test_format_codes :
    motorLead (reel 1 .b .waiting) Settings.factory = 95
      ∧ formatCheck Settings.factory [reel 1 .a .waiting] = (0, 0)
      ∧ formatCheck Settings.factory [reel 1 .a .waiting, reel 2 .a .waiting] = (2, 2)
      ∧ formatCheck Settings.factory [reel 3 .a .waiting, { reel 4 .b .waiting with leader := 480 }] = (5, 4)
      ∧ formatCheck Settings.factory [] = (1, 0) := by decide

/-- 2.10: 25 and 30 periods of a ramp from 1,600 to 0 in 100 tenths. -/
theorem test_ramp :
    (Light.advance^[25] (Light.reset.rampTo 0 100)).level = 1400
      ∧ (Light.advance^[25] (Light.reset.rampTo 0 100)).reported = 88
      ∧ (Light.advance^[30] (Light.reset.rampTo 0 100)).level = 1360 := by decide

/-! ### The authority table (R24) -/

/-- The rows of the table, each as its five columns. -/
theorem test_authority_table :
    ([Group.inquiry, .houseByHand, .houseTarget, .arc, .projector, .reelList, .skip, .show, .consoleControl,
        .emergencyStop, .drop, .firePanel, .fireReset, .settings].map fun g =>
      [Role.console, .house, .programmer, .fire, .observer, .absent].map g.allows)
      = [[true, true, true, true, true, false], [true, true, false, false, false, false],
          [false, false, true, false, false, false], [true, false, false, false, false, false],
          [true, false, false, false, false, false], [true, false, true, false, false, false],
          [true, false, false, false, false, false], [true, false, true, false, false, false],
          [true, false, false, false, false, false], [true, true, false, false, false, false],
          [true, false, false, true, false, false], [false, false, false, true, false, false],
          [true, false, false, false, false, false], [true, false, true, false, false, false]] := by decide

/-! ### The line and the request unit -/

/-- 11.6: the answer to LOAD(A, 3, 15,000), and its third character and check with the overrun note. -/
theorem test_answer_characters :
    answerChars { station := 0, kind := 24, status := .done, data := 0 } false = [1, 24, 0, 0, 0, 0, 0, 231]
      ∧ answerChars { station := 0, kind := 24, status := .done, data := 0 } true = [1, 24, 128, 0, 0, 0, 0, 103] := by
  decide

/-- R4, R5: a good INQUIRE joins its queue; the same with a false check is BAD and raises LINE_FAULT. -/
theorem test_request_slot :
    ((after (.requestSlot 0 (slotOf [1, 1, 4, 0, 0, 0, 0, 0, 0, 250])) State.reset).line.stations[0].queue.map Entry.bad)
        = [false]
      ∧ (after (.requestSlot 0 (slotOf [1, 1, 4, 0, 0, 0, 0, 0, 0, 251])) State.reset).attention = 14 := by decide

/-- 11.6, R13: a STOP_ALL from the house panel goes to the priority lane. -/
theorem test_priority_slot :
    ((after (.requestSlot 1 (slotOf [56, 0, 0, 0, 0, 0, 0, 0, 0, 200])) State.reset).line.lane.map Entry.kind) = [56] := by
  decide

/-- R6: an ABSENT station's request row is not taken: with 16 answers waiting its overrun mark stays clear. -/
theorem test_absent_row :
    let full := State.reset.onLine fun u =>
      { u with replies := List.replicate 16 { station := 0, kind := 1, status := .done, data := 0 } }
    after (.stopAll 5 .noTarget) full = full ∧ after (.drop 4 .shutters) full = full
      ∧ after (.strike 5 (.arc .a)) State.reset = State.reset
      ∧ (after (.stopAll 2 .noTarget) full).line.stations[(2 : Station)].overrun = true := by decide

/-- R19. -/
theorem test_line_break :
    (after .lineBreak State.reset).attention = 14 ∧ (after .lineBreak State.reset).current .lineFault = true
      ∧ (after .lineBreakEnd (after .lineBreak State.reset)).current .lineFault = false := by decide

/-- A house whose first station has an INQUIRE waiting and whose third has one of an unknown kind. -/
def waiting : State :=
  (State.reset.onStation 0 fun x =>
    x.withQueue [{ station := 0, bad := false, kind := 1, target := 8, data := [4, 0, 0, 0, 0, 0, 0] }]).onStation 2
      fun x => x.withQueue [{ station := 2, bad := false, kind := 5, target := 0, data := [0, 0, 0, 0, 0, 0, 0] }]

/-- R17, R18: after power-on the first taking looks at station 1; the next goes on from there. -/
theorem test_take_entry :
    (after .takeEntry waiting).rotation = 0 ∧ answer (after .takeEntry waiting) = some (.done, 0)
      ∧ (after .takeEntry (after .takeEntry waiting)).rotation = 2
      ∧ answer (after .takeEntry (after .takeEntry waiting)) = some (.refusedFormat, 0) := by decide

/-- R13, R146: a DROP of the fire panel waiting in the lane is taken. -/
theorem test_take_priority_entry :
    let s := { State.reset with
      line := { State.reset.line with
        lane := [{ station := 3, bad := false, kind := 57, target := 7, data := [0, 0, 0, 0, 0, 0, 0] }] } }
    (after .takePriorityEntry s).fire.state = .dropped ∧ (after .takePriorityEntry s).line.lane = []
      ∧ answer (after .takePriorityEntry s) = some (.done, 0) := by decide

/-- R180: the frame after reset: sync, no tags, attention 0, both channels reported 100, and the check. -/
theorem test_boundary_frame :
    (after (.linePeriodBoundary (readings 0 0)) State.reset).line.frame.map BitVec.toNat
      = [150, 0, 0, 0, 0, 0, 100, 100, 0, 0, 0, 0, 0, 0, 0, 0, 0, 0, 0, 0, 0, 0, 162] := by decide

/-- 4.11: at F 28,080 and RATE 48 the cue window opens with T 300, and at F 28,320 the strike test is met with T 200. -/
theorem test_boundary_tests :
    let at_ := fun f => ({ booth .engaged .onScreen .threaded .lit .dark with
      proj := { a := { projAt .onScreen f with window := List.replicate 39 1, pulses := 9 }, b := projAt .threaded 0 } })
    (after (.linePeriodBoundary (readings 80 560)) (at_ 28080)).proj.a.windowOpen = true
      ∧ (after (.linePeriodBoundary (readings 80 560)) (at_ 28080)).lamp.b.state = .dark
      ∧ (after (.linePeriodBoundary (readings 80 560)) (at_ 28320)).lamp.b.state = .settling
      ∧ (after (.linePeriodBoundary (readings 80 560)) (at_ 28320)).seq.countdown.t = some 200 := by decide

/-- A on the screen with its lamp's tenth low reading due, B at the end of its reel and ready. -/
def emergency : State :=
  let s := (show_ .running).onLamp .a fun x => { x with lowCurrent := 9 }
  counting (ordered 7 3 false)
    { s with
      proj := {
        a := { projAt .onScreen 200 with window := List.replicate 39 1, pulses := 9 }
        b := { projAt .running 28800 with window := List.replicate 39 1, pulses := 9 } } }

/-- The readings of an arc out at A. -/
def arcOut : Readings := { amperes := { a := 29, b := 80 }, volts := { a := 560, b := 560 } }

/-- R73, R78, 4.7: an emergency swap at a boundary: its tests and the new record's evaluation are first made at the next. -/
theorem test_emergency_swap_at_a_boundary :
    let s := after (.linePeriodBoundary arcOut) emergency
    s.proj.b.state = .onScreen ∧ s.attention = 3 ∧ s.seq.countdown = emergency.seq.countdown
      ∧ s.seq.swapReached = false ∧ s.line.frame[9]? = some 3
      ∧ (after (.linePeriodBoundary arcOut) s).seq.countdown.overrun = true := by decide

/-- R176: an open link at power-on, and a store that does not agree with its check. -/
theorem test_power_on :
    let sensed : PowerOnSensed :=
      { role1 := .console, role2 := .fire, role3 := .absent, role4 := .absent, role5 := .absent, role6 := .absent
        link := .opened, downA := .closed, downB := .opened, downObservation1 := .closed
        downObservation2 := .closed, filmLoss := { a := .closed, b := .closed }
        gate := { a := .closed, b := .closed }, storeAgrees := false }
    (after (.powerOn sensed) State.reset).fire.state = .dropped
      ∧ (after (.powerOn sensed) State.reset).fire.b.state = .jammed
      ∧ ((after (.powerOn sensed) State.reset).record .storeLost).accrued = true := by decide

/-! ### Inquiries, modes and values -/

/-- R6, R31, R32: the house's VALUE, a part it does not have and an item of the list; an ABSENT station asks nothing. -/
theorem test_inquiries :
    after (.inquire 4 .house 4) State.reset = State.reset
      ∧ answer (after (.inquire 1 .house 4) State.reset) = some (.done, 100)
      ∧ answer (after (.inquire 1 .house 5) State.reset) = some (.refusedRange, 1)
      ∧ answer (after (.read 0 .reels 2) State.reset) = some (.done, 1) := by decide

/-- R183: the summary of an unbound first record on A with E 28,800, and a number that names no record. -/
theorem test_read_reel :
    answer (after (.readReel 2 .reels 1) (listed [reel 1 .a .waiting] State.reset)) = some (.done, 16806016)
      ∧ answer (after (.readReel 2 .reels 2) (listed [reel 1 .a .waiting] State.reset)) = some (.refusedRange, 1) := by
  decide

/-- R87, R178, R183: right after a SWAP a DOUSE of 50 tenths reads 50, and right after SAVE_PRESET the timer of 1.0 s 10. -/
theorem test_readings_right_after_the_start :
    answer (after (.read 0 .automation 4) (after (.swap 0 (.proj .b)) (show_ .running)))
        = some (.done, 50 * 65536 + 65535)
      ∧ answer (after (.read 0 .presets 3) (after (.savePreset 0 .presets 1) State.reset)) = some (.done, 10) := by
  decide

/-- R162: the two sets after a line break, and a part out of range. -/
theorem test_read_conditions :
    answer (after (.readConditions 0 .noTarget 0 0) (after .lineBreak State.reset))
        = some (.done, 8192 * 65536 + 8192)
      ∧ answer (after (.readConditions 0 .noTarget 14 3) State.reset) = some (.refusedRange, 2) := by decide

/-- 2.10, steps 1 and 2; and the trim of a lamp that is not LIT (R33). -/
theorem test_set_mode :
    answer (after (.setTarget 2 .house 0 100) State.reset) = some (.heldManual, 100)
      ∧ (after (.setMode 0 .house 1) State.reset).lights.house.mode = .auto
      ∧ answer (after (.setMode 0 (.arc .a) 2) State.reset) = some (.refusedState, 0)
      ∧ answer (after (.setMode 0 .house 2) State.reset) = some (.refusedRange, 1) := by decide

/-- 2.10, steps 3, 6 and 7: the step of the ramp, and the clamp of a level of 130. -/
theorem test_light_values :
    (after (.setTarget 2 .house 0 100) (after (.setMode 0 .house 1) State.reset)).lights.house.step = some 8
      ∧ (after (.setValueHouse 1 .house 50 0) State.reset).lights.house.level = 800
      ∧ answer (after (.setValueHouse 0 .house 130 0) State.reset) = some (.clamped, 100)
      ∧ answer (after (.setValueHouse 1 .aisle 10 0) State.reset) = some (.clamped, 15) := by decide

/-- R35, R37: the manual rate, clamped to FMAX; the programmer may not set it. -/
theorem test_manual_rate :
    (after (.setValueArc 0 .b 70) State.reset).store.working.lamp.b.manualRate = 70
      ∧ answer (after (.setValueArc 0 .a 255) State.reset) = some (.clamped, 160)
      ∧ answer (after (.setValueSetting 2 14 70) State.reset) = some (.refusedRole, 0) := by decide

/-- 10.7: RUNUP tried at 36 and at 37 during a show with an incoming leader of 200, and INOM of B brought up to 40. -/
theorem test_settings :
    let s := listed [reel 1 .a .waiting, { reel 2 .b .waiting with leader := 200 }]
      { State.reset with seq := { State.reset.seq with automation := .engaged } }
    answer (after (.setValueSetting 0 2 37) s) = some (.refusedState, 5)
      ∧ answer (after (.setValueSetting 0 2 36) s) = some (.done, 0)
      ∧ answer (after (.setValueSetting 0 22 30) s) = some (.clamped, 40)
      ∧ (after (.setValueSetting 0 22 30) s).store.working.lamp.b.imin = 40 := by decide

/-! ### Lamps -/

/-- R105: the settling timer of 2.0 s, started between boundaries. -/
theorem test_strike :
    (after (.strike 0 (.arc .a)) (booth .off .idle .idle .dark .dark)).lamp.a.state = .settling
      ∧ (after (.strike 0 (.arc .a)) (booth .off .idle .idle .dark .dark)).lamp.a.iset = 80
      ∧ answer (after (.strike 0 (.arc .a)) State.reset) = some (.refusedState, 0) := by decide

/-- R86: putting out the lamp of the projector on the screen. -/
theorem test_extinguish :
    (after (.extinguish 0 (.arc .a)) (show_ .running)).proj.a.state = .running
      ∧ (after (.extinguish 0 (.arc .a)) (show_ .running)).proj.a.dowserOpen = false
      ∧ (after (.extinguish 0 (.arc .a)) (show_ .running)).attention = 0 := by decide

/-- R122. -/
theorem test_new_rod :
    (after (.newRod 0 (.arc .b) 500) State.reset).lamp.b.stock = 500000
      ∧ answer (after (.newRod 0 (.arc .b) 601) State.reset) = some (.refusedRange, 1) := by decide

/-! ### Projectors -/

/-- 3.8, steps 16 and 17: only the next record for a projector is loaded while ENGAGED. -/
theorem test_load :
    let s := listed [reel 1 .a .waiting, reel 2 .b .waiting, reel 3 .a .waiting]
      { State.reset with seq := { State.reset.seq with automation := .engaged } }
    answer (after (.load 0 (.proj .a) 3 0) s) = some (.refusedState, 0)
      ∧ (after (.load 0 (.proj .a) 1 131071) s).proj.a.f = 131071
      ∧ answer (after (.load 0 (.proj .a) 1 131072) s) = some (.refusedRange, 2) := by decide

/-- R47: the record of a THREADED projector returns to WAITING. -/
theorem test_unload :
    ((after (.unload 0 (.proj .b)) (show_ .threaded)).reels.records.map Reel.status) = [.showing, .waiting]
      ∧ answer (after (.unload 0 (.proj .a)) (show_ .threaded)) = some (.refusedState, 0) := by decide

theorem test_inch_and_start :
    (after (.inch 0 (.proj .b) 255) (show_ .threaded)).proj.b.inchCount = 255
      ∧ answer (after (.inch 0 (.proj .b) 0) (show_ .threaded)) = some (.refusedRange, 1)
      ∧ (after (.start 0 (.proj .b)) (show_ .inching)).proj.b.state = .starting
      ∧ answer (after (.start 0 (.proj .b)) (show_ .running)) = some (.refusedState, 0) := by decide

theorem test_stop :
    (after (.stop 0 (.proj .a)) (show_ .running)).proj.a.state = .threaded
      ∧ ((after (.stop 0 (.proj .a)) (show_ .running)).reels.records.map Reel.status) = [.bound, .running]
      ∧ answer (after (.stop 0 (.proj .a)) State.reset) = some (.refusedState, 0) := by decide

/-- 4.11: the swap to a ready projector, with the douse timer of the lamp given up. -/
theorem test_open_and_swap :
    (after (.swap 0 (.proj .b)) (show_ .running)).proj.b.state = .onScreen
      ∧ (after (.swap 0 (.proj .b)) (show_ .running)).proj.a.state = .runout
      ∧ (after (.swap 0 (.proj .b)) (show_ .running)).seq.douse.a = some { periods := 101, phase := .fresh }
      ∧ answer (after (.openDowser 0 (.proj .b)) (show_ .running)) = some (.refusedState, 0) := by decide

/-! ### The reel list, automation, the console -/

/-- 3.8, steps 1, 2 and 9. -/
theorem test_edits :
    let x : ReelEntry :=
      { reel := 1, projector := 1, endFrame := 28800, leader := 192, last := false, intermission := false }
    let s := after (.add 2 .reels x) State.reset
    answer s = some (.done, 0) ∧ answer (after (.add 2 .reels { x with reel := 2 }) s) = some (.done, 2)
      ∧ answer (after (.add 2 .reels x) s) = some (.refusedRange, 1)
      ∧ answer (after (.reelCue 2 .reels 1 1 3000 40 100) s) = some (.refusedRange, 3) := by decide

theorem test_more_edits :
    let s := listed [reel 1 .a .waiting, reel 2 .b .shown] State.reset
    ((after (.insert 0 .reels 1
        { reel := 3, projector := 2, endFrame := 28800, leader := 192, last := false, intermission := false })
          s).reels.records.map Reel.number) = [3, 1, 2]
      ∧ ((after (.remove 0 .reels 1) s).reels.records.map Reel.number) = [2]
      ∧ ((after (.repeatShow 0 .reels) s).reels.records.map Reel.status) = [.waiting, .waiting]
      ∧ (after (.clearList 0 .reels) s).reels.records = []
      ∧ answer (after (.skipReel 2 .reels 1) s) = some (.refusedRole, 0)
      ∧ answer (after (.skipReel 0 .reels 2) s) = some (.refusedState, 0)
      ∧ answer (after (.skipReel 0 .reels 1) s) = some (.done, 1) := by decide

theorem test_automation :
    answer (after (.engage 2 .automation) State.reset) = some (.refusedState, 1)
      ∧ (after (.disengage 0 .automation) (show_ .threaded)).seq.automation = .off
      ∧ (after (.startShow 2 .automation) (booth .engaged .threaded .idle .dark .dark)).proj.a.startPending = true
      ∧ (after (.resume 0 .automation) (booth .halted .idle .idle .dark .dark)).seq.automation = .engaged := by decide

/-- R163, R27, 2.11. -/
theorem test_console :
    answer (after (.clearConditions 0 .noTarget 14) (after .lineBreak State.reset)) = some (.refusedState, 0)
      ∧ (after (.lockStation 0 .noTarget 3) State.reset).line.stations[2].locked = true
      ∧ answer (after (.lockStation 0 .noTarget 4) State.reset) = some (.refusedState, 0)
      ∧ answer (after (.unlockStation 0 .noTarget 7) State.reset) = some (.refusedRange, 1) := by decide

theorem test_general_reset :
    answer (after (.generalReset 0 .noTarget) (show_ .threaded)) = some (.refusedState, 0)
      ∧ (after (.generalReset 0 .noTarget) (booth .halted .threaded .idle .lit .dark)).lamp.a.stock = 200000
      ∧ (after (.generalReset 0 .noTarget) (booth .halted .threaded .idle .lit .dark)).reels.code = 1 := by decide

/-- 7.9: STOP_ALL sets the house to the INTERMISSION level. -/
theorem test_stop_all :
    (after (.stopAll 1 .noTarget) (show_ .running)).lights.house.level = 960
      ∧ (after (.stopAll 1 .noTarget) (show_ .running)).proj.a.state = .threaded
      ∧ (after (.stopAll 1 .noTarget) (show_ .running)).seq.automation = .halted := by decide

/-! ### Fire and presets -/

/-- 8.6: what an opening of the link leaves. -/
theorem test_fire_link_open :
    (after .fireLinkOpen (show_ .running)).fire.a.state = .falling
      ∧ (after .fireLinkOpen (show_ .running)).proj.b.state = .threaded
      ∧ (after .fireLinkOpen (show_ .running)).lamp.a.state = .dark
      ∧ (after .fireLinkOpen (show_ .running)).lights.aisle.level = 1600
      ∧ (after .fireLinkOpen (show_ .running)).attention = 1 := by decide

theorem test_fire_requests :
    (after (.alert 3 .shutters) State.reset).fire.state = .alert
      ∧ answer (after (.fireClear 3 .shutters) State.reset) = some (.refusedState, 0)
      ∧ (after (.fireClear 3 .shutters) (after (.drop 3 .shutters) State.reset)).fire.state = .resetPending
      ∧ answer (after (.fireAck 3 .shutters) State.reset) = some (.refusedRole, 0)
      ∧ (after (.raise 0 .shutters 3) State.reset).fire.observation1.state = .raising := by decide

/-- R148: with a FIRE station an intact link does not clear the drop; without one its closing is recorded, and the boundary
that finds it intact clears it. -/
theorem test_fire_link_intact :
    let closed := fun n => after .fireLinkIntact
      (after .fireLinkOpen (State.reset.onFire fun u => { u with stations := n }))
    (after .fireLinkIntact (closed 1)).fire.state = .dropped ∧ (closed 0).fire.state = .dropped
      ∧ (closed 0).fire.link = .intact ∧ (after .fireLinkIntact (closed 0)).fire.state = .resetPending
      ∧ (after (.linePeriodBoundary (readings 0 0)) (closed 0)).fire.state = .resetPending
      ∧ (after (.linePeriodBoundary (readings 0 0)) (closed 1)).fire.state = .dropped := by decide

theorem test_shutters :
    (after (.shutterUpSwitch .b) (after (.raise 0 .shutters 2) State.reset)).fire.b.latchHolding = true
      ∧ (after (.shutterDownSwitch .a) (after .fireLinkOpen (show_ .running))).fire.a.state = .down
      ∧ (after (.shutterLatchLetGo .a) (show_ .running)).proj.a.state = .running
      ∧ (after (.shutterLatchLetGo .a) (show_ .running)).attention = 7 := by decide

theorem test_shutter_timers :
    let s := State.reset.onShutter .a fun x => { x with state := .falling, fallTimer := some 1 }
    let u := State.reset.onShutter .b fun x => { x with state := .raising, motorRunning := true, raiseTimer := some 1 }
    (after (.fallTimerExpiry .a) s).fire.a.state = .jammed ∧ (after (.raiseTimerExpiry .b) u).fire.b.state = .jammed
      ∧ (after (.raiseTimerExpiry .b) s) = s := by decide

/-- 10.8: a save keeps the image taken, and the store is busy until its timer expires. -/
theorem test_presets :
    let s := after (.savePreset 0 .presets 2) State.reset
    answer (after (.loadPreset 0 .presets 1) s) = some (.refusedBusy, 0)
      ∧ answer (after (.savePreset 0 .presets 0) State.reset) = some (.refusedRange, 1)
      ∧ (after .saveTimerExpiry (s.onStore fun x => { x with save := x.save.map fun j => { j with timer := left 1 } })).store
          = { Store.factory with startChannel := 2 } := by decide

/-! ### Events -/

theorem test_pulses :
    (after (.tachometerPulse .a) (booth .off .inching .idle .dark .dark)).proj.a.state = .threaded
      ∧ (after (.tachometerPulse .a) (booth .off .inching .idle .dark .dark)).proj.a.f = 201
      ∧ (after (.tachometerPulse .a) State.reset).proj.a.f = 0 := by decide

theorem test_inch_and_run_up_timers :
    (after (.inchDone .a) (booth .off .inching .idle .dark .dark)).proj.a.state = .inching
      ∧ (after (.inchTimerExpiry .a) (booth .off .inching .idle .dark .dark)).attention = 9
      ∧ (after (.runUpDone .a) (booth .off .starting .idle .dark .dark)).proj.a.state = .running
      ∧ (after (.runUpTimerExpiry .a)
          ((booth .off .starting .idle .dark .dark).onProj .a fun x => { x with rate := 43 })).attention = 9 := by decide

/-- 4.11: the second mark at F 28,772 sets Em and takes the swap. -/
theorem test_cue_mark :
    let s := (show_ .running).onProj .a fun x => { x with f := 28772, windowOpen := true, marks := 1 }
    (after (.cueMark .a) s).proj.b.state = .onScreen
      ∧ (after (.cueMark .a) s).reels.records.map Reel.measuredEnd = [some 28772, none]
      ∧ (after (.cueMark .b) (show_ .running)).attention = 13 := by decide

/-- 4.12: the incoming lamp still WARMING at the swap point. -/
theorem test_swap_point :
    let s := counting (ordered 0 0 true) (booth .engaged .onScreen .running .lit .warming)
    (after .swapPoint s).attention = 5 ∧ (after .swapPoint s).seq.swapDue = true
      ∧ (after .swapPoint s).seq.automation = .halted
      ∧ (after .lateSwap ((show_ .running).onSeq fun q => { q with swapDue := true })).proj.b.state = .onScreen := by
  decide

theorem test_lead_tests :
    let s := counting (ordered 480 200 false) (booth .engaged .onScreen .threaded .lit .dark)
    (after .strikeTest s).lamp.b.state = .settling
      ∧ (after .strikeTest (s.onLamp .b fun x => { x with stock := 120000 })).seq.withholding
        = some { lamp := .b, reel := 2, outgoing := some .a }
      ∧ (after .motorTest s) = s
      ∧ (after .motorTest (counting (ordered 229 95 false) s)).proj.b.state = .starting := by decide

theorem test_show_start :
    let pending := fun (s : State) => s.onProj .a fun x => { x with startPending := true }
    (after (.showStartStrike .a) (pending (booth .engaged .threaded .idle .dark .dark))).lamp.a.state = .settling
      ∧ (after (.showStartFadeAndMotor .a) (pending (booth .engaged .threaded .idle .lit .dark))).proj.a.state
        = .starting
      ∧ (after (.showStartOpen .a) (pending (booth .engaged .running .idle .lit .dark))).proj.a.state = .onScreen := by
  decide

/-- 9.8: a house cue of point 600, level 20 and ramp 100 is reached at N 460, in a step of 2. -/
theorem test_house_cue :
    let s := counting (ordered 460 192 false)
      { show_ .threaded with
        reels := { records := [{ reel 1 .a .showing with cue := some { point := 600, level := 20, ramp := 100 } },
          reel 2 .b .bound], code := 0, faultReel := 0 }
        lights := { house := { level := 0, target := 0, step := none, mode := .auto }, aisle := Light.reset } }
    (after .houseCueReached s).lights.house.step = some 2 ∧ (after .houseCueReached s).lights.house.target = 320 := by
  decide

theorem test_douse :
    let s := (booth .engaged .runout .onScreen .lit .lit).onSeq fun q =>
      { q with douse := { a := some (left 1), b := none } }
    (after (.douseTimerExpiry .a) s).lamp.a.state = .dark ∧ (after (.douseTimerExpiry .b) s) = s := by decide

/-- 6.11: attempts, their failure and the arc established. -/
theorem test_strike_course :
    (after (.settlingTimerExpiry .a) (booth .off .idle .idle .settling .dark)).lamp.a.attempt = 1
      ∧ (after (.attemptTimerExpiry .a 29) (booth .off .idle .idle .striking .dark)).lamp.a.waitTimer = some 41
      ∧ (after (.arcEstablished .a 30) (booth .off .idle .idle .striking .dark)).lamp.a.warmTimer
        = some { periods := 161, phase := .fresh }
      ∧ (after (.warmTimerExpiry .a) (booth .off .idle .idle .warming .dark)).lamp.a.state = .lit := by decide

theorem test_third_attempt :
    let s := (booth .off .idle .idle .striking .dark).onLamp .a fun x => { x with attempt := 3 }
    (after (.attemptTimerExpiry .a 29) s).attention = 8 ∧ (after (.attemptTimerExpiry .a 29) s).lamp.a.attempt = 3
      ∧ (after (.waitTimerExpiry .a)
          (s.onLamp .a fun x => { x with attempt := 1, attemptTimer := none, waitTimer := some 1 })).lamp.a.attempt = 2 := by
  decide

/-- R111, R86: the tenth low reading on the screen, with the other projector ready. -/
theorem test_arc_loss :
    let s := (show_ .running).onLamp .a fun x => { x with lowCurrent := 9 }
    (after (.arcLoss .a 29) s).proj.b.state = .onScreen ∧ (after (.arcLoss .a 29) s).attention = 3
      ∧ (after (.arcLoss .a 30) s) = s ∧ (after (.arcLoss .b 29) s) = s := by decide

/-- 6.14: a rod run out. -/
theorem test_feed_interval :
    let s := (booth .off .idle .idle .dark .lit).onLamp .b fun x => { x with stock := 30, carry := 1 }
    (after (.feedInterval .b 560 80) s).lamp.b.rodOut = true ∧ (after (.feedInterval .b 560 80) s).lamp.b.fed = 30 := by
  decide

theorem test_clamp_adjustments :
    let s := (booth .off .idle .idle .lit .dark).onLamp .a fun x =>
      { x with mode := .auto, highLimit := true, highClamp := 9, lowLimit := true, lowClamp := 9, iset := 61 }
    (after (.highClampAdjust .a) s).lamp.a.iset = 60 ∧ (after (.lowClampAdjust .a) s).lamp.a.iset = 62 := by decide

/-- 6.13, R120: the trim ends at the tenth interval within the deadband, with the base rate at the last current read, no
higher than FMAX, also when the rod is out and f is 0; or at the 120th. -/
theorem test_trim :
    let s := (booth .off .idle .idle .lit .dark).onLamp .a fun x =>
      { x with mode := .trim, f := 0, amperes := 83, rodOut := true, trimConverge := 9, trimIntervals := 119 }
    (after (.trimConverged .a) s).store.working.lamp.a.manualRate = 94
      ∧ (after (.trimConverged .a) (s.onLamp .a fun x => { x with amperes := 200 })).store.working.lamp.a.manualRate
        = 160
      ∧ (after (.trimFailed .a) s).store.working.lamp.a.manualRate = 90
      ∧ (after (.trimFailed .a) s).attention = 12 := by decide

/-- R151 to R154: a break before the end, a tail-out past it, a gate trip and a stall. -/
theorem test_film_protection :
    (after (.filmLossSwitch .a .opened) (show_ .threaded)).proj.a.state = .broken
      ∧ (after (.filmLossSwitch .a .opened)
          ((show_ .threaded).onProj .a fun x => { x with f := 28800 })).proj.a.state = .stopped
      ∧ (after (.gateThermalOpen .a .opened) (show_ .threaded)).attention = 4
      ∧ (after (.stallTrip .a)
          ((show_ .threaded).onProj .a fun x => { x with rate := 7, stall := 9 })).proj.a.state = .running := by decide

/-! ### Witnesses: for each statement that has hypotheses, a state and operands that meet them, clause by clause -/

/-- A station record whose queue holds entries. -/
def queued (n : Station) (es : List Entry) (s : State) : State := s.onStation n fun x => x.withQueue es

/-- An entry of a station. -/
def entryOf (n : Station) (bad : Bool) (kind target : Nat) (data : List Nat) : Entry :=
  { station := n, bad := bad, kind := kind, target := target, data := data }

/-- Answers waiting. -/
def answers (k : Nat) (s : State) : State :=
  s.onLine fun u =>
    { u with replies := List.replicate k { station := 0, kind := 1, status := .done, data := 0 } }

/-- A priority entry waiting in the lane. -/
def inLane (e : Entry) (s : State) : State := s.onLine fun u => { u with lane := [e] }

/-- The fire state alone set. -/
def fireAt (st : FireState) (s : State) : State := s.onFire fun u => { u with state := st }

theorem witness_StepRunsFrontCommand :
    ({ State.reset with pending := [.lineBreak, .takeEntry] }).pending = .lineBreak :: [.takeEntry] := by decide

theorem witness_RoleLockAndTargetJudgedInOrder :
    (requestOf (.setMode 0 (.proj .a) 0) = some (0, .setMode, .proj .a) ∧ State.reset.takes 0 .setMode = true
        ∧ groupOf .setMode (.proj .a) = none)
      ∧ (requestOf (.strike 1 (.arc .a)) = some (1, .strike, .arc .a) ∧ State.reset.takes 1 .strike = true
        ∧ groupOf .strike (.arc .a) = some .arc ∧ Group.arc.allows State.reset.line.stations[(1 : Station)].role = false)
      ∧ (let s := State.reset.onStation 2 fun x => { x with locked := true }
        requestOf (.engage 2 .automation) = some (2, .engage, .automation) ∧ s.takes 2 .engage = true
          ∧ groupOf .engage .automation = some .show ∧ Group.show.allows s.line.stations[(2 : Station)].role = true
          ∧ s.line.stations[(2 : Station)].locked = true ∧ Group.show ≠ .inquiry)
      ∧ (requestOf (.drop 0 .house) = some (0, .drop, .house) ∧ State.reset.takes 0 .drop = true
        ∧ groupOf .drop .house = some .drop ∧ Group.drop.allows State.reset.line.stations[(0 : Station)].role = true
        ∧ State.reset.line.stations[(0 : Station)].locked = false ∧ takesTarget .drop .house = false) := by decide

theorem witness_OnlyDoneAndClampedChangeTheState :
    requestOf (.strike 0 (.arc .a)) = some (0, .strike, .arc .a) ∧ State.reset.takes 0 .strike = true
      ∧ exec (.strike 0 (.arc .a)) State.reset = .next (State.reset.answered 0 .strike .refusedState 0)
      ∧ (answers 13 State.reset).takes 0 .generalReset = true
      ∧ (after (.generalReset 0 .noTarget) (answers 13 State.reset)).line.replies.length = 1 :=
  ⟨rfl, by decide, rfl, by decide, by decide⟩

theorem witness_OrdinaryRequestWaitsForRoom :
    requestOf (.strike 0 (.arc .a)) = some (0, .strike, .arc .a) ∧ isPriorityKind .strike = false
      ∧ (answers 14 State.reset).mayTake = false ∧ (answers 13 State.reset).mayTake = true
      ∧ (inLane (entryOf 1 false 56 0 []) State.reset).mayTake = false := by decide

theorem witness_TakenEntryIsTheCommandItSpells :
    (let e := entryOf 0 false 24 5 [3, 0, 58, 152, 0, 0, 0]
      let s := queued 0 [e] State.reset
      s.line.stations[(0 : Station)].role ≠ .absent ∧ s.mayTake = true ∧ s.nextStation = some 0
        ∧ s.line.stations[(0 : Station)].queue = [e] ∧ e.bad = false ∧ e.command 0 = some (.load 0 (.proj .a) 3 15000))
      ∧ (let e := entryOf 1 false 56 0 [0, 0, 0, 0, 0, 0, 0]
        State.reset.line.stations[e.station].role ≠ .absent ∧ (inLane e State.reset).line.lane = [e] ∧ e.priority = true
          ∧ e.command 1 = some (.stopAll 1 .noTarget)) := by decide

theorem witness_EntriesAreTakenInRotation :
    (let e := entryOf 5 true 1 1 []
      let s := queued 5 [e] State.reset
      s.mayTake = true ∧ (5 : Station) = s.rotation + 1 + 5
        ∧ (∀ i : Fin 6, i < 5 → s.line.stations[s.rotation + 1 + i].queue = [])
        ∧ s.line.stations[(5 : Station)].queue = [e] ∧ e.bad = true)
      ∧ (let e := entryOf 0 false 0 1 []
        let s := queued 0 [e] State.reset
        s.mayTake = true ∧ (0 : Station) = s.rotation + 1 + 0
          ∧ (∀ i : Fin 6, i < 0 → s.line.stations[s.rotation + 1 + i].queue = [])
          ∧ s.line.stations[(0 : Station)].queue = [e] ∧ Kind.ofCode e.kind = none)
      ∧ (answers 14 State.reset).mayTake = false
      ∧ (∀ n : Station, State.reset.line.stations[n].queue = []) := by decide

theorem witness_PriorityAnswerIsPlacedOrLost :
    -- with 15 answers waiting: a role against it, a locked station, a wrong target, STOP_ALL, DROP outside and in DROPPED
    [(2, 56, 0, false, FireState.clear), (1, 56, 0, true, .clear), (0, 56, 7, false, .clear), (0, 57, 0, false, .clear),
      (1, 56, 0, false, .clear), (3, 57, 7, false, .clear), (3, 57, 7, false, .dropped)].all (fun x =>
      let e := entryOf x.1 false x.2.1 x.2.2.1 [0, 0, 0, 0, 0, 0, 0]
      let s := fireAt x.2.2.2.2 (inLane e (answers 15 (State.reset.onStation x.1 fun y => { y with locked := x.2.2.2.1 })))
      decide (s.line.lane = [e] ∧ e.priority = true ∧ s.line.replies.length < 16)) = true
      -- with 16: the taking of any of them, and a row of a station that is not ABSENT
      ∧ (let e := entryOf 2 false 56 0 [0, 0, 0, 0, 0, 0, 0]
        (inLane e (answers 16 State.reset)).line.lane = [e] ∧ e.priority = true ∧ e.station = 2
          ∧ 16 ≤ (inLane e (answers 16 State.reset)).line.replies.length)
      ∧ State.reset.line.stations[(1 : Station)].role ≠ .absent
      ∧ State.reset.line.stations[(3 : Station)].role ≠ .absent := by decide

theorem witness_RequestSlotBecomesAnEntry_silent :
    State.reset.line.stations[(4 : Station)].role = .absent
      ∧ (good 255).value = 255 ∧ (good 255).parityError = false ∧ (good 255).framingError = false := by decide

theorem witness_RequestSlotBecomesAnEntry :
    State.reset.line.stations[(0 : Station)].role ≠ .absent ∧ (good 56).value ≠ 255
      -- a good STOP_ALL
      ∧ (let e := slotEntry 0 (good 56) ([0, 0, 0, 0, 0, 0, 0, 0, 200].map good)
        e.bad = false ∧ e.kind = 56)
      -- a good STRIKE at a queue of 7, and one lost from a queue of 8
      ∧ (let e := slotEntry 0 (good 16) ([3, 0, 0, 0, 0, 0, 0, 0, 237].map good)
        let waits := fun k => queued 0 (List.replicate k (entryOf 0 false 1 1 [])) State.reset
        e.bad = false ∧ e.kind ≠ 56 ∧ e.kind ≠ 57 ∧ (waits 7).line.stations[(0 : Station)].queue.length < 8
          ∧ 8 ≤ (waits 8).line.stations[(0 : Station)].queue.length)
      -- a BAD entry: nine characters, a false check, a parity error, a framing error in the tenth
      ∧ (slotEntry 0 (good 16) ([3, 0, 0, 0, 0, 0, 0, 0].map good)).bad = true
      ∧ (slotEntry 0 (good 16) ([3, 0, 0, 0, 0, 0, 0, 0, 0].map good)).bad = true
      ∧ (slotEntry 0 { good 16 with parityBit := false } ([3, 0, 0, 0, 0, 0, 0, 0, 237].map good)).bad = true
      ∧ (slotEntry 0 (good 16)
          ([3, 0, 0, 0, 0, 0, 0, 0].map good ++ [{ good 237 with stopBit := false }])).bad = true
      ∧ (good 16).parityError = false ∧ { good 16 with parityBit := false }.parityError = true
      ∧ (good 16).framingError = false ∧ { good 16 with stopBit := false }.framingError = true := by
  decide

theorem witness_LineBreakAndItsEnd :
    State.reset.line.broken = false ∧ (after .lineBreak State.reset).line.broken = true := by decide

theorem witness_BoundarySendsOneFrame :
    State.reset.line.replies = []
      ∧ (answers 1 State.reset).line.replies = [{ station := 0, kind := 1, status := .done, data := 0 }] := by decide

theorem witness_BoundaryCountsRateAndWithoutScreenNoCountdown :
    (State.reset.proj.get .a).window.length ≤ 40
      ∧ ((State.reset.onProj .a fun x => { x with window := List.replicate 40 2 }).proj.get .a).window.length = 40
      ∧ State.reset.onScreen .a = false ∧ State.reset.onScreen .b = false
      -- a showing that goes on, its countdown unordered
      ∧ ((show_ .threaded).Showing .a ∧ (show_ .threaded).boundReel .a = some (reel 1 .a .showing)
        ∧ (let t := after (.linePeriodBoundary (readings 80 560)) (show_ .threaded)
          t.onScreen .a = true ∧ t.seq.countdown.state = .unordered))
      -- the screen passed by an emergency swap in the blocks' own work
      ∧ (emergency.Showing .a ∧ emergency.seq.automation = .engaged ∧ (emergency.lamp.get .a).state = .lit
        ∧ 9 ≤ (emergency.lamp.get .a).lowCurrent ∧ arcOut.amperes.get .a < 30
        ∧ (emergency.proj.get .a).gate = .closed
        ∧ 8 ≤ ((after (.linePeriodBoundary arcOut) emergency).proj.get .a).rate
        ∧ (emergency.proj.get (Side.other .a)).state = .running ∧ emergency.screenAllowed (Side.other .a) = true
        ∧ emergency.seq.douse.get (Side.other .a) = none ∧ 30 ≤ arcOut.amperes.get (Side.other .a)
        ∧ (after (.linePeriodBoundary arcOut) emergency).onScreen (Side.other .a) = true) := by decide

/-- What holds of both sides holds of each. -/
theorem both_sides {P : Side → Prop} (a : P .a) (b : P .b) : ∀ p, P p := fun p => by cases p <;> assumption

/-- No film-loss switch stands open to be judged in the booth. -/
theorem noStandingLoss_show : (show_ .threaded).NoStandingLoss ∧ emergency.NoStandingLoss :=
  ⟨both_sides (by decide) (by decide), both_sides (by decide) (by decide)⟩

theorem witness_RampIsNeverLate_at_a_boundary :
    (show_ .threaded).NoStandingLoss ∧ (show_ .threaded).lights.house.mode ≠ .auto
      ∧ (booth .off .idle .idle .dark .dark).seq.automation ≠ .engaged := ⟨noStandingLoss_show.1, by decide, by decide⟩

theorem witness_CountdownIsTheRoundedQuotient :
    (1 : Nat) ≤ 32 ∧ 31 < 32 ∧ (evaluate 27606 28800 31 32 0 false).state = .unordered
      ∧ (evaluate 27606 28800 32 32 0 false).state = .ordered
      ∧ 2 * (497 * 48) + 48 = 2 * (20 * (28800 - 27606)) ∧ (evaluate 27606 28800 48 32 0 false).t = some 498 := by
  decide

theorem witness_RampIsNeverLate :
    2 * 100 ≤ 200 ∧ (Light.advance^[200] (Light.reset.rampTo 0 100)).level = 0
      ∧ (Light.advance^[199] (Light.reset.rampTo 0 100)).level = 8 := by decide

/-- What power-on senses in the worked house. -/
def sensedHouse : PowerOnSensed :=
  { role1 := .console, role2 := .house, role3 := .programmer, role4 := .fire, role5 := .absent, role6 := .absent
    link := .intact, downA := .closed, downB := .closed, downObservation1 := .closed
    downObservation2 := .closed, filmLoss := { a := .closed, b := .closed }
    gate := { a := .closed, b := .closed }, storeAgrees := true }

theorem witness_PowerOnLeaves :
    (State.reset.store.checkGood = true ∧ sensedHouse.storeAgrees = true)
      ∧ ({ sensedHouse with storeAgrees := false }).storeAgrees = false
      ∧ (State.reset.onStore fun x => { x with checkGood := false }).store.checkGood = false := by decide

theorem witness_ResetIsPowerOnInTheWorkedHouse :
    State.reset.store = Store.factory ∧ after (.powerOn sensedHouse) (show_ .running) = State.reset := by decide

theorem witness_RaiseAccruesAndHalts :
    (show_ .running).seq.automation = .engaged ∧ Condition.arcOut.number = (0 : Fin 13).val + 3
      ∧ Condition.storeLost.number = (12 : Fin 13).val + 3 ∧ State.reset.seq.automation ≠ .engaged
      ∧ (raiseCondition .arcOut Detail.empty (show_ .running)).seq.automation = .halted
      ∧ (raiseCondition .storeLost Detail.empty (show_ .running)).seq.automation = .engaged := by decide

theorem witness_AttentionIsTheFirstAccrued :
    (after .lineBreak State.reset).attention = 14
      ∧ (after .fireLinkOpen (after .lineBreak State.reset)).attention = 1 := by decide

/-! #### Inquiries, modes and values -/

theorem witness_InquiriesOnlyAnswer :
    -- every target that has a function record, an item table, or neither
    ([Target.house, .aisle, .arc .a, .arc .b, .proj .a, .proj .b, .shutters, .automation, .reels, .presets, .setting 1,
      .setting 45].all fun t => State.reset.admits 0 .inquire t && State.reset.admits 0 .read t) = true
      ∧ ([Target.setting 46, .setting 0, .noTarget, .unknown 11].all (State.reset.admits 0 .inquire)) = true
      ∧ State.reset.store.working.limits[0]? = some (50, 600) ∧ State.reset.store.working.listed[0]? = some 200
      ∧ State.reset.store.working.limits[44]? = some (0, 1) ∧ State.reset.store.working.listed.length = 45
      ∧ State.reset.store.working.limits.length = 45
      -- a timer stopped, whole, just started and a part of a tenth on
      ∧ (ReadTimer.ReadsAs none 65535 ∧ ReadTimer.ReadsAs (some (left 100)) 50
        ∧ ReadTimer.ReadsAs (some { periods := 101, phase := .fresh }) 50
        ∧ ReadTimer.ReadsAs (some { periods := 99, phase := .whole }) 49
        ∧ ReadTimer.ReadsAs (some { periods := 99, phase := .whole }) 50
        ∧ ¬ReadTimer.ReadsAs (some { periods := 99, phase := .whole }) 51)
      -- the first and the last of a list, and a number that names none
      ∧ (let s := listed [reel 1 .a .waiting, reel 99 .b .waiting] State.reset
        s.admits 0 .readReel .reels = true ∧ s.reels.records = [] ++ reel 1 .a .waiting :: [reel 99 .b .waiting]
          ∧ s.reels.records = [reel 1 .a .waiting] ++ reel 99 .b .waiting :: []
          ∧ s.NamesNone 0 ∧ s.NamesNone 2 ∧ s.NamesNone 100)
      ∧ (State.reset.admits 0 .readConditions .noTarget = true ∧ Condition.fire.number = 1
        ∧ Condition.storeLost.number = 15) := by decide

theorem witness_SetModeChangesTheMode :
    (State.reset.admits 0 .setMode (Channel.target .house) = true ∧ (State.reset.lights.get .house).mode = .manual)
      ∧ (State.reset.admits 1 .setMode (Channel.target .aisle) = true
        ∧ (State.reset.lights.get .aisle).mode ≠ .auto)
      ∧ (State.reset.admits 0 .setMode (.arc .a) = true ∧ (State.reset.lamp.get .a).mode = .manual
        ∧ (State.reset.lamp.get .a).mode ≠ .trim ∧ (State.reset.lamp.get .a).state ≠ .lit)
      ∧ (let s := booth .off .idle .idle .lit .dark
        s.admits 0 .setMode (.arc .a) = true ∧ (s.lamp.get .a).mode ≠ .trim ∧ (s.lamp.get .a).state = .lit) := by
  decide

theorem witness_LightRequestsAreJudgedAndApplied :
    (State.reset.admits 0 .setValue (Channel.target .house) = true ∧ (State.reset.lights.get .house).mode ≠ .trim
        ∧ State.reset.store.working.aisleMin ≤ 100 ∧ State.reset.fireAllows = true
        ∧ (State.reset.lights.get .house).mode ≠ .auto)
      ∧ (State.reset.admits 2 .setTarget (Channel.target .aisle) = true
        ∧ (State.reset.lights.get .aisle).mode = .manual)
      ∧ (let s := State.reset.onLight .aisle fun x => { x with mode := .auto }
        s.admits 2 .setTarget (Channel.target .aisle) = true ∧ (s.lights.get .aisle).mode ≠ .manual
          ∧ s.admits 1 .setValue (Channel.target .aisle) = true ∧ (s.lights.get .aisle).mode = .auto)
      ∧ (let s := after .fireLinkOpen State.reset
        s.admits 1 .setValue (Channel.target .house) = true ∧ s.fireAllows = false)
      -- both ends of the clamps: the least aisle level and the longest ramp
      ∧ answer (after (.setValueHouse 0 .aisle 15 600) State.reset) = some (.done, 0)
      ∧ answer (after (.setValueHouse 0 .aisle 14 600) State.reset) = some (.clamped, 15)
      ∧ answer (after (.setValueHouse 0 .house 100 601) State.reset) = some (.clamped, 100) := by decide

theorem witness_ManualRateIsSetInManual :
    (State.reset.admits 0 .setValue (.arc .a) = true ∧ State.reset.admits 0 .setValue (.setting 24) = true
        ∧ (State.reset.lamp.get .a).mode = .manual)
      ∧ (let s := State.reset.onLamp .b fun x => { x with mode := .auto }
        s.admits 0 .setValue (.setting 24) = true ∧ (s.lamp.get .b).mode ≠ .manual) := by decide

theorem witness_SettingIsChangedWithinItsRange :
    (State.reset.admits 2 .setValue (.setting 1) = true ∧ manualRateLamp 1 = none
        ∧ State.reset.store.working.InRange ∧ 200 = State.reset.store.working.value 1)
      ∧ (let s := listed [reel 1 .a .waiting, { reel 2 .b .waiting with leader := 200 }]
          { State.reset with seq := { State.reset.seq with automation := .engaged } }
        s.admits 0 .setValue (.setting 2) = true ∧ s.store.working.InRange ∧ s.seq.automation ≠ .off
          ∧ (37 ≠ s.store.working.value 2
            ∧ (formatCheck (s.store.working.change 2 (s.store.working.clamped 2 37)) s.reels.records).1 = 5)
          ∧ (36 ≠ s.store.working.value 2
            ∧ (formatCheck (s.store.working.change 2 (s.store.working.clamped 2 36)) s.reels.records).1 = 0))
      ∧ (State.reset.admits 0 .setValue (.setting 45) = true ∧ manualRateLamp 45 = none
        ∧ 2 ≠ State.reset.store.working.value 45 ∧ State.reset.seq.automation = .off) := by decide

/-! #### Lamps -/

theorem witness_StrikeBeginsSettling :
    (let s := (booth .off .idle .idle .dark .dark).onLamp .a fun x => { x with stock := 1 };
      s.admits 0 .strike (.arc .a) = true ∧ (s.lamp.get .a).state = .dark ∧ s.fireAllows = true
        ∧ 0 < (s.lamp.get .a).stock)
      ∧ (State.reset.admits 0 .strike (.arc .a) = true ∧ (State.reset.lamp.get .a).stock = 0)
      ∧ (let s := booth .off .idle .idle .warming .dark
        s.admits 0 .strike (.arc .a) = true ∧ (s.lamp.get .a).state ≠ .dark)
      ∧ (fireAt .dropped State.reset).fireAllows = false := by decide

theorem witness_ExtinguishTakesTheLampDark :
    (State.reset.admits 0 .extinguish (.arc .b) = true ∧ (State.reset.lamp.get .b).state = .dark)
      ∧ ((show_ .running).admits 0 .extinguish (.arc .a) = true ∧ ((show_ .running).lamp.get .a).state ≠ .dark) := by
  decide

theorem witness_NewRodSetsTheStock :
    (State.reset.admits 0 .newRod (.arc .a) = true ∧ (State.reset.lamp.get .a).state = .dark
        ∧ answer (after (.newRod 0 (.arc .a) 50) State.reset) = some (.done, 0)
        ∧ answer (after (.newRod 0 (.arc .a) 600) State.reset) = some (.done, 0)
        ∧ answer (after (.newRod 0 (.arc .a) 49) State.reset) = some (.refusedRange, 1)
        ∧ answer (after (.newRod 0 (.arc .a) 601) State.reset) = some (.refusedRange, 1))
      ∧ ((show_ .running).admits 0 .newRod (.arc .a) = true ∧ ((show_ .running).lamp.get .a).state ≠ .dark) := by decide

/-! #### Projectors -/

theorem witness_LoadThreadsAndBinds :
    (State.reset.admits 0 .load (.proj .a) = true ∧ findReel State.reset.reels.records 1 = none)
      ∧ (let s := listed [reel 1 .a .waiting, reel 99 .a .interrupted, reel 2 .b .waiting]
          { State.reset with seq := { State.reset.seq with automation := .engaged } }
        s.admits 0 .load (.proj .a) = true ∧ findReel s.reels.records 1 = some (reel 1 .a .waiting)
          ∧ findReel s.reels.records 99 = some (reel 99 .a .interrupted) ∧ (s.proj.get .a).state = .idle
          ∧ nextFor s.reels.records .a = some (reel 1 .a .waiting) ∧ (reel 1 .a .waiting).number ≠ 99)
      ∧ (let s := listed [reel 99 .a .interrupted] State.reset
        s.admits 0 .load (.proj .a) = true ∧ findReel s.reels.records 99 = some (reel 99 .a .interrupted)
          ∧ (s.proj.get .a).state = .idle ∧ s.seq.automation ≠ .engaged) := by decide

theorem witness_UnloadTakesTheProjectorIdle :
    [ProjectorState.threaded, .stopped, .broken, .idle, .running].all (fun st =>
      (booth .off st .idle .dark .dark).admits 0 .unload (.proj .a)) = true := by decide

theorem witness_InchAndStartRunTheMotor :
    [ProjectorState.threaded, .inching, .running].all (fun st =>
        let s := booth .off st .idle .dark .dark
        s.admits 0 .inch (.proj .a) && s.admits 0 .start (.proj .a) && s.fireAllows) = true
      ∧ (let s := fireAt .resetPending (booth .off .threaded .idle .dark .dark)
        s.admits 0 .inch (.proj .a) = true ∧ s.admits 0 .start (.proj .a) = true ∧ s.fireAllows = false)
      ∧ answer (after (.inch 0 (.proj .a) 1) (booth .off .threaded .idle .dark .dark)) = some (.done, 0)
      ∧ answer (after (.inch 0 (.proj .a) 256) (booth .off .threaded .idle .dark .dark)) = some (.refusedRange, 1) := by
  decide

theorem witness_StopReturnsToThreaded :
    [ProjectorState.inching, .onScreen, .runout, .threaded, .idle, .stopped, .broken].all (fun st =>
      (booth .off st .idle .lit .dark).admits 0 .stop (.proj .a)) = true := by decide

theorem witness_OpenAndSwapGiveTheScreen :
    (let s := booth .off .running .idle .lit .dark;
      s.admits 0 .openDowser (.proj .a) = true ∧ (s.proj.get .a).state = .running ∧ s.screenAllowed .a = true
        ∧ s.onScreen (Side.other .a) = false)
      ∧ (let s := booth .off .running .idle .dark .dark
        s.admits 0 .openDowser (.proj .a) = true ∧ s.screenAllowed .a = false)
      ∧ ((show_ .running).admits 0 .swap (.proj .b) = true ∧ ((show_ .running).proj.get .b).state = .running
        ∧ (show_ .running).screenAllowed .b = true ∧ (show_ .running).onScreen (Side.other .b) = true)
      ∧ ((show_ .threaded).admits 0 .swap (.proj .b) = true ∧ ((show_ .threaded).proj.get .b).state ≠ .running) := by
  decide

/-! #### The reel list, automation and the console -/

theorem witness_FormatCodeIsTheFirstFailingCheck :
    formatCheck Settings.factory [{ reel 1 .a .waiting with endFrame := 431 }] = (3, 1)
      ∧ formatCheck Settings.factory [{ reel 1 .a .waiting with endFrame := 432 }] = (0, 0)
      ∧ formatCheck { Settings.factory with sLead := 101 }
          [{ reel 1 .a .waiting with endFrame := 432 }, reel 2 .b .waiting] = (4, 1)
      ∧ formatCheck Settings.factory
          [{ reel 1 .a .waiting with cue := some { point := 28609, level := 0, ramp := 0 } }] = (6, 1) := by decide

/-- A list with a SHOWN record and an INTERRUPTED one, nothing bound. -/
def unbound : State := listed [reel 1 .a .shown, reel 2 .b .interrupted] State.reset

/-- The entry of ADD and INSERT in the witnesses. -/
def entry3 : ReelEntry :=
  { reel := 99, projector := 1, endFrame := 200, leader := 480, last := true, intermission := false }

theorem witness_EditsAreCarriedOut :
    (unbound.admits 0 .clearList .reels = true ∧ unbound.admits 2 .repeatShow .reels = true
        ∧ unbound.seq.automation = .off ∧ (∀ r ∈ unbound.reels.records, r.isBound = false))
      ∧ (unbound.admits 2 .remove .reels = true ∧ findReel unbound.reels.records 1 = some (reel 1 .a .shown)
        ∧ (reel 1 .a .shown).isBound = false)
      ∧ (unbound.admits 2 .reelCue .reels = true ∧ (2880 : Nat) ≤ 2880 ∧ (100 : Nat) ≤ 100 ∧ (600 : Nat) ≤ 600)
      ∧ (unbound.admits 2 .add .reels = true ∧ unbound.reels.records.length < 24
        ∧ (∀ r ∈ unbound.reels.records, r.number ≠ entry3.reel) ∧ entry3.projector = 1 ∧ 200 ≤ entry3.endFrame
        ∧ entry3.leader ≤ 480 ∧ ¬(entry3.last = true ∧ entry3.intermission = true))
      ∧ (unbound.admits 0 .insert .reels = true
        ∧ unbound.reels.records = [reel 1 .a .shown] ++ reel 2 .b .interrupted :: []
        ∧ (∀ y ∈ [reel 1 .a .shown], y.number ≠ 2)) := by decide

theorem witness_EditsAreCarriedOut_in_a_show :
    (let s := listed [reel 1 .a .waiting, reel 2 .b .waiting]
        { State.reset with seq := { State.reset.seq with automation := .engaged } };
      s.admits 0 .skipReel .reels = true ∧ findReel s.reels.records 2 = some (reel 2 .b .waiting)
        ∧ s.seq.automation ≠ .off
        ∧ (formatCheck s.store.working [reel 1 .a .waiting, reel 2 .b .skipped]).1 = 0)
      ∧ (let s := listed [reel 1 .a .waiting] { State.reset with seq := { State.reset.seq with automation := .halted } }
        s.admits 0 .skipReel .reels = true ∧ findReel s.reels.records 1 = some (reel 1 .a .waiting)
          ∧ s.seq.automation ≠ .off ∧ (formatCheck s.store.working [reel 1 .a .skipped]).1 ≠ 0) := by decide

/-- The automation state alone set. -/
def automationAt (a : Automation) (s : State) : State := s.onSeq fun q => { q with automation := a }

theorem witness_EditsAreCarriedOut_refusals :
    -- the fields of an entry, each refused one past its range, in the order of R48
    (unbound.admits 2 .add .reels = true ∧ unbound.EntryGood entry3
        ∧ unbound.EntryFault { entry3 with reel := 100, projector := 3 } 1 1
        ∧ unbound.EntryFault { entry3 with reel := 1 } 1 1
        ∧ unbound.EntryFault { entry3 with projector := 0, endFrame := 199 } 1 2
        ∧ unbound.EntryFault { entry3 with endFrame := 199, leader := 481 } 1 3
        ∧ unbound.EntryFault { entry3 with endFrame := 131072 } 1 3
        ∧ unbound.EntryFault { entry3 with leader := 481, intermission := true } 2 5
        ∧ unbound.EntryFault { entry3 with intermission := true } 2 7)
      ∧ (unbound.admits 2 .insert .reels = true ∧ unbound.Names 1 (reel 1 .a .shown) ∧ unbound.NamesNone 3
        ∧ unbound.admits 2 .remove .reels = true ∧ unbound.admits 0 .skipReel .reels = true
        ∧ (reel 1 .a .shown).status ≠ .waiting)
      -- a list of 24, automation not OFF, and a bound record
      ∧ (let s := listed ((List.range 24).map fun k => reel (k + 1) .a .shown) State.reset
        s.EntryGood entry3 ∧ 24 ≤ s.reels.records.length ∧ s.Names 24 (reel 24 .a .shown))
      ∧ (let s := automationAt .halted unbound
        s.admits 2 .insert .reels = true ∧ s.EntryGood entry3 ∧ s.seq.automation ≠ .off)
      ∧ ((show_ .threaded).admits 2 .reelCue .reels = true ∧ (show_ .threaded).Names 1 (reel 1 .a .showing)
        ∧ (reel 1 .a .showing).isBound = true ∧ (reel 1 .a .showing).status ≠ .waiting
        ∧ (show_ .threaded).admits 2 .clearList .reels = true ∧ (show_ .threaded).admits 2 .repeatShow .reels = true)
      ∧ answer (after (.reelCue 2 .reels 1 0 0 0 0) unbound) = some (.refusedRange, 2)
      ∧ answer (after (.reelCue 2 .reels 1 1 2881 101 601) unbound) = some (.refusedRange, 3)
      ∧ answer (after (.reelCue 2 .reels 1 1 2880 101 601) unbound) = some (.refusedRange, 4)
      ∧ answer (after (.reelCue 2 .reels 1 1 2880 100 601) unbound) = some (.refusedRange, 5) := by decide

theorem witness_AutomationRequestsMoveTheState :
    (let s := listed [reel 1 .a .waiting] State.reset;
      s.admits 2 .engage .automation = true ∧ s.seq.automation = .off ∧ s.reels.code = 0 ∧ s.fireAllows = true)
      ∧ (State.reset.admits 0 .engage .automation = true ∧ State.reset.reels.code ≠ 0)
      ∧ ((show_ .running).admits 0 .engage .automation = true ∧ (show_ .running).seq.automation ≠ .off
        ∧ (show_ .running).admits 2 .disengage .automation = true)
      ∧ (let s := booth .halted .idle .idle .dark .dark
        s.admits 0 .resume .automation = true ∧ s.seq.automation = .halted ∧ s.fireAllows = true
          ∧ s.proj.a.state ≠ .broken ∧ s.proj.b.state ≠ .broken)
      ∧ (let s := booth .halted .broken .idle .dark .dark
        s.admits 0 .resume .automation = true ∧ s.proj.a.state = .broken)
      ∧ (let s := booth .engaged .threaded .idle .dark .dark
        s.admits 2 .startShow .automation = true
          ∧ remainingShow s.reels.records = reel 1 .a .bound :: [reel 2 .b .waiting]
          ∧ s.onScreen .a = false ∧ s.onScreen .b = false ∧ s.fireAllows = true ∧ (reel 1 .a .bound).isBound = true
          ∧ (s.proj.get .a).state = .threaded ∧ (s.fire.get (Side.port .a)).state = .up)
      ∧ ((show_ .running).admits 0 .startShow .automation = true ∧ (show_ .running).onScreen .a = true)
      ∧ (State.reset.admits 0 .startShow .automation = true ∧ remainingShow State.reset.reels.records = []) := by decide

theorem witness_ConditionsAreClearedAndStationsLocked :
    (State.reset.admits 0 .clearConditions .noTarget = true ∧ Condition.fire.number = 1
        ∧ Condition.storeLost.number = 15 ∧ State.reset.current .fire = false)
      ∧ (let s := after .lineBreak State.reset
        s.admits 0 .clearConditions .noTarget = true ∧ s.current .lineFault = true ∧ 14 = Condition.lineFault.number)
      ∧ (State.reset.admits 0 .lockStation .noTarget = true ∧ State.reset.admits 0 .unlockStation .noTarget = true
        ∧ State.reset.line.stations[(1 : Station)].role = .house
        ∧ State.reset.line.stations[(5 : Station)].role ≠ .house
        ∧ State.reset.line.stations[(5 : Station)].role ≠ .programmer)
      ∧ answer (after (.clearConditions 0 .noTarget 255) (after .lineBreak State.reset)) = some (.done, 0)
      ∧ answer (after (.clearConditions 0 .noTarget 16) State.reset) = some (.refusedRange, 1)
      ∧ answer (after (.clearConditions 0 .noTarget 254) State.reset) = some (.refusedRange, 1)
      ∧ answer (after (.unlockStation 0 .noTarget 6) State.reset) = some (.done, 0) := by decide

/-- A save under way. -/
def saving (timer : Nat) : State :=
  State.reset.onStore fun x =>
    { x with save := some { channel := 3, image := Settings.factory, timer := left timer }, checkGood := false }

theorem witness_GeneralResetReturnsTheBlocks :
    ((saving 5).admits 0 .generalReset .noTarget = true ∧ (saving 5).store.save.isSome = true)
      ∧ ((show_ .running).admits 0 .generalReset .noTarget = true ∧ (show_ .running).store.save = none
        ∧ (show_ .running).onScreen .a = true)
      ∧ (let s := booth .engaged .running .runout .lit .lit
        s.admits 0 .generalReset .noTarget = true ∧ s.store.save = none ∧ s.onScreen .a = false
          ∧ s.onScreen .b = false) := by decide

theorem witness_StopAllStopsTheBooth :
    (show_ .runout).admitsPriority 1 .stopAll .noTarget = true
      ∧ ((show_ .runout).proj.get .a).state.moving = true
      ∧ ((booth .off .threaded .idle .dark .dark).proj.get .a).state.moving = false
      ∧ (booth .off .threaded .idle .dark .dark).admitsPriority 0 .stopAll .noTarget = true
      ∧ (answers 15 (show_ .runout)).admitsPriority 1 .stopAll .noTarget = true
      ∧ (answers 16 (show_ .runout)).admitsPriority 1 .stopAll .noTarget = false := by decide

/-! #### Fire and presets -/

theorem witness_FirePanelMovesTheFireState :
    [FireState.clear, .alert, .dropped, .resetPending].all (fun st =>
        let s := fireAt st State.reset
        s.admits 3 .alert .shutters && s.admits 3 .fireClear .shutters && s.admits 0 .fireAck .shutters
          && decide (s.fire.state = st ∧ s.fire.link = .intact)) = true
      ∧ (after .fireLinkOpen State.reset).fire.state = .dropped
      ∧ (after .fireLinkOpen State.reset).fire.link = .opened
      ∧ (after .fireLinkOpen State.reset).admits 3 .fireClear .shutters = true := by decide

theorem witness_EntryToDroppedForcesTheSafeState :
    ((show_ .running).fire.state ≠ .dropped ∧ (show_ .running).admitsPriority 3 .drop .shutters = true
        ∧ ((show_ .running).fire.get .a).state = .up ∧ ((show_ .running).proj.get .a).state.moving = true
        ∧ ((show_ .threaded).proj.get .b).state.moving = false)
      ∧ (let s := fireAt .resetPending State.reset
        s.fire.state ≠ .dropped ∧ s.admitsPriority 0 .drop .shutters = true)
      ∧ (let s := fireAt .dropped State.reset
        s.fire.state = .dropped ∧ s.admitsPriority 0 .drop .shutters = true) := by decide

theorem witness_ShuttersRaiseFallAndJam :
    (State.reset.admits 0 .raise .shutters = true ∧ State.reset.fire.state = .clear
        ∧ State.reset.fire.link = .intact ∧ (State.reset.fire.get .observation2).state = .down
        ∧ portCode .observation2 = 4)
      ∧ ((show_ .running).admits 0 .raise .shutters = true ∧ ((show_ .running).fire.get .a).state ≠ .down)
      ∧ ((after (.raise 0 .shutters 4) State.reset).fire.get .observation2).state = .raising
      ∧ ((after (.shutterLatchLetGo .a) (show_ .running)).fire.get .a).state = .falling
      ∧ (let s := State.reset.onShutter .a fun x => { x with state := .falling, fallTimer := some 1 }
        (s.fire.get .a).state = .falling ∧ (s.fire.get .a).fallTimer = some 1
          ∧ ((after (.fallTimerExpiry .a) s).fire.get .a).state = .jammed)
      ∧ (let s := State.reset.onShutter .a fun x => { x with state := .raising, raiseTimer := some 0 }
        (s.fire.get .a).state = .raising ∧ (s.fire.get .a).raiseTimer = some 0)
      ∧ (let s := fireAt .dropped (State.reset.onFire fun u => { u with stations := 0 })
        s.fire.state = .dropped ∧ s.fire.link = .intact ∧ s.fire.stations = 0)
      ∧ (after .fireLinkOpen State.reset).fire.link = .opened
      ∧ (State.reset.fire.state ≠ .dropped ∧ State.reset.fire.stations ≠ 0)
      -- the boundary: a fall and a raise with one period left, with two, and a shutter with no timer
      ∧ [1, 2].all (fun k =>
        let s := State.reset.onShutter .a fun x => { x with state := .falling, fallTimer := some k }
        let u := State.reset.onShutter .b fun x => { x with state := .raising, raiseTimer := some k }
        decide ((s.fire.get .a).fallTimer = some k ∧ (s.fire.get .a).raiseTimer = none
          ∧ (u.fire.get .b).raiseTimer = some k ∧ (u.fire.get .b).fallTimer = none
          ∧ (s.fire.get .b).fallTimer = none ∧ (s.fire.get .b).raiseTimer = none)) = true := by decide

theorem witness_LatchLetGoDarkensItsProjector :
    ((show_ .running).fire.get .a).state = .up ∧ Side.port .a = .a ∧ (show_ .running).onScreen .a = true
      ∧ ((show_ .running).fire.get .observation1).state = .up
      ∧ (∀ p ∈ [Side.a, .b], p.port ≠ .observation1) := by decide

theorem witness_PresetsAreLoadedAndSaved :
    (State.reset.admits 2 .loadPreset .presets = true ∧ State.reset.store.save = none
        ∧ State.reset.onScreen .a = false ∧ State.reset.onScreen .b = false ∧ State.reset.seq.automation = .off
        ∧ answer (after (.loadPreset 0 .presets 0) State.reset) = some (.done, 1)
        ∧ answer (after (.loadPreset 0 .presets 3) State.reset) = some (.done, 1)
        ∧ answer (after (.loadPreset 0 .presets 4) State.reset) = some (.refusedRange, 1))
      ∧ ((show_ .running).admits 0 .loadPreset .presets = true ∧ (show_ .running).store.save = none
        ∧ (show_ .running).onScreen .a = true)
      ∧ ((saving 5).admits 0 .loadPreset .presets = true ∧ (saving 5).admits 0 .savePreset .presets = true
        ∧ (saving 5).store.save.isSome = true)
      ∧ (State.reset.admits 0 .savePreset .presets = true
        ∧ answer (after (.savePreset 0 .presets 1) State.reset) = some (.done, 0)
        ∧ answer (after (.savePreset 0 .presets 3) State.reset) = some (.done, 0))
      ∧ ((saving 1).store.save = some { channel := 3, image := Settings.factory, timer := left 1 })
      ∧ (∀ j ∈ (saving 2).store.save, 2 ≤ j.timer.periods) := by decide

/-! #### The projectors' events and the sequencer -/

theorem witness_PulsesInchesAndRunUps :
    (let x := (booth .off .inching .idle .dark .dark).proj.get .a;
      x.state = .inching ∧ x.inchCount ≤ 1 ∧ x.inchTimer.Last ∧ 1 ≤ x.inchCount)
      ∧ (let x := ((booth .off .inching .idle .dark .dark).onProj .a fun y => { y with inchCount := 2 }).proj.get .a
        x.state = .inching ∧ 2 ≤ x.inchCount)
      ∧ (let x := ((booth .off .inching .idle .dark .dark).onProj .a fun y => { y with inchCount := 0 }).proj.get .a
        x.state = .inching ∧ x.inchCount = 0)
      ∧ (let x := ((booth .off .starting .idle .dark .dark).onProj .a fun y => { y with rate := 44 }).proj.get .a
        x.state = .starting ∧ 44 ≤ x.rate ∧ x.runUpTimer.Last)
      ∧ (let x := ((booth .off .starting .idle .dark .dark).onProj .a fun y => { y with rate := 43 }).proj.get .a
        x.state = .starting ∧ x.rate < 44 ∧ x.runUpTimer.Last)
      ∧ (State.reset.proj.get .a).state = .idle := by decide

theorem witness_PulsesInchesAndRunUps_at_a_boundary :
    (booth .off .inching .starting .dark .dark).NoStandingLoss
      ∧ (let s := booth .off .inching .starting .dark .dark
        s.seq.automation ≠ .engaged ∧ (s.proj.get .a).runUpTimer = none ∧ (s.proj.get .a).inchTimer = some 1
          ∧ 1 ≤ (s.proj.get .a).inchCount ∧ (s.proj.get .b).inchTimer = none ∧ (s.proj.get .b).runUpTimer = some 1
          ∧ ((after (.linePeriodBoundary (readings 0 0)) s).proj.get .b).rate < 44
          -- RATE 44 at the boundary itself
          ∧ ((after (.linePeriodBoundary (readings 0 0))
              (s.onProj .b fun x => { x with pulses := 44 })).proj.get .b).state = .running
          ∧ ((after (.linePeriodBoundary (readings 0 0))
              (s.onProj .b fun x => { x with pulses := 43 })).proj.get .b).state = .threaded) :=
  ⟨both_sides (by decide) (by decide), by decide⟩

/-- A showing under way on A with its window open and marks counted. -/
def marked (auto : Automation) (b : ProjectorState) (lb : LampState) (k : Nat) : State :=
  (booth auto .onScreen b .lit lb).onProj .a fun x => { x with f := 28772, windowOpen := true, marks := k }

theorem witness_CueMarksAreCounted :
    (State.reset.proj.get .a).state.moving = false
      ∧ (let x := (marked .engaged .running .lit 2).proj.get .a
        x.state.moving = true ∧ x.state = .onScreen ∧ 2 ≤ x.marks)
      ∧ (let s := marked .halted .threaded .lit 0
        (s.proj.get .a).state = .onScreen ∧ (s.proj.get .a).windowOpen = true ∧ (s.proj.get .a).marks = 0
          ∧ s.seq.automation ≠ .engaged)
      ∧ (let s := marked .engaged .threaded .lit 0
        s.outgoing = some .a ∧ s.outgoingReel = some (reel 1 .a .showing) ∧ s.incomingReel = some (reel 2 .b .bound)
          ∧ s.reelBound (reel 2 .b .bound) = true ∧ (s.proj.get .b).state = .threaded ∧ s.seq.motorTaken = false
          ∧ s.fireAllows = true)
      ∧ (let s := marked .engaged .idle .lit 0
        s.outgoing = some .a ∧ s.outgoingReel = some (reel 1 .a .showing)
          ∧ s.incomingReel = some (reel 2 .b .waiting) ∧ s.reelBound (reel 2 .b .waiting) = false)
      ∧ (let s := marked .halted .running .lit 1
        (s.proj.get .a).marks = 1 ∧ s.seq.automation = .halted)
      ∧ (marked .off .running .lit 1).seq.automation = .off := by decide

/-- A showing at the swap point by the countdown, with the outgoing record's flags. -/
def atSwap (last intermission : Bool) (b : ProjectorState) (lb : LampState) : State :=
  let s := counting (ordered 0 0 true) (booth .engaged .onScreen b .lit lb)
  { s with
    reels :=
      { s.reels with
        records :=
          [{ reel 1 .a .showing with last := last, intermission := intermission },
            reel 2 .b (b.recordStatus.getD .waiting)] } }

theorem witness_SwapPointTakesTheEnding :
    -- the countdown at the swap point: a swap, a missed changeover, and both other endings
    (let s := atSwap false false .running .lit;
      s.seq.automation = .engaged ∧ s.seq.countdown.state = .ordered ∧ s.seq.countdown.t = some 0
        ∧ s.seq.countdown.overrun = true ∧ s.outgoing = some .a ∧ s.outgoingReel = some (reel 1 .a .showing)
        ∧ s.seq.swapReached = false ∧ s.incomingReel = some (reel 2 .b .running)
        ∧ s.reelBound (reel 2 .b .running) = true ∧ s.ready .b = true)
      ∧ (let s := atSwap false false .running .warming
        s.outgoing = some .a ∧ s.incomingReel = some (reel 2 .b .running) ∧ s.ready .b = false)
      ∧ (atSwap false true .running .lit).outgoingReel = some { reel 1 .a .showing with intermission := true }
      ∧ (atSwap true false .running .lit).outgoingReel = some { reel 1 .a .showing with last := true }
      -- by the second cue mark
      ∧ (let s := marked .engaged .running .lit 1
        (s.proj.get .a).windowOpen = true ∧ (s.proj.get .a).marks = 1 ∧ s.seq.automation = .engaged
          ∧ (after (.cueMark .a) s).proj.b.state = .onScreen)
      -- the swap point already reached, and a countdown that is not at it
      ∧ ((atSwap false false .running .lit).onSeq fun q => { q with swapReached := true }).seq.swapReached = true
      ∧ (counting (ordered 1 0 false) (show_ .running)).seq.countdown.overrun = false
      -- the late swap, taken and not taken
      ∧ (let s := (show_ .running).onSeq fun q => { q with swapDue := true }
        s.seq.automation = .engaged ∧ s.seq.swapDue = true ∧ s.outgoing = some .a
          ∧ s.incomingReel = some (reel 2 .b .running) ∧ s.reelBound (reel 2 .b .running) = true
          ∧ s.ready .b = true)
      ∧ (show_ .running).seq.swapDue = false := by decide

/-- A showing at the strike lead with lamp B DARK and a rod. -/
def atLead (stock : Nat) : State :=
  (counting (ordered 480 200 false) (booth .engaged .onScreen .threaded .lit .dark)).onLamp .b fun x =>
    { x with stock := stock }

theorem witness_AutomaticStrikesAreAskedOrWithheld :
    (let s := atLead 127280;
      s.outgoing = some .a ∧ s.outgoingReel = some (reel 1 .a .showing) ∧ s.incomingReel = some (reel 2 .b .bound)
        ∧ s.reelBound (reel 2 .b .bound) = true ∧ s.seq.strikeTaken = false ∧ s.seq.countdown.state = .ordered
        ∧ s.seq.countdown.t = some 200 ∧ 200 ≤ s.store.working.sLead ∧ s.seq.automation = .engaged
        ∧ (s.lamp.get .b).state = .dark ∧ 127280 ≤ (s.lamp.get .b).stock ∧ s.fireAllows = true)
      ∧ ((atLead 127279).lamp.get .b).stock < 127280
      ∧ (atLead 127279).seq.withholding ≠ some { lamp := .b, reel := 2, outgoing := some .a }
      ∧ (after .strikeTest (atLead 127279)).seq.withholding = some { lamp := .b, reel := 2, outgoing := some .a }
      ∧ (let s := (booth .engaged .threaded .idle .dark .dark).onProj .a fun x => { x with startPending := true }
        s.boundReel .a = some (reel 1 .a .bound) ∧ (s.proj.get .a).startPending = true
          ∧ s.seq.automation = .engaged ∧ (s.lamp.get .a).state = .dark ∧ (reel 1 .a .bound).projector = .a) := by
  decide

theorem witness_LeadTestsFollowTheCountdown :
    (let s := counting (ordered 229 95 false) (atLead 127280);
      s.seq.automation = .engaged ∧ s.outgoing = some .a ∧ s.outgoingReel = some (reel 1 .a .showing)
        ∧ s.incomingReel = some (reel 2 .b .bound) ∧ s.reelBound (reel 2 .b .bound) = true
        ∧ (s.proj.get .b).state = .threaded ∧ s.seq.motorTaken = false ∧ s.seq.countdown.t = some 95
        ∧ 95 ≤ (192 * 10 + 23) / 24 + s.store.working.runUp ∧ s.fireAllows = true)
      ∧ (counting (ordered 231 96 false) (atLead 127280)).seq.countdown.t = some 96
      ∧ (let s := counting { Countdown.absent with state := .unordered, n := some 229, unordered := true }
          (atLead 127280)
        s.seq.countdown.state = .unordered ∧ s.seq.countdown.raised = false ∧ (s.lamp.get .b).state = .dark
          ∧ s.seq.strikeTaken = false
          ∧ (after .motorTest s).seq.countdown.raised = true)
      ∧ (atSwap false true .running .lit).outgoing = some .a
      ∧ (counting (ordered 482 201 false) (atLead 127280)).store.working.sLead < 201
      ∧ ((atSwap false false .running .lit).proj.get .b).state ≠ .threaded := by decide

/-- Projector A past its effective end, at RATE 48 from the next boundary. -/
def endingA : Projector := { projAt .onScreen 28800 with window := List.replicate 39 1, pulses := 9 }

theorem endingA_rate : endingA.rateCounted.rate = 48 := by decide

/-- A showing past its effective end, B THREADED with its lamp DARK and the given stock, with two halt switches. -/
def ending (stock halt3 halt8 : Nat) (reached : Bool) (b : ProjectorState) (lb : LampState) : State :=
  (((booth .engaged .onScreen b .lit lb).onProj .a fun _ => endingA).onLamp .b fun x => { x with stock := stock }).onSeq
    (fun q => { q with swapReached := reached }) |>.onStore fun x =>
      { x with working := { x.working with halts := (x.working.halts.set 2 halt3).set 7 halt8 } }

/-- A boundary at the end of a reel is a quiet one, whatever the rod, the halt switches and the flag. -/
theorem quiet_ending (stock halt3 halt8 : Nat) (reached : Bool) :
    (ending stock halt3 halt8 reached .threaded .dark).Quiet (readings 80 560) .a
      ∧ (ending stock halt3 halt8 reached .running .lit).Quiet (readings 80 560) .a := by
  constructor <;>
    exact ⟨⟨rfl, rfl, rfl⟩, both_sides (.inl rfl) (.inl rfl), rfl,
      both_sides ⟨rfl, rfl, rfl, by decide, nofun, rfl, by first | exact .inl rfl | exact .inr rfl⟩
        ⟨rfl, rfl, rfl, by decide, nofun, rfl, by first | exact .inl rfl | exact .inr rfl⟩,
      rfl, rfl, endingA_rate.symm ▸ (by decide : 8 ≤ 48), fun q => by cases q <;> exact ⟨rfl, rfl⟩⟩

/-- The premises of the boundary's clause, for both values of MISSED, WITHHELD and the two halt switches. -/
theorem witness_LeadTestsFollowTheCountdown_at_a_boundary :
    [(200000, 0, 0, false), (200000, 1, 0, false), (0, 0, 0, true), (0, 0, 1, true), (200000, 0, 0, true)].all (fun x =>
        let s := ending x.1 x.2.1 x.2.2.1 x.2.2.2 .threaded .dark
        decide (s.seq.automation = .engaged ∧ s.outgoingReel = some (reel 1 .a .showing)
          ∧ s.incomingReel = some (reel 2 .b .bound) ∧ s.reelBound (reel 2 .b .bound) = true
          ∧ (reel 1 .a .showing).measuredEnd.getD (reel 1 .a .showing).endFrame ≤ (s.proj.get .a).f
          ∧ s.store.working.stall ≤ (s.proj.get .a).rateCounted.rate
          ∧ s.seq.strikeTaken = false ∧ s.seq.motorTaken = false ∧ s.seq.swapDue = false ∧ s.seq.withholding = none
          ∧ (s.lamp.get .b).state = .dark ∧ (s.proj.get .b).state = .threaded
          ∧ s.rodSuffices (reel 2 .b .bound) = decide (x.1 = 200000))) = true
      ∧ (let s := ending 200000 0 0 true .running .lit
        s.ready .b = true ∧ (s.onSeq fun q => { q with swapDue := true }).seq.swapDue = true
          ∧ (ending 200000 0 0 false .running .lit).seq.swapReached = false) := by decide

/-- A show start under way on A. -/
def starting (a : ProjectorState) (la : LampState) : State :=
  (booth .engaged a .idle la .dark).onProj .a fun x => { x with startPending := true, f := 192 }

theorem witness_ShowStartHouseCueAndDouse :
    (let s := starting .threaded .lit;
      s.seq.automation = .engaged ∧ (s.proj.get .a).startPending = true ∧ (s.lamp.get .a).state = .lit
        ∧ (s.proj.get .a).startFade = false)
      ∧ (let s := starting .running .lit
        s.boundReel .a = some (reel 1 .a .running) ∧ (reel 1 .a .running).leader ≤ (s.proj.get .a).f
          ∧ (s.proj.get .a).state = .running ∧ s.screenAllowed .a = true ∧ s.onScreen (Side.other .a) = false)
      ∧ (State.reset.seq.automation ≠ .engaged ∧ (State.reset.proj.get .a).startPending = false)
      ∧ (let c : HouseCue := { point := 460, level := 20, ramp := 100 }
        let s := counting (ordered 460 192 false)
          { show_ .threaded with
            reels := { records := [{ reel 1 .a .showing with cue := some c }], code := 0, faultReel := 0 } }
        s.outgoingReel = some { reel 1 .a .showing with cue := some c } ∧ s.seq.countdown.n = some 460
          ∧ s.seq.automation = .engaged ∧ 460 ≤ c.point)
      ∧ (let s := (booth .engaged .runout .onScreen .lit .lit).onSeq fun q =>
          { q with douse := { a := some (left 1), b := some (left 2) } }
        (s.seq.douse.get .a).Last ∧ s.seq.automation ≠ .halted ∧ (s.lamp.get .a).state ≠ .dark
          ∧ ¬(s.seq.douse.get .b).Last)
      ∧ (let s := (booth .halted .runout .idle .lit .dark).onSeq fun q =>
          { q with douse := { a := some (left 0), b := none } }
        (s.seq.douse.get .a).Last ∧ s.seq.automation = .halted) := by decide

theorem witness_ShowStartHouseCueAndDouse_at_a_boundary :
    (let c : HouseCue := { point := 28600, level := 20, ramp := 100 }
      let s := { show_ .threaded with
        reels := { records := [{ reel 1 .a .showing with cue := some c }, reel 2 .b .bound], code := 0, faultReel := 0 }
        store := { (show_ .threaded).store with
          working := { (show_ .threaded).store.working with halts := Vector.replicate 13 0 } } }
      let t := after (.linePeriodBoundary (readings 80 560)) s
      s.Showing .a ∧ t.onScreen .a = true ∧ t.seq.automation = .engaged
        ∧ s.boundReel .a = some { reel 1 .a .showing with cue := some c } ∧ t.seq.countdown.n = some 28600)
      ∧ (let s := fun (auto : Automation) k => (booth auto .runout .idle .lit .dark).onSeq fun q =>
          { q with douse := { a := some (left k), b := none } }
        (s .off 1).NoStandingLoss
          ∧ ([Automation.off, .halted].all fun auto => [1, 2].all fun k =>
            decide (((s auto k).proj.get .a).state = .runout ∧ ((s auto k).lamp.get .a).state = .lit
              ∧ (s auto k).seq.douse.get .a = some (left k) ∧ (s auto k).seq.automation ≠ .engaged)) = true) :=
  ⟨by decide, both_sides (by decide) (by decide), by decide⟩

/-! #### The lamps' events, film protection and the invariants -/

theorem witness_StrikeRunsItsCourse :
    (let x := (booth .off .idle .idle .settling .dark).lamp.get .a;
      x.state = .settling ∧ x.settlingTimer.Last)
      ∧ (let x := (booth .off .idle .idle .striking .dark).lamp.get .a
        x.state = .striking ∧ x.attemptTimer ≠ none ∧ x.attemptTimer.Last ∧ x.attempt < 3)
      ∧ (let x := { lampAt .striking with attempt := 3 }
        x.state = .striking ∧ x.attemptTimer ≠ none ∧ 3 ≤ x.attempt)
      ∧ (let x := { lampAt .striking with attemptTimer := none, waitTimer := some 0 }
        x.state = .striking ∧ x.waitTimer.Last ∧ ¬x.attemptTimer ≠ none)
      ∧ (let x := (booth .off .idle .idle .warming .dark).lamp.get .a
        x.state = .warming ∧ x.warmTimer.Last)
      ∧ after (.arcEstablished .a 29) (booth .off .idle .idle .striking .dark) = booth .off .idle .idle .striking .dark := by
  decide

theorem witness_StrikeRunsItsCourse_at_a_boundary :
    [1, 2].all (fun k =>
      let s := fun st => (booth .off .idle .idle st .dark).onLamp .a fun x =>
        { x with
          settlingTimer := x.settlingTimer.map fun _ => k, attemptTimer := x.attemptTimer.map fun _ => k
          warmTimer := x.warmTimer.map fun _ => left k }
      decide ((s .settling).seq.automation ≠ .engaged ∧ (s .settling).seq.douse.get .a = none
        ∧ ((s .settling).lamp.get .a).settlingTimer = some k
        ∧ ((s .striking).lamp.get .a).state = .striking ∧ ((s .striking).lamp.get .a).waitTimer = none
        ∧ ((s .striking).lamp.get .a).attemptTimer = some k ∧ ((s .striking).lamp.get .a).attempt < 3
        ∧ ((s .warming).lamp.get .a).state = .warming ∧ ((s .warming).lamp.get .a).warmTimer = some (left k))) = true := by
  decide

theorem witness_ArcLossDarkensOrSwaps :
    (let s := (show_ .running).onLamp .a fun x => { x with lowCurrent := 9 };
      (s.lamp.get .a).state = .lit ∧ 9 ≤ (s.lamp.get .a).lowCurrent ∧ s.onScreen .a = true
        ∧ s.seq.automation = .engaged ∧ s.ready (Side.other .a) = true)
      ∧ (let s := (show_ .threaded).onLamp .a fun x => { x with lowCurrent := 9 }
        s.onScreen .a = true ∧ s.ready (Side.other .a) = false)
      ∧ (let s := (booth .engaged .running .idle .warming .dark).onLamp .a fun x => { x with lowCurrent := 9 }
        (s.lamp.get .a).state = .warming ∧ s.onScreen .a = false)
      ∧ ((show_ .running).lamp.get .a).lowCurrent < 9 := by decide

/-- A LIT lamp A in a mode. -/
def burning (m : Mode) (g : Lamp → Lamp) : State := (booth .off .idle .idle .lit .dark).onLamp .a fun x => g { x with mode := m }

theorem witness_FeedIntervalDoesItsFiveSteps :
    (let x := (burning .manual id).lamp.get .a;
      x.state = .lit ∧ x.mode = .manual ∧ x.feedClock.Last ∧ x.rodOut = false)
      ∧ (let x := (booth .off .idle .idle .warming .dark).lamp.get .a
        x.state = .warming ∧ x.feedClock.Last)
      -- the regulator at the ends of the deadband and of 0 to FMAX (6.12)
      ∧ ([569, 570, 571, 550, 549, 700, 400].map fun v => (regulate LampSettings.factory v 80).f)
        = [90, 90, 106, 90, 74, 160, 0]
      ∧ (let x := (burning .auto fun y =>
          { y with highLimit := true, highClamp := 9, lowLimit := true, lowClamp := 9 }).lamp.get .a
        x.state = .lit ∧ x.mode = .auto ∧ x.highLimit = true ∧ 9 ≤ x.highClamp ∧ x.lowLimit = true ∧ 9 ≤ x.lowClamp)
      ∧ (let x := (burning .trim fun y => { y with trimConverge := 9, trimIntervals := 119 }).lamp.get .a
        x.state = .lit ∧ x.mode = .trim ∧ 9 ≤ x.trimConverge ∧ 119 ≤ x.trimIntervals)
      ∧ (after (.feedInterval .a 570 80) (burning .trim fun y => { y with trimConverge := 9 })).lamp.a.mode = .manual
      ∧ (after (.feedInterval .a 571 80) (burning .trim fun y => { y with trimConverge := 9 })).lamp.a.trimConverge = 0
      ∧ (after (.feedInterval .a 571 80) (burning .trim fun y => { y with trimIntervals := 119 })).attention = 12
      ∧ (burning .manual fun y => { y with rodOut := true }).lamp.a.rodOut = true
      ∧ (burning .manual fun y => { y with feedClock := some 2 }).lamp.a.feedClock ≠ some 1 := by decide

theorem witness_FilmProtectionActs :
    (State.reset.proj.get .a).state.moving = false ∧ (State.reset.proj.get .a).state ≠ .onScreen
      ∧ ((show_ .runout).proj.get .b).state = .runout
      ∧ (let s := (show_ .running).onProj .a fun x => { x with f := 28800 }
        (s.proj.get .a).state.moving = true ∧ s.boundReel .a = some (reel 1 .a .showing)
          ∧ (reel 1 .a .showing).measuredEnd.getD (reel 1 .a .showing).endFrame ≤ (s.proj.get .a).f)
      ∧ (let s := (show_ .running).onProj .a fun x => { x with f := 28799 }
        (s.proj.get .a).state.moving = true ∧ (s.proj.get .a).state ≠ .runout
          ∧ s.boundReel .a = some (reel 1 .a .showing)
          ∧ (s.proj.get .a).f < (reel 1 .a .showing).measuredEnd.getD (reel 1 .a .showing).endFrame)
      ∧ (let x := ((show_ .running).onProj .a fun x => { x with rate := 7, stall := 9 }).proj.get .a
        x.state = .onScreen ∧ x.rate < 8 ∧ 9 ≤ x.stall)
      ∧ 8 ≤ ((show_ .running).proj.get .a).rate := by decide

theorem witness_FilmProtectionActs_at_a_boundary :
    -- a switch standing open at the entry to INCHING, before the end and at it
    [28799, 28800].all (fun f =>
      let s := (booth .off .inching .idle .dark .dark).onProj .a fun x =>
        { x with f := f, filmLoss := .opened, lossCheck := true }
      decide ((s.proj.get .a).lossCheck = true ∧ (s.proj.get .a).filmLoss = .opened
        ∧ (s.proj.get .a).state = .inching ∧ s.boundReel .a = some (reel 1 .a .bound) ∧ s.seq.automation ≠ .engaged))
        = true
      -- a gate switch standing open, and the tenth slow boundary; and a slow boundary that is counted
      ∧ (let s := show_ .threaded
        s.Showing .a ∧ (s.proj.get .a).lossCheck = false
          ∧ ((s.onProj .a fun x => { x with gate := .opened }).proj.get .a).gate = .opened
          ∧ (let t := after (.linePeriodBoundary (readings 80 560)) (s.onProj .a fun x => { x with stall := 9 })
            (t.proj.get .a).rate < 8 ∧ t.onScreen .a = false)
          ∧ (let t := after (.linePeriodBoundary (readings 80 560)) (s.onProj .a fun x => { x with stall := 8 })
            (t.proj.get .a).rate < 8 ∧ t.onScreen .a = true)
          ∧ (let t := after (.linePeriodBoundary (readings 80 560)) (s.onProj .a fun x => { x with pulses := 8 })
            8 ≤ (t.proj.get .a).rate ∧ t.onScreen .a = true)) := by decide

/-- A booth in the middle of a show meets every invariant. -/
theorem witness_invariants :
    (show_ .running).ScreenSafe ∧ (show_ .running).FireSafe ∧ (show_ .running).RangesSafe
      ∧ (show_ .running).LineSafe ∧ (show_ .running).ListSafe ∧ (show_ .running).FormatSafe
      ∧ (show_ .running).RodSafe ∧ (show_ .running).WithholdingSafe := by decide

/-- A booth held by a drop meets the fire invariant, and a withholding that stands meets its own. -/
theorem witness_StepKeepsFireSafe :
    (after .fireLinkOpen (show_ .running)).FireSafe ∧ (after .fireLinkOpen (show_ .running)).RangesSafe
      ∧ (after .fireLinkOpen (show_ .running)).fireAllows = false
      ∧ (after .strikeTest (atLead 127279)).seq.withholding.isSome = true
      ∧ (after .strikeTest (atLead 127279)).WithholdingSafe := by decide

/-- The step from a booth in the middle of a show: a boundary, and the arrival of a request. -/
theorem witness_StepKeepsScreenSafe :
    let s := { show_ .running with pending := [.linePeriodBoundary (readings 80 560)] }
    let t := after (.linePeriodBoundary (readings 80 560)) (show_ .running)
    s.ScreenSafe ∧ step s = .next t ∧ t.proj.a.state = .onScreen ∧ t.ScreenSafe ∧ t.LineSafe ∧ t.ListSafe :=
  ⟨by decide, rfl, by decide⟩

/-- A feed interval keeps the sum of stock and fed length; so does a taking of an entry of another kind. -/
theorem witness_StepKeepsRodAndWithholdingSafe :
    let s := { show_ .running with pending := [.feedInterval .a 560 80] }
    let t := after (.feedInterval .a 560 80) (show_ .running)
    s.RodSafe ∧ step s = .next t ∧ (t.lamp.get .a).fed ≠ 0
      ∧ (let u := { queued 0 [entryOf 0 false 16 3 []] (show_ .running) with pending := [.takeEntry] }
        u.nextStation = some 0 ∧ u.line.stations[(0 : Station)].queue = [entryOf 0 false 16 3 []]
          ∧ (entryOf 0 false 16 3 []).kind ≠ 18) :=
  ⟨by decide, rfl, by decide⟩

end Sys2Proof.Tests
end

section
/-! The line as the requests leave it: what each work of the request unit does to the line unit. -/

namespace Sys2Proof.Machine

open Sys2Proof

/-! ### The three ways to answer -/

@[simp] theorem answerDone_fst (s : State) (d : Nat) : (answerDone s d).1 = s := rfl

@[simp] theorem answerRefused_fst (s : State) (st : Status) (d : Nat) : (answerRefused s st d).1 = s := rfl

@[simp] theorem answerApplied_fst (s : State) (moved : Bool) (d : Nat) : (answerApplied s moved d).1 = s := rfl

/-! ### The works that keep the line -/

@[simp] theorem inquireWork_line (t : Target) (part : Nat) (s : State) : (inquireWork t part s).1.line = s.line := by
  unfold inquireWork; split <;> simp

@[simp] theorem readWork_line (t : Target) (item : Nat) (s : State) : (readWork t item s).1.line = s.line := by
  unfold readWork; split <;> simp

@[simp] theorem readReelWork_line (n : Nat) (s : State) : (readReelWork n s).1.line = s.line := by
  unfold readReelWork; split <;> simp

@[simp] theorem readConditionsWork_line (n part : Nat) (s : State) :
    (readConditionsWork n part s).1.line = s.line := by
  unfold readConditionsWork; (repeat' split) <;> simp

@[simp] theorem setModeWork_line (t : Target) (mode : Nat) (s : State) : (setModeWork t mode s).1.line = s.line := by
  unfold setModeWork setLightMode setArcMode; (repeat' split) <;> simp

@[simp] theorem applyLight_line (c : Channel) (level ramp : Nat) (s : State) :
    (applyLight c level ramp s).1.line = s.line := by
  simp [applyLight]

@[simp] theorem setValueLightWork_line (c : Channel) (level ramp : Nat) (s : State) :
    (setValueLightWork c level ramp s).1.line = s.line := by
  unfold setValueLightWork; (repeat' split) <;> simp

@[simp] theorem setTargetWork_line (t : Target) (level ramp : Nat) (s : State) :
    (setTargetWork t level ramp s).1.line = s.line := by
  unfold setTargetWork setTargetLight; (repeat' split) <;> simp

@[simp] theorem setValueArcWork_line (l : Side) (rate : Nat) (s : State) :
    (setValueArcWork l rate s).1.line = s.line := by
  unfold setValueArcWork; dsimp only; split <;> simp

@[simp] theorem settingReply_fst (n value applied : Nat) (s : State) : (settingReply n value applied s).1 = s := by
  unfold settingReply; split <;> rfl

@[simp] theorem setValueSettingWork_line (n value : Nat) (s : State) :
    (setValueSettingWork n value s).1.line = s.line := by
  unfold setValueSettingWork changeSettingWork; dsimp only; (repeat' split) <;> simp

@[simp] theorem onArc_line (t : Target) {work : Side → State → Judged} {s : State}
    (h : ∀ l, (work l s).1.line = s.line) : (onArc t work s).1.line = s.line := by
  unfold onArc; split <;> simp [h]

@[simp] theorem onProjector_line (t : Target) {work : Side → State → Judged} {s : State}
    (h : ∀ p, (work p s).1.line = s.line) : (onProjector t work s).1.line = s.line := by
  unfold onProjector; split <;> simp [h]

@[simp] theorem strikeWork_line (l : Side) (s : State) : (strikeWork l s).1.line = s.line := by
  unfold strikeWork; split <;> simp

@[simp] theorem extinguishWork_line (l : Side) (s : State) : (extinguishWork l s).1.line = s.line := by
  simp [extinguishWork]

@[simp] theorem newRodWork_line (length : Nat) (l : Side) (s : State) : (newRodWork length l s).1.line = s.line := by
  unfold newRodWork; (repeat' split) <;> simp

@[simp] theorem loadWork_line (reel f0 : Nat) (p : Side) (s : State) : (loadWork reel f0 p s).1.line = s.line := by
  unfold loadWork; (repeat' split) <;> simp [setReelStatus]

@[simp] theorem unloadWork_line (p : Side) (s : State) : (unloadWork p s).1.line = s.line := by
  unfold unloadWork; split <;> simp

@[simp] theorem inchWork_line (frames : Nat) (p : Side) (s : State) : (inchWork frames p s).1.line = s.line := by
  unfold inchWork; (repeat' split) <;> simp

@[simp] theorem startWork_line (p : Side) (s : State) : (startWork p s).1.line = s.line := by
  unfold startWork; split <;> simp

@[simp] theorem stopWork_line (p : Side) (s : State) : (stopWork p s).1.line = s.line := by
  unfold stopWork; (repeat' split) <;> simp

@[simp] theorem openWork_line (p : Side) (s : State) : (openWork p s).1.line = s.line := by
  unfold openWork; split <;> simp

@[simp] theorem swapWork_line (p : Side) (s : State) : (swapWork p s).1.line = s.line := by
  unfold swapWork; split <;> simp

@[simp] theorem commitEdit_line (records : List Reel) (s : State) : (commitEdit records s).1.line = s.line := by
  unfold commitEdit; dsimp only; split <;> simp

@[simp] theorem addWork_line (x : ReelEntry) (s : State) : (addWork x s).1.line = s.line := by
  unfold addWork; (repeat' split) <;> simp

@[simp] theorem insertWork_line (before : Nat) (x : ReelEntry) (s : State) :
    (insertWork before x s).1.line = s.line := by
  unfold insertWork; (repeat' split) <;> simp

@[simp] theorem removeWork_line (reel : Nat) (s : State) : (removeWork reel s).1.line = s.line := by
  unfold removeWork; (repeat' split) <;> simp

@[simp] theorem reelCueWork_line (reel action point level ramp : Nat) (s : State) :
    (reelCueWork reel action point level ramp s).1.line = s.line := by
  unfold reelCueWork; (repeat' split) <;> simp

@[simp] theorem clearListWork_line (s : State) : (clearListWork s).1.line = s.line := by
  unfold clearListWork; split <;> simp

@[simp] theorem repeatShowWork_line (s : State) : (repeatShowWork s).1.line = s.line := by
  unfold repeatShowWork; split <;> simp

@[simp] theorem skipReelWork_line (reel : Nat) (s : State) : (skipReelWork reel s).1.line = s.line := by
  unfold skipReelWork; (repeat' split) <;> simp

@[simp] theorem engageWork_line (s : State) : (engageWork s).1.line = s.line := by
  unfold engageWork; (repeat' split) <;> simp

@[simp] theorem disengageWork_line (s : State) : (disengageWork s).1.line = s.line := by
  unfold disengageWork; split <;> simp

@[simp] theorem startShowWork_line (s : State) : (startShowWork s).1.line = s.line := by
  unfold startShowWork; (repeat' split) <;> simp

@[simp] theorem resumeWork_line (s : State) : (resumeWork s).1.line = s.line := by
  unfold resumeWork; split <;> simp

@[simp] theorem clearConditionsWork_line (n : Nat) (s : State) : (clearConditionsWork n s).1.line = s.line := by
  unfold clearConditionsWork; (repeat' split) <;> simp

@[simp] theorem alertWork_line (n : Station) (s : State) : (alertWork n s).1.line = s.line := by
  unfold alertWork setFireState; split <;> simp

@[simp] theorem fireClearWork_line (s : State) : (fireClearWork s).1.line = s.line := by
  unfold fireClearWork setFireState; (repeat' split) <;> simp

@[simp] theorem dropWork_line (n : Station) (s : State) : (dropWork n s).1.line = s.line := by
  simp [dropWork]

@[simp] theorem fireAckWork_line (s : State) : (fireAckWork s).1.line = s.line := by
  unfold fireAckWork setFireState; split <;> simp

@[simp] theorem raiseWork_line (port : Nat) (s : State) : (raiseWork port s).1.line = s.line := by
  unfold raiseWork; (repeat' split) <;> simp

@[simp] theorem loadPresetWork_line (n : Nat) (s : State) : (loadPresetWork n s).1.line = s.line := by
  unfold loadPresetWork; dsimp only; (repeat' split) <;> simp

@[simp] theorem savePresetWork_line (n : Nat) (s : State) : (savePresetWork n s).1.line = s.line := by
  unfold savePresetWork; (repeat' split) <;> simp

end Sys2Proof.Machine
end

section
/-! The work of a request row, and the soundness of the line under the line unit's own operations. -/

namespace Sys2Proof.Machine

open Sys2Proof

/-! ### The work of a row -/

/-- The work of a request row on the state, of the owning block (steps 4 to 7 of R25); an event row has none. -/
def rowWork : Instr → State → Judged
  | .inquire _ t part => inquireWork t part
  | .read _ t item => readWork t item
  | .readReel _ _ reel => readReelWork reel
  | .readConditions _ _ condition part => readConditionsWork condition part
  | .setMode _ t mode => setModeWork t mode
  | .setValueHouse _ c level ramp => setValueLightWork c level ramp
  | .setValueArc _ l rate => setValueArcWork l rate
  | .setValueSetting _ k value => setValueSettingWork k value
  | .setTarget _ t level ramp => setTargetWork t level ramp
  | .strike _ t => onArc t strikeWork
  | .extinguish _ t => onArc t extinguishWork
  | .newRod _ t length => onArc t (newRodWork length)
  | .load _ t reel f0 => onProjector t (loadWork reel f0)
  | .unload _ t => onProjector t unloadWork
  | .inch _ t frames => onProjector t (inchWork frames)
  | .start _ t => onProjector t startWork
  | .stop _ t => onProjector t stopWork
  | .openDowser _ t => onProjector t openWork
  | .swap _ t => onProjector t swapWork
  | .add _ _ entry => addWork entry
  | .insert _ _ before entry => insertWork before entry
  | .remove _ _ reel => removeWork reel
  | .reelCue _ _ reel action point level ramp => reelCueWork reel action point level ramp
  | .clearList _ _ => clearListWork
  | .repeatShow _ _ => repeatShowWork
  | .skipReel _ _ reel => skipReelWork reel
  | .engage _ _ => engageWork
  | .disengage _ _ => disengageWork
  | .startShow _ _ => startShowWork
  | .resume _ _ => resumeWork
  | .clearConditions _ _ condition => clearConditionsWork condition
  | .lockStation _ _ m => lockWork m
  | .unlockStation _ _ m => unlockWork m
  | .generalReset _ _ => generalResetWork
  | .stopAll _ _ => stopAllWork
  | .alert n _ => alertWork n
  | .fireClear _ _ => fireClearWork
  | .drop n _ => dropWork n
  | .fireAck _ _ => fireAckWork
  | .raise _ _ port => raiseWork port
  | .loadPreset _ _ channel => loadPresetWork channel
  | .savePreset _ _ channel => savePresetWork channel
  | _ => fun s => answerRefused s .refusedFormat 0

/-- A request row is the taking of its work. -/
theorem exec_eq_takeAs {c : Instr} {n : Station} {k : Kind} {t : Target} (h : requestOf c = some (n, k, t))
    (s : State) : exec c s = takeAs n k t (rowWork c) s := by
  cases c <;> cases h <;> rfl

/-- The work on the data characters of an entry is that of the row it spells; an entry that spells none is refused. -/
theorem workOf_eq_rowWork (n : Station) (k : Kind) (t : Target) (d : List Nat) :
    (∃ c, commandOf n k t d = some c ∧ workOf n k t d = rowWork c)
      ∨ workOf n k t d = fun s => answerRefused s .refusedFormat 0 := by
  cases k
  case setValue =>
    cases t
    case noTarget | proj | shutters | automation | reels | presets | unknown => exact .inr rfl
    all_goals exact .inl ⟨_, rfl, rfl⟩
  all_goals exact .inl ⟨_, rfl, rfl⟩

/-! ### Station records -/

namespace StationRecord.Sound

variable {x : StationRecord}

theorem withQueue (h : x.Sound) {q : List Entry} (hq : q.length ≤ queueDepth) (ha : x.role = .absent → q = []) :
    (x.withQueue q).Sound := by
  obtain ⟨-, -, -, -, habsent, hlocked⟩ := h
  refine ⟨hq, rfl, fun h6 => ?_, fun h2 => ?_, fun hr => ⟨ha hr, (habsent hr).2⟩, hlocked⟩ <;>
    simp only [StationRecord.withQueue, holdAfter] at *
  · rw [if_pos h6]
  · rw [if_neg (by omega), if_pos h2]

theorem marked (h : x.Sound) (hr : x.role ≠ .absent) : ({ x with overrun := true } : StationRecord).Sound := by
  obtain ⟨hdepth, hbad, hheld, hfree, -, hlocked⟩ := h
  exact ⟨hdepth, hbad, hheld, hfree, fun ha => absurd ha hr, hlocked⟩

theorem noted (h : x.Sound) : ({ x with overrun := false } : StationRecord).Sound := by
  obtain ⟨hdepth, hbad, hheld, hfree, habsent, hlocked⟩ := h
  exact ⟨hdepth, hbad, hheld, hfree, fun ha => ⟨(habsent ha).1, rfl⟩, hlocked⟩

theorem lock (h : x.Sound) (hr : x.role = .house ∨ x.role = .programmer) :
    ({ x with locked := true } : StationRecord).Sound := by
  obtain ⟨hdepth, hbad, hheld, hfree, habsent, -⟩ := h
  exact ⟨hdepth, hbad, hheld, hfree, habsent, fun _ => hr⟩

theorem unlock (h : x.Sound) : ({ x with locked := false } : StationRecord).Sound := by
  obtain ⟨hdepth, hbad, hheld, hfree, habsent, -⟩ := h
  exact ⟨hdepth, hbad, hheld, hfree, habsent, fun hl => by cases hl⟩

theorem powerOn (r : Role) : (StationRecord.powerOn r).Sound :=
  ⟨Nat.zero_le _, rfl, fun h => absurd h (by simp [StationRecord.powerOn]), fun _ => rfl, fun _ => ⟨rfl, rfl⟩,
    fun h => by cases h⟩

/-- A station with an entry in its queue is not strapped ABSENT. -/
theorem role_ne_absent (h : x.Sound) {e : Entry} {rest : List Entry} (hq : x.queue = e :: rest) :
    x.role ≠ .absent := by
  obtain ⟨-, -, -, -, habsent, -⟩ := h
  intro ha
  rw [(habsent ha).1] at hq
  cases hq

end StationRecord.Sound

/-! ### The line unit -/

/-- The line unit alone is sound: `State.LineSafe` said of every station at once. -/
structure LineUnit.Sound (u : LineUnit) : Prop where
  stations : ∀ n : Station, u.stations[n].Sound
  replies : u.replies.length ≤ replyDepth
  lane : ∀ e ∈ u.lane, e.priority = true ∧ u.stations[e.station].role ≠ .absent

theorem lineSafe_iff (s : State) : s.LineSafe ↔ s.line.Sound := by
  have lane : s.line.lane.all (fun e => e.priority && !s.absent e.station) = true ↔
      ∀ e ∈ s.line.lane, e.priority = true ∧ s.line.stations[e.station].role ≠ .absent := by
    simp [State.absent]
  constructor
  · rintro ⟨h0, h1, h2, h3, h4, h5, hreplies, hlane⟩
    exact ⟨fun n => by fin_cases n <;> assumption, hreplies, lane.1 hlane⟩
  · rintro ⟨hs, hreplies, hlane⟩
    exact ⟨hs 0, hs 1, hs 2, hs 3, hs 4, hs 5, hreplies, lane.2 hlane⟩

/-- One line unit has stations as sound as another's, strapped alike, the same lane and no more answers. -/
structure LineUnit.Follows (u v : LineUnit) : Prop where
  stations : ∀ n : Station, u.stations[n].Sound → v.stations[n].Sound
  role : ∀ n : Station, v.stations[n].role = u.stations[n].role
  lane : v.lane = u.lane
  replies : v.replies.length ≤ u.replies.length

theorem LineUnit.Follows.of_eq {u v : LineUnit} (h : v = u) : u.Follows v := by
  subst h; exact ⟨fun _ hs => hs, fun _ => rfl, rfl, le_rfl⟩

namespace LineUnit.Sound

variable {u v : LineUnit}

theorem follows (h : u.Sound) (hf : u.Follows v) : v.Sound :=
  ⟨fun n => hf.stations n (h.stations n), hf.replies.trans h.replies, fun e he => by
    rw [hf.role]; exact h.lane e (hf.lane ▸ he)⟩

theorem answered (h : u.Sound) (hr : u.replies.length < replyDepth) (x : Answer) :
    ({ u with replies := u.replies ++ [x] } : LineUnit).Sound :=
  ⟨h.stations, by simpa using hr, h.lane⟩

end LineUnit.Sound

/-- The record of one station replaced by one as sound with the same role. -/
theorem LineUnit.Follows.set {u : LineUnit} {n : Station} {x : StationRecord}
    (hs : u.stations[n].Sound → x.Sound) (hr : x.role = u.stations[n].role) :
    u.Follows { u with stations := u.stations.set n x } := by
  have read : ∀ m : Station, (u.stations.set n x)[m] = if n = m then x else u.stations[m] := fun m => by
    simp [Vector.getElem_set, Fin.ext_iff]
  refine ⟨fun m hm => ?_, fun m => ?_, rfl, le_rfl⟩ <;> dsimp only <;> rw [read] <;> split
  case refine_1.isTrue h => subst h; exact hs hm
  case refine_2.isTrue h => subst h; exact hr
  case refine_1.isFalse => exact hm
  case refine_2.isFalse => rfl

end Sys2Proof.Machine
end

section
/-! Every step keeps the line sound. -/

namespace Sys2Proof.Machine

open Sys2Proof

/-! ### Requests -/

theorem lockWork_follows (m : Nat) (s : State) : s.line.Follows (lockWork m s).1.line := by
  unfold lockWork
  split
  · exact .of_eq rfl
  · split
    · rename_i hr
      exact .set (fun h => h.lock hr) rfl
    · exact .of_eq rfl

theorem unlockWork_follows (m : Nat) (s : State) : s.line.Follows (unlockWork m s).1.line := by
  unfold unlockWork
  split
  · exact .of_eq rfl
  · exact .set StationRecord.Sound.unlock rfl

theorem LineUnit.generalReset_follows (u : LineUnit) : u.Follows u.generalReset :=
  ⟨fun n _ => by simpa [LineUnit.generalReset] using StationRecord.Sound.powerOn _,
    fun n => by simp [LineUnit.generalReset, StationRecord.powerOn], rfl, Nat.zero_le _⟩

theorem generalResetWork_follows (s : State) : s.line.Follows (generalResetWork s).1.line := by
  unfold generalResetWork
  (repeat' split)
  · exact .of_eq rfl
  · exact .of_eq rfl
  · exact s.line.generalReset_follows

/-- Whatever a request row's work does to the line, the line follows it. -/
theorem rowWork_follows (c : Instr) (s : State) : s.line.Follows (rowWork c s).1.line := by
  cases c
  case lockStation => exact lockWork_follows ..
  case unlockStation => exact unlockWork_follows ..
  case generalReset => exact generalResetWork_follows ..
  all_goals exact .of_eq (by simp [rowWork, stopAllWork_line])

theorem workOf_follows (n : Station) (k : Kind) (t : Target) (d : List Nat) (s : State) :
    s.line.Follows (workOf n k t d s).1.line := by
  obtain ⟨c, -, h⟩ | h := workOf_eq_rowWork n k t d <;> rw [h]
  · exact rowWork_follows c s
  · exact .of_eq rfl

theorem judge_follows {work : State → Judged} {s : State} (n : Station) (k : Kind) (t : Target)
    (h : s.line.Follows (work s).1.line) : s.line.Follows (judge n k t work s).1.line := by
  unfold judge
  (repeat' split) <;> first | exact h | exact .of_eq rfl

theorem handleEntry_follows (n : Station) (e : Entry) (s : State) :
    s.line.Follows (handleEntry n e s).1.line := by
  unfold handleEntry serveEntry
  (repeat' split)
  · exact .of_eq rfl
  · exact .of_eq rfl
  · exact judge_follows _ _ _ (workOf_follows ..)

theorem queueAnswer_line (n : Station) (kind : Nat) (x : Judged) :
    (queueAnswer n kind x).line =
      { x.1.line with
        replies := x.1.line.replies ++ [{ station := n, kind := kind, status := x.2.status, data := x.2.data }] } :=
  rfl

theorem loseForStation_line (n : Station) (s : State) :
    (loseForStation n s).line =
      { s.line with stations := s.line.stations.set n { s.line.stations[n] with overrun := true } } := by
  simp [loseForStation]

theorem loseForStation_sound {n : Station} {s : State} (h : s.line.Sound) (hr : s.line.stations[n].role ≠ .absent) :
    (loseForStation n s).line.Sound := by
  rw [loseForStation_line]
  exact h.follows (.set (fun hx => hx.marked hr) rfl)

/-- An answered request keeps the line sound where the answer finds room. -/
theorem queueAnswer_sound {n : Station} {kind : Nat} {x : Judged} {u : LineUnit} (h : u.Sound)
    (hf : u.Follows x.1.line) (hr : u.replies.length < replyDepth) : (queueAnswer n kind x).line.Sound := by
  rw [queueAnswer_line]
  exact (h.follows hf).answered (hf.replies.trans_lt hr) _

/-- A priority request keeps the line sound whether its answer is placed or lost (R14). -/
theorem queuePriorityAnswer_sound {n : Station} {kind : Nat} {x : Judged} {u : LineUnit} (h : u.Sound)
    (hf : u.Follows x.1.line) (hr : u.stations[n].role ≠ .absent) :
    (queuePriorityAnswer n kind x).line.Sound := by
  unfold queuePriorityAnswer
  split
  · rename_i hroom
    rw [queueAnswer_line]
    exact (h.follows hf).answered hroom _
  · exact loseForStation_sound (h.follows hf) (hf.role n ▸ hr)

theorem absent_eq_false_iff (s : State) (n : Station) :
    s.absent n = false ↔ s.line.stations[n].role ≠ .absent := by
  simp [State.absent]

theorem mayTake_room {s : State} (h : s.mayTake = true) : s.line.replies.length < ordinaryRoom := by
  simp only [State.mayTake, Bool.and_eq_true, decide_eq_true_eq] at h
  exact h.2

theorem mayTake_room_reply {s : State} (h : s.mayTake = true) : s.line.replies.length < replyDepth :=
  (mayTake_room h).trans (by decide)

theorem takeAs_sound {n : Station} {k : Kind} {t u : State} {target : Target} {work : State → Judged}
    (hw : ∀ s : State, s.line.Follows (work s).1.line) (h : t.line.Sound)
    (he : takeAs n k target work t = .next u) : u.line.Sound := by
  unfold takeAs takePriority takeRequest at he
  have hj := judge_follows n k target (hw t)
  split at he <;> injection he with he <;> subst he <;> split
  case isTrue.isTrue => exact h
  case isTrue.isFalse ha => exact queuePriorityAnswer_sound h hj ((absent_eq_false_iff t n).1 (by simpa using ha))
  case isFalse.isTrue ht => exact queueAnswer_sound h hj (mayTake_room_reply ht.2)
  case isFalse.isFalse => exact h

/-! ### The line unit's own rows -/

theorem LineUnit.atPowerOn_sound (x : PowerOnSensed) : (LineUnit.atPowerOn x).Sound :=
  ⟨fun n => by fin_cases n <;> exact .powerOn _, Nat.zero_le _, fun _ h => by cases h⟩

theorem powerUp_line (x : PowerOnSensed) (s : State) : (powerUp x s).line = LineUnit.atPowerOn x := by
  unfold powerUp
  dsimp only
  (repeat' split) <;> simp [poweredBlocks]

theorem LineUnit.answerSent_follows (u : LineUnit) : u.Follows u.answerSent := by
  unfold LineUnit.answerSent
  split
  · exact .of_eq rfl
  · rename_i x rest hq
    have hset := LineUnit.Follows.set (u := u) (n := x.station) StationRecord.Sound.noted rfl
    exact ⟨hset.stations, hset.role, rfl, by simp [hq]⟩

theorem sendFrame_line (s : State) : (sendFrame s).line = { s.line.answerSent with frame := frameOf s } := rfl

/-- The state whose frame a boundary sends: the blocks' own work and the ramp step done, and the countdown evaluated
unless an emergency swap has passed the screen (log entry 7). -/
def framed (r : Readings) (s : State) : State :=
  if s.screenPassed (rampStep (ownWork r s)) then rampStep (ownWork r s) else countdownStep (rampStep (ownWork r s))

theorem framed_line (r : Readings) (s : State) : (framed r s).line = s.line := by
  unfold framed; split <;> simp

/-- A boundary changes the line by its frame alone. -/
theorem boundary_line (r : Readings) (s : State) :
    (boundary r s).line = { s.line.answerSent with frame := frameOf (framed r s) } := by
  unfold boundary framed
  dsimp only
  split <;> simp [sendFrame_line]

theorem arrive_sound {e : Entry} {s : State} (h : s.line.Sound) (hr : s.line.stations[e.station].role ≠ .absent) :
    (arrive e s).line.Sound := by
  unfold arrive
  split
  · rename_i hp
    refine ⟨h.stations, h.replies, fun x hx => ?_⟩
    obtain hx | hx := List.mem_append.1 hx
    · exact h.lane x hx
    · obtain rfl := List.mem_singleton.1 hx
      exact ⟨hp, hr⟩
  · split
    · rename_i hroom
      have hline : (joinQueue e s).line =
          { s.line with
            stations := s.line.stations.set e.station
              (s.line.stations[e.station].withQueue (s.line.stations[e.station].queue ++ [e])) } := by
        unfold joinQueue; dsimp only; split <;> simp
      rw [hline]
      exact h.follows (.set (fun hx => hx.withQueue (by simpa using hroom) fun ha => absurd ha hr) rfl)
    · exact loseForStation_sound h hr

/-- What a slot yields is an entry of its station, which is not ABSENT. -/
theorem slotYield_some {n : Station} {role : Role} {slot : Slot} {e : Entry} (h : slotYield n role slot = some e) :
    e.station = n ∧ role ≠ .absent := by
  unfold slotYield at h
  split at h
  · cases h
  · rename_i hr
    split at h
    · cases h
    · cases h
    · split at h
      · cases h
      · cases h
        exact ⟨rfl, hr⟩

theorem takeNext_sound {s : State} (h : s.line.Sound) : (takeNext s).line.Sound := by
  unfold takeNext
  (repeat' split) <;> try exact h
  rename_i hmay _ n _ _ e rest hq
  have htaken : ({ s.onStation n fun x => x.withQueue rest with rotation := n } : State).line.Sound :=
    h.follows (.set (fun hx =>
      hx.withQueue (by have := hx.1; rw [hq] at this; exact (Nat.le_succ _).trans this)
        fun ha => absurd ha (hx.role_ne_absent hq)) rfl)
  exact queueAnswer_sound htaken (handleEntry_follows ..) (mayTake_room_reply hmay)

theorem takePriorityNext_sound {s : State} (h : s.line.Sound) : (takePriorityNext s).line.Sound := by
  unfold takePriorityNext
  split
  · exact h
  · rename_i e rest hlane
    have htaken : (s.onLine fun u => { u with lane := rest }).line.Sound :=
      ⟨h.stations, h.replies, fun x hx => h.lane x (hlane ▸ List.mem_cons_of_mem _ hx)⟩
    exact queuePriorityAnswer_sound htaken (handleEntry_follows ..) (h.lane e (hlane ▸ List.mem_cons_self)).2

/-- The rows of the line unit, of power-on and of the boundary: the events that bear on the line. -/
def isLineRow : Instr → Bool
  | .powerOn _ | .linePeriodBoundary _ | .requestSlot _ _ | .lineBreak | .lineBreakEnd | .takeEntry
  | .takePriorityEntry => true
  | _ => false

/-- Every other event keeps the line. -/
theorem exec_event_line {c : Instr} (hr : requestOf c = none) (hl : isLineRow c = false) (s : State) :
    ∃ t, exec c s = .next t ∧ t.line = s.line := by
  cases c
  case highClampAdjust l => exact ⟨_, rfl, by split <;> simp⟩
  case lowClampAdjust l => exact ⟨_, rfl, by split <;> simp⟩
  case trimConverged l => exact ⟨_, rfl, by split <;> simp⟩
  case trimFailed l => exact ⟨_, rfl, by split <;> simp⟩
  all_goals first | (cases hr; done) | (cases hl; done) | exact ⟨_, rfl, by simp⟩

/-- The rows of the line unit, of power-on and of the boundary keep the line sound. -/
theorem exec_lineRow_sound {c : Instr} {s t : State} (hl : isLineRow c = true) (h : s.line.Sound)
    (he : exec c s = .next t) : t.line.Sound := by
  cases c
  case powerOn x =>
    obtain rfl := Host.Outcome.next.inj he
    rw [powerUp_line]
    exact LineUnit.atPowerOn_sound x
  case linePeriodBoundary r =>
    obtain rfl := Host.Outcome.next.inj he
    rw [boundary_line]
    have hsent := h.follows s.line.answerSent_follows
    exact ⟨hsent.stations, hsent.replies, hsent.lane⟩
  case requestSlot n slot =>
    obtain rfl := Host.Outcome.next.inj he
    split
    · exact h
    · rename_i e hy
      obtain ⟨rfl, hr⟩ := slotYield_some hy
      exact arrive_sound h hr
  case lineBreak =>
    obtain rfl := Host.Outcome.next.inj he
    unfold breakLine
    split
    · exact h
    · simpa using ⟨h.stations, h.replies, h.lane⟩
  case lineBreakEnd =>
    obtain rfl := Host.Outcome.next.inj he
    exact ⟨h.stations, h.replies, h.lane⟩
  case takeEntry =>
    obtain rfl := Host.Outcome.next.inj he
    exact takeNext_sound h
  case takePriorityEntry =>
    obtain rfl := Host.Outcome.next.inj he
    exact takePriorityNext_sound h
  all_goals nomatch hl

theorem exec_keeps_line_sound {c : Instr} {s t : State} (h : s.line.Sound) (he : exec c s = .next t) :
    t.line.Sound := by
  cases hreq : requestOf c with
  | some x =>
    obtain ⟨n, k, target⟩ := x
    rw [exec_eq_takeAs hreq] at he
    exact takeAs_sound (rowWork_follows c) h he
  | none =>
    cases hline : isLineRow c with
    | true => exact exec_lineRow_sound hline h he
    | false =>
      obtain ⟨u, hu, hkept⟩ := exec_event_line hreq hline s
      obtain rfl := Host.Outcome.next.inj (hu.symm.trans he)
      rw [hkept]
      exact h

/-- Settles O57: a request row is the request unit's judging of work that the line follows, the rows of the line unit
are taken one by one, and every other event keeps the line as it stands. -/
theorem stepKeepsLineSafe : Obligations.StepKeepsLineSafe := by
  unfold Obligations.StepKeepsLineSafe
  intro s t hs hstep
  rw [lineSafe_iff] at hs ⊢
  unfold step at hstep
  split at hstep
  · injection hstep with hstep
    rw [← hstep]; exact hs
  · rename_i c rest _
    exact exec_keeps_line_sound (s := { s with pending := rest }) hs hstep

end Sys2Proof.Machine
end

section
/-! Taking an entry: from the queues in rotation, from the priority lane, and the request rows that wait. -/

namespace Sys2Proof.Machine

open Sys2Proof

/-! ### What a taking is -/

theorem takeNext_of_not_mayTake {s : State} (h : s.mayTake = false) : takeNext s = s := by
  simp [takeNext, h]

/-- The taking of the head entry of the station that the rotation gives (R17). -/
theorem takeNext_eq {s : State} {n : Station} {e : Entry} {rest : List Entry} (hmay : s.mayTake = true)
    (hn : s.nextStation = some n) (hq : s.line.stations[n].queue = e :: rest) :
    takeNext s = takeFrom n e rest s := by
  rw [takeNext, if_pos hmay, hn]
  dsimp only
  rw [hq]

theorem handleEntry_bad {n : Station} {e : Entry} {s : State} (h : e.bad = true) :
    handleEntry n e s = answerRefused s .lineFault 0 := by
  simp [handleEntry, h]

theorem handleEntry_unknown {n : Station} {e : Entry} {s : State} (hb : e.bad = false)
    (hk : Kind.ofCode e.kind = none) : handleEntry n e s = answerRefused s .refusedFormat 0 := by
  simp [handleEntry, serveEntry, hb, hk]

theorem handleEntry_kind {n : Station} {e : Entry} {k : Kind} {s : State} (hb : e.bad = false)
    (hk : Kind.ofCode e.kind = some k) :
    handleEntry n e s = judge n k (Target.ofCode e.target) (workOf n k (Target.ofCode e.target) e.data) s := by
  simp [handleEntry, serveEntry, hb, hk]

/-- A command that an entry spells is of the entry's kind, and takes the work on the entry's data characters. -/
theorem exec_command {e : Entry} {n : Station} {c : Instr} (h : e.command n = some c) :
    ∃ k, Kind.ofCode e.kind = some k ∧ k.code = e.kind
      ∧ ∀ s, exec c s = takeAs n k (Target.ofCode e.target) (workOf n k (Target.ofCode e.target) e.data) s := by
  obtain ⟨k, hk, hc⟩ := Option.bind_eq_some_iff.1 h
  exact ⟨k, hk, kind_ofCode_code hk, exec_commandOf hc⟩

/-- The state with the head entry of a station's queue removed and the pointer moved (R17). -/
def State.withoutHead (s : State) (n : Station) (rest : List Entry) : State :=
  { s.onStation n fun x => x.withQueue rest with rotation := n }

theorem takeFrom_eq (n : Station) (e : Entry) (rest : List Entry) (s : State) :
    takeFrom n e rest s = queueAnswer n e.kind (handleEntry n e (s.withoutHead n rest)) := rfl

/-- A station that is not ABSENT is taken from while the request unit may take: its answer finds room whatever its
kind. -/
theorem takes_of_mayTake {s : State} {n : Station} (k : Kind) (ha : s.line.stations[n].role ≠ .absent)
    (h : s.mayTake = true) : s.takes n k = true := by
  simp [State.takes, (absent_eq_false_iff s n).2 ha, h, mayTake_room_reply h]

theorem priority_iff (e : Entry) : e.priority = true ↔ e.bad = false ∧ (e.kind = 57 ∨ e.kind = 56) := by
  rw [Entry.priority, Bool.and_eq_true, Bool.or_eq_true, decide_eq_true_eq, decide_eq_true_eq, Bool.not_eq_true']
  rfl

theorem isPriorityKind_of_priority {e : Entry} {k : Kind} (hp : e.priority = true) (hk : Kind.ofCode e.kind = some k) :
    isPriorityKind k = true := by
  obtain ⟨-, h | h⟩ := (priority_iff e).1 hp <;> rw [h] at hk <;> cases hk <;> rfl

/-- Settles O6: both ways of handling an entry are the request unit's judging of the same work. -/
theorem takenEntryIsTheCommandItSpells : Obligations.TakenEntryIsTheCommandItSpells := by
  unfold Obligations.TakenEntryIsTheCommandItSpells
  constructor
  · intro s n e rest c ha hmay hn hq hb hc
    obtain ⟨k, hk, hcode, hexec⟩ := exec_command hc
    have hmay' : (s.withoutHead n rest).mayTake = true := hmay
    have ha' : (s.withoutHead n rest).line.stations[n].role ≠ .absent := by
      simpa [State.withoutHead, StationRecord.withQueue] using ha
    calc exec .takeEntry s = .next (takeFrom n e rest s) := congrArg Host.Outcome.next (takeNext_eq hmay hn hq)
      _ = exec c (s.withoutHead n rest) := by
        rw [hexec, takeAs_takes (workOf_orderly n k _ e.data) (takes_of_mayTake k ha' hmay'), takeFrom_eq,
          handleEntry_kind hb hk, hcode]
  · intro s e rest c ha hl hp hc
    obtain ⟨k, hk, hcode, hexec⟩ := exec_command hc
    have ha' : (s.onLine fun u => { u with lane := rest }).absent e.station = false :=
      (absent_eq_false_iff _ _).2 ha
    change _ = exec c (s.onLine fun u => { u with lane := rest })
    rw [hexec, takeAs, if_pos (isPriorityKind_of_priority hp hk), takePriority, ha', if_neg Bool.false_ne_true,
      ← handleEntry_kind ((priority_iff e).1 hp).1 hk, hcode]
    change Host.Outcome.next (takePriorityNext s) = _
    rw [takePriorityNext, hl]

/-! ### The rotation (R17) -/

theorem rotationOrder_eq (p : Station) : rotationOrder p = (List.finRange 6).map fun j => p + 1 + j := by
  revert p; decide

/-- The first station after the pointer whose queue is not empty. -/
theorem nextStation_eq {s : State} {j : Fin 6}
    (hbefore : ∀ i : Fin 6, i < j → s.line.stations[s.rotation + 1 + i].queue = [])
    (hat : s.line.stations[s.rotation + 1 + j].queue ≠ []) : s.nextStation = some (s.rotation + 1 + j) := by
  rw [State.nextStation, rotationOrder_eq, List.find?_map, Option.map_eq_some_iff]
  refine ⟨j, ?_, rfl⟩
  rw [List.find?_eq_some_iff_getElem]
  refine ⟨by simpa using hat, j, by simp, by simp, fun i hi => ?_⟩
  simpa using hbefore ⟨i, hi.trans j.isLt⟩ hi

theorem nextStation_eq_none {s : State} (h : ∀ n : Station, s.line.stations[n].queue = []) :
    s.nextStation = none :=
  List.find?_eq_none.2 fun n _ => by rw [h n]; decide

/-- Settles O7: the first non-empty queue after the pointer is the one the search finds, and a BAD entry or one of
unknown kind is answered without any block's work. -/
theorem entriesAreTakenInRotation : Obligations.EntriesAreTakenInRotation := by
  unfold Obligations.EntriesAreTakenInRotation
  constructor
  · rintro s j n e rest hmay rfl hbefore hq hkind
    have hn := nextStation_eq hbefore (hq ▸ List.cons_ne_nil e rest)
    change Host.Outcome.next (takeNext s) = _
    rw [takeNext_eq hmay hn hq, takeFrom_eq]
    obtain hb | ⟨hb, hk⟩ : e.bad = true ∨ e.bad = false ∧ Kind.ofCode e.kind = none := by
      cases h : e.bad <;> simp_all
    · rw [handleEntry_bad hb, hb]; rfl
    · rw [handleEntry_unknown hb hk, hb]; rfl
  · rintro s (hmay | hempty)
    · exact congrArg Host.Outcome.next (takeNext_of_not_mayTake hmay)
    · have hnone := nextStation_eq_none hempty
      change Host.Outcome.next (takeNext s) = _
      simp [takeNext, hnone]

/-! ### The rows that wait -/

/-- Settles O5: the row is the request unit's taking of its work, which waits while it may not take one. -/
theorem ordinaryRequestWaitsForRoom : Obligations.OrdinaryRequestWaitsForRoom := by
  unfold Obligations.OrdinaryRequestWaitsForRoom
  intro c n k t s hreq hk hmay
  rw [exec_eq_takeAs hreq, takeAs, hk, if_neg Bool.false_ne_true, takeRequest, hmay]
  simp

/-! ### The line break (R19) -/

/-- Settles O10: the break is one raise of LINE_FAULT on the broken line. -/
theorem lineBreakAndItsEnd : Obligations.LineBreakAndItsEnd := by
  unfold Obligations.LineBreakAndItsEnd
  refine ⟨fun s hb => ⟨_, rfl, ?_⟩, fun s hb => ?_, fun s => rfl⟩
  · have hbreak : breakLine s =
        raiseCondition .lineFault { unit := .nothing, f := none, t := none }
          (s.onLine fun u => { u with broken := true }) := by
      simp [breakLine, hb]
    rw [hbreak]
    exact ⟨by simp, by simp [State.current], raiseCondition_raised .lineFault _ (s.onLine _),
      raiseCondition_automation .lineFault _ (s.onLine _)⟩
  · change Host.Outcome.next (breakLine s) = _
    simp [breakLine, hb]

end Sys2Proof.Machine
end

section
/-! What a request slot becomes (R4, R5, R8 to R11, R13, R179). -/

namespace Sys2Proof.Machine

open Sys2Proof

/-! ### The errors of a character (R179) -/

theorem ones_eq_sum (c : Character) :
    Character.ones c = ((List.range 8).map fun i => c.toNat / 2 ^ i % 2).sum := by
  have bitOf (i : Nat) : (if c.getLsbD i then 1 else 0) = c.toNat / 2 ^ i % 2 := by
    rw [BitVec.getLsbD, Nat.testBit_eq_decide_div_mod_eq]
    split <;> simp_all
  have count (l : List Nat) : l.countP (fun i => c.getLsbD i) = (l.map fun i => c.toNat / 2 ^ i % 2).sum := by
    induction l with
    | nil => rfl
    | cons i l ih => rw [List.countP_cons, ih, List.map_cons, List.sum_cons, ← bitOf, Nat.add_comm]
  exact count _

theorem parityError_iff (c : SlotCharacter) :
    c.parityError = true ↔
      (((List.range 8).map fun i => c.value.toNat / 2 ^ i % 2).sum + bit c.parityBit) % 2 = 1 := by
  rw [SlotCharacter.parityError, ones_eq_sum, beq_iff_eq]

theorem framingError_iff (c : SlotCharacter) : c.framingError = true ↔ c.stopBit = false := by
  simp [SlotCharacter.framingError]

theorem faulty_iff (c : SlotCharacter) : faulty c = true ↔ c.parityError = true ∨ c.framingError = true := by
  simp [faulty]

/-! ### The entry of a slot (R4, R5) -/

theorem slotEntry_bad_iff (n : Station) (first : SlotCharacter) (rest : List SlotCharacter) :
    (slotEntry n first rest).bad = true ↔
      (∃ c ∈ (first :: rest).take 10, c.parityError = true ∨ c.framingError = true)
        ∨ rest.length < 9
        ∨ (((first :: rest).take 10).map fun c => c.value.toNat).sum % 256 ≠ 0 := by
  have short : ((first :: rest).take 10).length < 10 ↔ rest.length < 9 := by
    rw [List.length_take, List.length_cons]; omega
  change requestBad ((first :: rest).take 10) = true ↔ _
  simp only [requestBad, Bool.or_eq_true, decide_eq_true_eq, List.any_eq_true, faulty_iff, short, or_assoc]

theorem slotEntry_fields (n : Station) (first second : SlotCharacter) (more : List SlotCharacter) :
    (slotEntry n first (second :: more)).target = second.value.toNat
      ∧ (slotEntry n first (second :: more)).data = (more.take 7).map fun c => c.value.toNat := by
  simp [slotEntry, ← List.map_take, List.take_take]

theorem slotYield_none {n : Station} {role : Role} {slot : Slot}
    (h : role = .absent ∨ slot = .noStartBit ∨ slot = .heldAtSpace
      ∨ ∃ first rest, slot = .characters first rest ∧ first.value = 255 ∧ first.parityError = false
          ∧ first.framingError = false) : slotYield n role slot = none := by
  unfold slotYield
  split
  · rfl
  · rename_i hr
    obtain h | rfl | rfl | ⟨first, rest, rfl, hv, hp, hf⟩ := h
    · exact absurd h hr
    · rfl
    · rfl
    · exact if_pos ⟨hv, by simp [faulty, hp, hf]⟩

theorem slotYield_characters {n : Station} {role : Role} {first : SlotCharacter} {rest : List SlotCharacter}
    (hr : role ≠ .absent) (h : first.value ≠ 255 ∨ first.parityError = true ∨ first.framingError = true) :
    slotYield n role (.characters first rest) = some (slotEntry n first rest) := by
  rw [slotYield, if_neg hr]
  refine if_neg fun ⟨hv, hf⟩ => ?_
  obtain h | h := h
  · exact h hv
  · rw [(faulty_iff first).2 h] at hf
    cases hf

theorem exec_requestSlot_none {n : Station} {slot : Slot} {s : State}
    (h : slotYield n s.line.stations[n].role slot = none) : exec (.requestSlot n slot) s = .next s := by
  change Host.Outcome.next _ = _
  rw [h]

theorem exec_requestSlot_some {n : Station} {slot : Slot} {s : State} {e : Entry}
    (h : slotYield n s.line.stations[n].role slot = some e) : exec (.requestSlot n slot) s = .next (arrive e s) := by
  change Host.Outcome.next _ = _
  rw [h]

/-! ### The arrival of an entry (R8, R9, R13) -/

theorem arrive_priority {e : Entry} {s : State} (hb : e.bad = false) (hk : e.kind = 56 ∨ e.kind = 57) :
    arrive e s = { s with line := { s.line with lane := s.line.lane ++ [e] } } :=
  if_pos ((priority_iff e).2 ⟨hb, hk.symm⟩)

theorem arrive_joins {e : Entry} {s : State} (hp : e.priority = false)
    (hroom : s.line.stations[e.station].queue.length < queueDepth) : arrive e s = joinQueue e s := by
  rw [arrive, hp, if_neg Bool.false_ne_true, if_pos hroom]

theorem arrive_lost {e : Entry} {s : State} (hp : e.priority = false)
    (hfull : queueDepth ≤ s.line.stations[e.station].queue.length) : arrive e s = loseForStation e.station s := by
  rw [arrive, hp, if_neg Bool.false_ne_true, if_neg hfull.not_gt]

/-- A queue with one entry more: its hold mark by the depth before it (R10). -/
theorem withQueue_append (x : StationRecord) (e : Entry) :
    x.withQueue (x.queue ++ [e]) =
      { x with
        queue := x.queue ++ [e]
        hold := if 5 ≤ x.queue.length then true else if x.queue.length ≤ 1 then false else x.hold
        badEntry := x.queue.any Entry.bad || e.bad } := by
  simp [StationRecord.withQueue, holdAfter]

theorem joinQueue_good {e : Entry} {s : State} (hb : e.bad = false) :
    joinQueue e s = s.onStation e.station fun x => x.withQueue (x.queue ++ [e]) := by
  rw [joinQueue, hb]; rfl

theorem joinQueue_bad {e : Entry} {s : State} (hb : e.bad = true) :
    joinQueue e s =
      raiseCondition .lineFault { unit := .station e.station, f := none, t := none }
        (s.onStation e.station fun x => x.withQueue (x.queue ++ [e])) := by
  rw [joinQueue, hb]; rfl

/-- A raise of LINE_FAULT on a state whose line alone has changed is a raise of the state before. -/
theorem lineFault_onLine (d : Detail) (g : LineUnit → LineUnit) (s : State) :
    (raiseCondition .lineFault d (s.onLine g)).line = g s.line
      ∧ s.Raised (raiseCondition .lineFault d (s.onLine g)) .lineFault d
      ∧ (raiseCondition .lineFault d (s.onLine g)).seq.automation = automationAfter s .lineFault :=
  ⟨by simp, raiseCondition_raised .lineFault d (s.onLine g), raiseCondition_automation .lineFault d (s.onLine g)⟩

/-- Settles O9: what the slot yields is the entry of its characters, which the lane, its queue or a full queue receives,
in exclusive cases. -/
theorem requestSlotBecomesAnEntry : Obligations.RequestSlotBecomesAnEntry := by
  unfold Obligations.RequestSlotBecomesAnEntry
  refine ⟨fun c => ⟨parityError_iff c, framingError_iff c⟩,
    fun n slot s h => exec_requestSlot_none (slotYield_none h), ?_⟩
  rintro n first rest s hr hshape e rfl
  have hexec := exec_requestSlot_some (s := s) (slotYield_characters (n := n) (rest := rest) hr hshape)
  have hstation : (slotEntry n first rest).station = n := rfl
  refine ⟨⟨rfl, rfl, ?_⟩, slotEntry_bad_iff n first rest, fun hb hk => ?_, fun hb h56 h57 hroom => ?_,
    fun hb hroom => ?_, fun hk hfull => ?_⟩
  · rintro second more rfl
    exact slotEntry_fields n first second more
  · rw [hexec, arrive_priority hb hk]
  · have hp : (slotEntry n first rest).priority = false :=
      Bool.eq_false_iff.2 fun hp => ((priority_iff _).1 hp).2.elim h57 h56
    rw [hexec, arrive_joins hp hroom, joinQueue_good hb]
    simp only [withQueue_append, hb, Bool.or_false, hstation]
  · have hp : (slotEntry n first rest).priority = false :=
      Bool.eq_false_iff.2 fun hp => absurd (hb.symm.trans ((priority_iff _).1 hp).1) (by decide)
    refine ⟨_, hexec, ?_⟩
    rw [arrive_joins hp hroom, joinQueue_bad hb]
    simp only [withQueue_append, hb, Bool.or_true, hstation]
    exact lineFault_onLine _ _ s
  · have hp : (slotEntry n first rest).priority = false := by
      refine Bool.eq_false_iff.2 fun hp => ?_
      obtain ⟨hgood, hkind⟩ := (priority_iff _).1 hp
      obtain hb | ⟨h56, h57⟩ := hk
      · exact absurd (hb.symm.trans hgood) (by decide)
      · exact hkind.elim h57 h56
    refine ⟨_, hexec, ?_⟩
    rw [arrive_lost hp hfull]
    exact lineFault_onLine _ _ s

end Sys2Proof.Machine
end

section
/-! STOP_ALL and what it does to the booth (R85, R135). -/

namespace Sys2Proof.Machine

open Sys2Proof

/-- A projector unit after STOP_ALL: a moving one is stopped, and timers and start flags are cleared in every state
(R85). -/
def Projector.emergencyStopped (x : Projector) : Projector :=
  { (if x.state.moving then x.rethreaded else x).notStarting with inchTimer := none, runUpTimer := none }

/-- The records after STOP_ALL has stopped one projector: the record bound to a moving one is BOUND (R45, R85). -/
def stoppedRecords (s : State) (p : Side) : List Reel :=
  if (s.proj.get p).state.moving then boundBecome s.reels.records p .bound else s.reels.records

/-- What STOP_ALL does to one projector, as one update of the state. -/
theorem emergencyStop_eq (p : Side) (s : State) :
    emergencyStop p s =
      { s with
        proj := s.proj.set p (s.proj.get p).emergencyStopped
        reels := { s.reels with records := stoppedRecords s p }
        seq :=
          { s.seq with
            swapDue := s.seq.swapDue && !s.onScreen p
            douse := if (s.proj.get p).state = .runout then s.seq.douse.set p none else s.seq.douse
            withholding := (emergencyStop p s).seq.withholding } } := by
  unfold emergencyStop Projector.emergencyStopped stoppedRecords
  cases hm : (s.proj.get p).state.moving
  · have hrunout : (s.proj.get p).state ≠ .runout := fun h => by rw [h] at hm; cases hm
    have hscreen : s.onScreen p = false := by
      simp only [State.onScreen, decide_eq_false_iff_not]; intro h; rw [h] at hm; cases hm
    simp [hrunout, hscreen, State.onProj, Projector.withoutStart, Projector.notStarting]
  · simp only [if_true]
    rw [stopProjector_eq]
    simp [State.onProj, Projector.withoutStart, Projector.notStarting]

theorem emergencyStop_only (p : Side) (s : State) : s.WithholdingOnlyEnds (emergencyStop p s) := by
  unfold emergencyStop
  dsimp only
  split
  · exact stopProjector_only p s
  · exact .inl rfl

theorem emergencyStop_proj (p : Side) (s : State) :
    (emergencyStop p s).proj = s.proj.set p (s.proj.get p).emergencyStopped := by
  rw [emergencyStop_eq]

theorem emergencyStop_records (p : Side) (s : State) : (emergencyStop p s).reels.records = stoppedRecords s p := by
  rw [emergencyStop_eq]

theorem emergencyStop_seq (p : Side) (s : State) :
    (emergencyStop p s).seq =
      { s.seq with
        swapDue := s.seq.swapDue && !s.onScreen p
        douse := if (s.proj.get p).state = .runout then s.seq.douse.set p none else s.seq.douse
        withholding := (emergencyStop p s).seq.withholding } := by
  rw [emergencyStop_eq]

/-- Both projectors stopped by STOP_ALL. -/
def stopBoth (s : State) : State := emergencyStop .b (emergencyStop .a s)

/-- The stop of A leaves B for the stop that follows. -/
theorem emergencyStop_a_get_b (s : State) : (emergencyStop .a s).proj.get .b = s.proj.get .b := by
  rw [emergencyStop_proj]; rfl

theorem stopBoth_proj (s : State) (p : Side) : (stopBoth s).proj.get p = (s.proj.get p).emergencyStopped := by
  unfold stopBoth
  rw [emergencyStop_proj, emergencyStop_a_get_b, emergencyStop_proj]
  cases p <;> rfl

theorem stopBoth_records (s : State) :
    (stopBoth s).reels.records =
      s.reels.records.map fun r =>
        if (s.proj.get r.projector).state.moving && r.isBound then { r with status := .bound } else r := by
  unfold stopBoth
  rw [emergencyStop_records, stoppedRecords, emergencyStop_a_get_b, emergencyStop_records, stoppedRecords]
  have kept (r : Reel) (h : (s.proj.get r.projector).state.moving = false) :
      (if (s.proj.get r.projector).state.moving && r.isBound then { r with status := .bound } else r) = r := by
    rw [h]; rfl
  cases hma : (s.proj.get .a).state.moving <;> cases hmb : (s.proj.get .b).state.moving <;>
    simp only [boundBecome, if_true, if_false, Bool.false_eq_true, List.map_map]
  case false.false =>
    exact (List.map_id _).symm.trans (List.map_congr_left fun r _ =>
      (kept r (by cases hp : r.projector <;> assumption)).symm)
  all_goals
    refine List.map_congr_left fun r _ => ?_
    cases hp : r.projector <;> simp [hp, hma, hmb]
  split <;> simp_all

theorem stopBoth_seq (s : State) :
    (stopBoth s).seq =
      { s.seq with
        swapDue := s.seq.swapDue && !s.onScreen .a && !s.onScreen .b
        douse := (stopBoth s).seq.douse, withholding := (stopBoth s).seq.withholding } := by
  have hscreen : (emergencyStop .a s).onScreen .b = s.onScreen .b := by
    rw [State.onScreen, emergencyStop_a_get_b]; rfl
  unfold stopBoth
  rw [emergencyStop_seq .b, hscreen, emergencyStop_seq .a]

theorem stopBoth_douse (s : State) (l : Side) :
    (stopBoth s).seq.douse.get l = if (s.proj.get l).state = .runout then none else s.seq.douse.get l := by
  unfold stopBoth
  rw [emergencyStop_seq .b, emergencyStop_a_get_b, emergencyStop_seq .a]
  dsimp only
  cases l
  · split <;> split <;> rfl
  · split <;> split <;> rfl

theorem stopBoth_only (s : State) : s.WithholdingOnlyEnds (stopBoth s) :=
  withholdingOnlyEnds_trans (emergencyStop_only .a s) (emergencyStop_only .b _)

@[simp] theorem stopBoth_frame (s : State) :
    (stopBoth s).line = s.line ∧ (stopBoth s).rotation = s.rotation ∧ (stopBoth s).lamp = s.lamp
      ∧ (stopBoth s).lights = s.lights ∧ (stopBoth s).fire = s.fire ∧ (stopBoth s).cond = s.cond
      ∧ (stopBoth s).store = s.store ∧ (stopBoth s).pending = s.pending
      ∧ (stopBoth s).reels.code = s.reels.code := by
  simp [stopBoth]

/-- The state STOP_ALL leaves. -/
def stoppedAll (s : State) : State := (stopAllWork s).1

theorem stopAllWork_eq (s : State) : stopAllWork s = answerDone (stoppedAll s) 0 := rfl

/-- Both projectors stopped and automation halted: STOP_ALL but for the house. -/
def stoppedBooth (s : State) : State :=
  settleWithholding ((stopBoth s).onSeq fun q => { q with automation := q.automation.halt })

theorem stoppedAll_eq (s : State) :
    stoppedAll s =
      { stoppedBooth s with
        lights :=
          if s.fireAllows then s.lights.set .house (s.lights.house.jump (s.store.working.intermissionLevel * 16))
          else s.lights } := by
  have hfire : (stoppedBooth s).fireAllows = s.fireAllows := by simp [State.fireAllows, stoppedBooth]
  have hlights : (stoppedBooth s).lights = s.lights := by simp [stoppedBooth]
  have hstore : (stoppedBooth s).store = s.store := by simp [stoppedBooth]
  change (if (stoppedBooth s).fireAllows then
      (stoppedBooth s).onLight .house fun x => x.jump ((stoppedBooth s).store.working.intermissionLevel * 16)
    else stoppedBooth s) = _
  rw [hfire]
  split
  · simp only [State.onLight, hlights, hstore]; rfl
  · rw [← hlights]

theorem stoppedBooth_eq (s : State) :
    stoppedBooth s =
      { stopBoth s with
        seq :=
          { (stopBoth s).seq with
            automation := (stopBoth s).seq.automation.halt, withholding := (stoppedBooth s).seq.withholding } } := by
  unfold stoppedBooth
  rw [settleWithholding_eq]
  rfl

theorem stoppedBooth_only (s : State) : s.WithholdingOnlyEnds (stoppedBooth s) :=
  withholdingOnlyEnds_trans (stopBoth_only s) (settleWithholding_only ((stopBoth s).onSeq _))

theorem halt_eq (a : Automation) : a.halt = if a = .engaged then .halted else a := by
  cases a <;> rfl

theorem emergencyStopped_moving {x : Projector} (h : x.state.moving = true) :
    x.emergencyStopped.state = .threaded ∧ x.emergencyStopped.motorRunning = false
      ∧ x.emergencyStopped.dowserOpen = false ∧ x.emergencyStopped.windowOpen = false := by
  rw [Projector.emergencyStopped, if_pos h]
  exact ⟨rfl, rfl, rfl, rfl⟩

theorem emergencyStopped_still {x : Projector} (h : x.state.moving = false) :
    x.emergencyStopped =
      { x with startPending := false, startFade := false, inchTimer := none, runUpTimer := none } := by
  rw [Projector.emergencyStopped, h]; rfl

theorem emergencyStopped_keeps (x : Projector) :
    x.emergencyStopped.f = x.f ∧ x.emergencyStopped.marks = x.marks ∧ x.emergencyStopped.startPending = false
      ∧ x.emergencyStopped.inchTimer = none ∧ x.emergencyStopped.runUpTimer = none
      ∧ x.emergencyStopped.inchCount = x.inchCount := by
  unfold Projector.emergencyStopped
  split <;> exact ⟨rfl, rfl, rfl, rfl, rfl, rfl⟩

/-- No projector moves after STOP_ALL. -/
theorem emergencyStopped_not_moving (x : Projector) : x.emergencyStopped.state.moving = false := by
  cases h : x.state.moving
  · rw [emergencyStopped_still h]; exact h
  · rw [(emergencyStopped_moving h).1]; rfl

theorem stoppedAll_proj (s : State) (p : Side) : (stoppedAll s).proj.get p = (s.proj.get p).emergencyStopped := by
  rw [stoppedAll_eq, stoppedBooth_eq]; exact stopBoth_proj s p

theorem stoppedAll_seq (s : State) :
    (stoppedAll s).seq =
      { s.seq with
        automation := s.seq.automation.halt, swapDue := s.seq.swapDue && !s.onScreen .a && !s.onScreen .b
        douse := (stopBoth s).seq.douse, withholding := (stoppedAll s).seq.withholding } := by
  rw [stoppedAll_eq, stoppedBooth_eq, stopBoth_seq]

theorem stoppedAll_only (s : State) : s.WithholdingOnlyEnds (stoppedAll s) := by
  rw [stoppedAll_eq]; exact stoppedBooth_only s

@[simp] theorem stoppedAll_frame (s : State) :
    (stoppedAll s).line = s.line ∧ (stoppedAll s).rotation = s.rotation ∧ (stoppedAll s).lamp = s.lamp
      ∧ (stoppedAll s).fire = s.fire ∧ (stoppedAll s).cond = s.cond ∧ (stoppedAll s).store = s.store
      ∧ (stoppedAll s).pending = s.pending ∧ (stoppedAll s).reels.code = s.reels.code := by
  rw [stoppedAll_eq, stoppedBooth_eq]; simp

theorem stoppedAll_records (s : State) :
    (stoppedAll s).reels.records =
      s.reels.records.map fun r =>
        if (s.proj.get r.projector).state.moving && r.isBound then { r with status := .bound } else r := by
  rw [stoppedAll_eq, stoppedBooth_eq]; exact stopBoth_records s

theorem stoppedAll_douse (s : State) (l : Side) :
    (stoppedAll s).seq.douse.get l = if (s.proj.get l).state = .runout then none else s.seq.douse.get l := by
  rw [stoppedAll_seq]; exact stopBoth_douse s l

theorem stoppedAll_lights (s : State) :
    (stoppedAll s).lights =
      if s.fireAllows then s.lights.set .house (s.lights.house.jump (s.store.working.intermissionLevel * 16))
      else s.lights := by
  rw [stoppedAll_eq]

/-- Settles O37: a stop of each projector, the halt and the house, each as one update. -/
theorem stopAllStopsTheBooth : Obligations.StopAllStopsTheBooth := by
  unfold Obligations.StopAllStopsTheBooth
  intro n s hadmit
  refine ⟨queueAnswer n Kind.stopAll.code (stopAllWork s),
    takePriority_admits (t := .noTarget) (stopAllWork_orderly s) hadmit, ?_⟩
  rw [stopAllWork_eq]
  obtain ⟨hline, hrotation, hlamp, hfire, hcond, hstore, hpending, hcode⟩ := stoppedAll_frame s
  have hseq := stoppedAll_seq s
  have hproj (p : Side) : (queueAnswer n Kind.stopAll.code (answerDone (stoppedAll s) 0)).proj.get p =
      (s.proj.get p).emergencyStopped := stoppedAll_proj s p
  refine ⟨fun p h => hproj p ▸ emergencyStopped_moving h, fun p h => (hproj p).trans (emergencyStopped_still h),
    fun p => hproj p ▸ emergencyStopped_keeps _, stoppedAll_records s,
    (congrArg Sequencer.automation hseq).trans (halt_eq _), congrArg Sequencer.swapDue hseq,
    (congrArg Sequencer.strikeTaken hseq :), (congrArg Sequencer.motorTaken hseq :),
    (congrArg Sequencer.swapReached hseq :), (congrArg Sequencer.countdown hseq :), stoppedAll_only s,
    stoppedAll_douse s, ?_, ?_, ⟨?_, hrotation, hpending⟩, hlamp,
    hfire, hcond, hstore, hcode⟩
  · refine (congrArg HouseUnit.house (stoppedAll_lights s)).trans ?_
    split <;> rfl
  · refine (congrArg HouseUnit.aisle (stoppedAll_lights s)).trans ?_
    split <;> rfl
  · rw [queueAnswer_line, answerDone_fst, hline]; rfl

end Sys2Proof.Machine
end

section
/-! DROP and STOP_ALL from the priority lane: the checks, the answer placed or lost (R13, R14, R24, R25). -/

namespace Sys2Proof.Machine

open Sys2Proof

/-! ### The booth's own operations do not look at the line -/

/-- The state with another line unit. -/
def State.withLine (s : State) (u : LineUnit) : State := { s with line := u }

/-- An operation on the booth neither reads nor changes the line unit. -/
def IgnoresLine (f : State → State) : Prop := ∀ s u, f (s.withLine u) = (f s).withLine u

theorem IgnoresLine.comp {f g : State → State} (hf : IgnoresLine f) (hg : IgnoresLine g) :
    IgnoresLine fun s => f (g s) := fun s u => (congrArg f (hg s u)).trans (hf (g s) u)

theorem IgnoresLine.ite {c : State → Prop} [DecidablePred c] {f g : State → State}
    (hc : ∀ s u, c (s.withLine u) ↔ c s) (hf : IgnoresLine f) (hg : IgnoresLine g) :
    IgnoresLine fun s => if c s then f s else g s := fun s u => by
  by_cases h : c s
  · simp only [if_pos h, if_pos ((hc s u).2 h), hf s u]
  · simp only [if_neg h, if_neg (mt (hc s u).1 h), hg s u]

theorem raiseCondition_ignoresLine (k : Condition) (d : Detail) : IgnoresLine (raiseCondition k d) :=
  .ite (f := fun s =>
      (s.withConditions (s.cond.set k.index ((s.record k).raised d))).onSeq fun q =>
        { q with automation := q.automation.halt })
    (g := fun s => s.withConditions (s.cond.set k.index ((s.record k).raised d)))
    (fun _ _ => Iff.rfl) (fun _ _ => rfl) fun _ _ => rfl

theorem settleWithholding_ignoresLine : IgnoresLine settleWithholding := fun s u => by
  cases h : s.seq.withholding with
  | none => simp [settleWithholding, State.withLine, h]
  | some w =>
    have hs : w.stands (s.withLine u) = w.stands s := rfl
    have hw : (s.withLine u).seq.withholding = some w := h
    cases hstands : w.stands s <;> simp only [settleWithholding, h, hw, hs, hstands] <;> rfl

theorem stopProjector_ignoresLine (p : Side) : IgnoresLine (stopProjector p) := fun s u =>
  settleWithholding_ignoresLine
    ((setBoundStatus p .bound (s.onProj p Projector.rethreaded)).onSeq fun q =>
      { q with
        swapDue := if (s.proj.get p).state = .onScreen then false else q.swapDue
        douse := if (s.proj.get p).state = .runout then q.douse.set p none else q.douse }) u

theorem stopIfMoving_ignoresLine (p : Side) :
    IgnoresLine fun s => if (s.proj.get p).state.moving then stopProjector p s else s :=
  .ite (fun _ _ => Iff.rfl) (stopProjector_ignoresLine p) fun _ _ => rfl

theorem emergencyStop_ignoresLine (p : Side) : IgnoresLine (emergencyStop p) :=
  .comp (f := fun s => s.onProj p fun x => { x.withoutStart with inchTimer := none, runUpTimer := none })
    (fun _ _ => rfl) (stopIfMoving_ignoresLine p)

theorem fireStop_ignoresLine (p : Side) : IgnoresLine (fireStop p) :=
  .comp
    (f := fun s =>
      s.onProj p fun x => { x.withoutStart with inchTimer := none, runUpTimer := none, inchCount := 0 })
    (fun _ _ => rfl) (stopIfMoving_ignoresLine p)

theorem lampToDark_ignoresLine (l : Side) (g : Lamp → Lamp) : IgnoresLine (lampToDark l g) :=
  settleWithholding_ignoresLine.comp
    (g := fun s =>
      ((s.onLamp l fun x => g x.darkened).onSeq fun q => { q with douse := q.douse.set l none }).onProj l
        Projector.withoutStart)
    fun _ _ => rfl

theorem darkenScreen_ignoresLine (p : Side) : IgnoresLine (darkenScreen p) :=
  .comp (f := setBoundStatus p .running) (fun _ _ => rfl)
    (settleWithholding_ignoresLine.comp
      (g := fun s => (s.onProj p fun x => x.offScreen .running).onSeq fun q => { q with swapDue := false })
      fun _ _ => rfl)

theorem extinguishLamp_ignoresLine (l : Side) : IgnoresLine (extinguishLamp l) :=
  .ite (fun _ _ => Iff.rfl) (fun _ _ => rfl)
    (.ite (fun _ _ => Iff.rfl) ((darkenScreen_ignoresLine l).comp (lampToDark_ignoresLine l _))
      (lampToDark_ignoresLine l _))

theorem fireExtinguish_ignoresLine (l : Side) : IgnoresLine (fireExtinguish l) :=
  .comp (f := fun s => s.onSeq fun q => { q with douse := q.douse.set l none }) (fun _ _ => rfl)
    (extinguishLamp_ignoresLine l)

theorem enterDropped_ignoresLine (d : DetailUnit) (m : Moment) : IgnoresLine (enterDropped d m) :=
  have released : IgnoresLine fun s => s.onFire fun x =>
      { x with
        state := .dropped, a := x.a.released m, b := x.b.released m, observation1 := x.observation1.released m
        observation2 := x.observation2.released m } := fun _ _ => rfl
  have stopped := (fireStop_ignoresLine .b).comp ((fireStop_ignoresLine .a).comp released)
  have dark := (fireExtinguish_ignoresLine .b).comp ((fireExtinguish_ignoresLine .a).comp stopped)
  have halted : IgnoresLine fun s => (panicLights s).onSeq fun q => { q with automation := q.automation.halt } :=
    fun _ _ => rfl
  (raiseCondition_ignoresLine .fire _).comp (settleWithholding_ignoresLine.comp (halted.comp dark))

theorem dropFire_ignoresLine (d : DetailUnit) (m : Moment) : IgnoresLine (dropFire d m) :=
  .ite (fun _ _ => Iff.rfl) (fun _ _ => rfl) (enterDropped_ignoresLine d m)

theorem stoppedAll_ignoresLine : IgnoresLine stoppedAll :=
  have both := (emergencyStop_ignoresLine .b).comp (emergencyStop_ignoresLine .a)
  have halted : IgnoresLine fun s => s.onSeq fun q => { q with automation := q.automation.halt } := fun _ _ => rfl
  have booth : IgnoresLine stoppedBooth := settleWithholding_ignoresLine.comp (halted.comp both)
  IgnoresLine.comp
    (f := fun s =>
      if s.fireAllows then s.onLight .house fun x => x.jump (s.store.working.intermissionLevel * 16) else s)
    (.ite (fun _ _ => Iff.rfl) (fun _ _ => rfl) fun _ _ => rfl) booth

/-! ### Works that do not look at the waiting answers -/

/-- A judging keeps the line and looks at nothing of it but the stations. -/
structure LineBlind (J : State → Judged) : Prop where
  line : ∀ s, (J s).1.line = s.line
  withLine : ∀ s u, u.stations = s.line.stations → J (s.withLine u) = ((J s).1.withLine u, (J s).2)

theorem stopAllWork_blind : LineBlind stopAllWork :=
  ⟨fun s => (stopAllWork_line s).1, fun s u _ => congrArg (answerDone · 0) (stoppedAll_ignoresLine s u)⟩

theorem dropWork_blind (n : Station) : LineBlind (dropWork n) :=
  ⟨dropWork_line n, fun s u _ => congrArg (answerDone · 0) (dropFire_ignoresLine _ _ s u)⟩

theorem judge_blind {n : Station} {k : Kind} {t : Target} {work : State → Judged} (h : LineBlind work) :
    LineBlind (judge n k t work) := by
  refine ⟨fun s => ?_, fun s u hu => ?_⟩
  · unfold judge
    (repeat' split) <;> first | exact h.line s | rfl
  · unfold judge
    have hx : (s.withLine u).line.stations[n] = s.line.stations[n] := congrArg (fun v => v[n]) hu
    rw [hx, h.withLine s u hu]
    (repeat' split) <;> rfl

/-- The judging of a priority entry is that of STOP_ALL or of DROP. -/
theorem handleEntry_blind {e : Entry} (n : Station) (hp : e.priority = true) : LineBlind (handleEntry n e) := by
  obtain ⟨hb, hk⟩ := (priority_iff e).1 hp
  obtain hk | hk := hk
  · have h : handleEntry n e = judge n .drop (Target.ofCode e.target) (dropWork n) :=
      funext fun s => handleEntry_kind hb (k := .drop) (by rw [hk]; rfl)
    exact h ▸ judge_blind (dropWork_blind n)
  · have h : handleEntry n e = judge n .stopAll (Target.ofCode e.target) stopAllWork :=
      funext fun s => handleEntry_kind hb (k := .stopAll) (by rw [hk]; rfl)
    exact h ▸ judge_blind stopAllWork_blind

end Sys2Proof.Machine
end

section
/-! The priority entry: its checks, and its answer placed or lost (R13, R14, R24, R25). -/

namespace Sys2Proof.Machine

open Sys2Proof

/-! ### The steps of R25 one by one -/

/-- The first three steps of R25 for a request outside the Inquiry group: one of three refusals, or the work. -/
theorem judge_cases {n : Station} {k : Kind} {t : Target} {g : Group} (work : State → Judged) (s : State)
    (hg : groupOf k t = some g) (hi : g ≠ .inquiry) :
    (g.allows s.line.stations[n].role = false ∧ judge n k t work s = answerRefused s .refusedRole 0)
      ∨ g.allows s.line.stations[n].role = true
        ∧ (s.line.stations[n].locked = true ∧ judge n k t work s = answerRefused s .refusedLocked 0
          ∨ s.line.stations[n].locked = false
            ∧ (takesTarget k t = false ∧ judge n k t work s = answerRefused s .refusedFormat 0
              ∨ takesTarget k t = true ∧ judge n k t work s = work s)) := by
  rw [judge, hg]
  dsimp only
  cases hr : g.allows s.line.stations[n].role
  · exact .inl ⟨rfl, if_pos rfl⟩
  · rw [if_neg (by decide)]
    cases hl : s.line.stations[n].locked
    · rw [if_neg (fun h => by cases h.1)]
      cases ht : takesTarget k t
      · exact .inr ⟨rfl, .inr ⟨rfl, .inl ⟨rfl, if_pos rfl⟩⟩⟩
      · exact .inr ⟨rfl, .inr ⟨rfl, .inr ⟨rfl, if_neg (by decide)⟩⟩⟩
    · exact .inr ⟨rfl, .inl ⟨rfl, if_pos ⟨rfl, hi⟩⟩⟩

theorem emergencyStop_allows (r : Role) : Group.emergencyStop.allows r = true ↔ r = .console ∨ r = .house := by
  cases r <;> decide

theorem drop_allows (r : Role) : Group.drop.allows r = true ↔ r = .console ∨ r = .fire := by
  cases r <;> decide

theorem ofCode_eq_noTarget (c : Nat) : Target.ofCode c = .noTarget ↔ c = 0 := by
  unfold Target.ofCode
  (repeat' split) <;> simp_all

theorem ofCode_eq_shutters (c : Nat) : Target.ofCode c = .shutters ↔ c = 7 := by
  unfold Target.ofCode
  (repeat' split) <;> simp_all

/-! ### The entry to DROPPED -/

theorem automationAfter_ne_engaged {s : State} (k : Condition) (h : s.seq.automation ≠ .engaged) :
    automationAfter s k ≠ .engaged := by
  unfold automationAfter
  split
  · decide
  · exact h

theorem halt_ne_engaged (a : Automation) : a.halt ≠ .engaged := by cases a <;> decide

theorem enterDropped_state (d : DetailUnit) (m : Moment) (s : State) : (enterDropped d m s).fire.state = .dropped := by
  simp [enterDropped]

theorem enterDropped_not_engaged (d : DetailUnit) (m : Moment) (s : State) :
    (enterDropped d m s).seq.automation ≠ .engaged := by
  unfold enterDropped
  rw [raiseCondition_automation]
  exact automationAfter_ne_engaged _ (by simp [halt_ne_engaged])

theorem dropFire_state (d : DetailUnit) (m : Moment) (s : State) : (dropFire d m s).fire.state = .dropped := by
  unfold dropFire
  split
  · assumption
  · exact enterDropped_state d m s

theorem dropFire_not_engaged {s : State} (d : DetailUnit) (m : Moment) (h : s.fire.state ≠ .dropped) :
    (dropFire d m s).seq.automation ≠ .engaged := by
  rw [dropFire, if_neg h]
  exact enterDropped_not_engaged d m s

theorem dropFire_dropped {s : State} (d : DetailUnit) (m : Moment) (h : s.fire.state = .dropped) :
    dropFire d m s = s := if_pos h

/-! ### The answer placed -/

theorem execTakePriorityEntry_eq {s : State} {e : Entry} {rest : List Entry} (h : s.line.lane = e :: rest) :
    exec .takePriorityEntry s =
      .next (queuePriorityAnswer e.station e.kind
        (handleEntry e.station e (s.withLine { s.line with lane := rest }))) := by
  change Host.Outcome.next (takePriorityNext s) = _
  rw [takePriorityNext, h]
  rfl

theorem queuePriorityAnswer_placed {n : Station} {kind : Nat} {x : Judged}
    (h : x.1.line.replies.length < replyDepth) : queuePriorityAnswer n kind x = queueAnswer n kind x := if_pos h

theorem queuePriorityAnswer_lost {n : Station} {kind : Nat} {x : Judged}
    (h : replyDepth ≤ x.1.line.replies.length) : queuePriorityAnswer n kind x = loseForStation n x.1 :=
  if_neg h.not_gt

/-! ### The answer lost -/

/-- One state is what a priority request leaves of `s` with its answer placed, and another what it leaves with its
answer lost: the waiting answers stay, the overrun mark is set and LINE_FAULT raised (R14). -/
abbrev State.LosesAnswer (s u v : State) (n : Station) : Prop :=
  v.line =
      { u.line with
        replies := s.line.replies
        stations := s.line.stations.set n { s.line.stations[n] with overrun := true } }
    ∧ u.Raised v .lineFault { unit := .station n, f := none, t := none }
    ∧ v = { u with
        line := v.line, cond := v.cond, seq := { u.seq with automation := automationAfter u .lineFault } }

/-- From a full reply queue the request does what it does with an empty one, and its answer is lost (R14). -/
theorem queuePriorityAnswer_full {J : State → Judged} (hJ : LineBlind J) (n : Station) (kind : Nat) (s : State)
    (hfull : replyDepth ≤ s.line.replies.length) :
    s.LosesAnswer (queuePriorityAnswer n kind (J (s.withLine { s.line with replies := [] })))
      (queuePriorityAnswer n kind (J s)) n := by
  have hplaced : queuePriorityAnswer n kind (J (s.withLine { s.line with replies := [] })) =
      queueAnswer n kind ((J s).1.withLine { s.line with replies := [] }, (J s).2) :=
    (congrArg (queuePriorityAnswer n kind) (hJ.withLine s { s.line with replies := [] } rfl)).trans
      (queuePriorityAnswer_placed (by decide : 0 < replyDepth))
  have hlost : queuePriorityAnswer n kind (J s) = loseForStation n (J s).1 :=
    queuePriorityAnswer_lost ((hJ.line s).symm ▸ hfull)
  rw [hplaced, hlost]
  refine ⟨?_, raiseCondition_raised .lineFault _ ((J s).1.onStation n _), ?_⟩
  · rw [loseForStation_line, hJ.line]; rfl
  · refine (raiseCondition_eq .lineFault _ ((J s).1.onStation n _)).trans ?_
    rw [loseForStation_line]; rfl

theorem takePriority_full {n : Station} {work : State → Judged} (hw : LineBlind work) (k : Kind) (t : Target)
    (s : State) (hr : s.line.stations[n].role ≠ .absent) (hfull : replyDepth ≤ s.line.replies.length) :
    ∃ u v, takePriority n k t work (s.withLine { s.line with replies := [] }) = .next u
      ∧ takePriority n k t work s = .next v ∧ s.LosesAnswer u v n := by
  have hrow (x : State) (hx : x.absent n = false) :
      takePriority n k t work x = .next (queuePriorityAnswer n k.code (judge n k t work x)) := by
    rw [takePriority, hx, if_neg Bool.false_ne_true]
  exact ⟨_, _, hrow _ ((absent_eq_false_iff _ n).2 hr), hrow s ((absent_eq_false_iff s n).2 hr),
    queuePriorityAnswer_full (judge_blind hw) n k.code s hfull⟩

theorem takePriorityEntry_full {s : State} {e : Entry} {rest : List Entry} (hlane : s.line.lane = e :: rest)
    (hp : e.priority = true) (hfull : replyDepth ≤ s.line.replies.length) :
    ∃ u v, exec .takePriorityEntry (s.withLine { s.line with replies := [] }) = .next u
      ∧ exec .takePriorityEntry s = .next v ∧ s.LosesAnswer u v e.station :=
  ⟨_, _, execTakePriorityEntry_eq (s := s.withLine { s.line with replies := [] }) hlane, execTakePriorityEntry_eq hlane,
    queuePriorityAnswer_full (handleEntry_blind e.station hp) e.station e.kind (s.withLine { s.line with lane := rest })
      hfull⟩

/-! ### What the taking of a priority entry comes to -/

/-- The work of a STOP_ALL that is taken (R85). -/
theorem stoppedAll_stops (s : State) :
    (stoppedAll s).proj.a.state.moving = false ∧ (stoppedAll s).proj.b.state.moving = false
      ∧ (stoppedAll s).seq.automation ≠ .engaged ∧ (stoppedAll s).lamp = s.lamp ∧ (stoppedAll s).fire = s.fire := by
  obtain ⟨-, -, hlamp, hfire, -⟩ := stoppedAll_frame s
  have hproj (p : Side) : ((stoppedAll s).proj.get p).state.moving = false :=
    stoppedAll_proj s p ▸ emergencyStopped_not_moving _
  refine ⟨hproj .a, hproj .b, ?_, hlamp, hfire⟩
  rw [stoppedAll_seq]
  exact halt_ne_engaged _

/-- What a judged priority request has besides its effects: the line, the rotation, the queue of commands, no data, and
nothing changed by a refusal. -/
structure PriorityJudged (s : State) (x : Judged) : Prop where
  line : x.1.line = s.line
  rotation : x.1.rotation = s.rotation
  pending : x.1.pending = s.pending
  data : x.2.data = 0
  refused : x.2.status ≠ .done → x.1 = s

theorem PriorityJudged.of_refused (s : State) (st : Status) : PriorityJudged s (answerRefused s st 0) :=
  ⟨rfl, rfl, rfl, rfl, fun _ => rfl⟩

theorem PriorityJudged.of_done {s t : State} (hl : t.line = s.line) (hr : t.rotation = s.rotation)
    (hp : t.pending = s.pending) : PriorityJudged s (answerDone t 0) :=
  ⟨hl, hr, hp, rfl, fun h => absurd rfl h⟩

/-- A priority request by the steps of R25: the refusals in their order, or the work. -/
theorem judge_priority {n : Station} {k : Kind} {t : Target} {g : Group} {work : State → Judged} {s : State}
    (hg : groupOf k t = some g) (hi : g ≠ .inquiry) (hw : PriorityJudged s (work s)) {allowed taken : Prop}
    (ha : allowed ↔ g.allows s.line.stations[n].role = true) (ht : taken ↔ takesTarget k t = true) :
    PriorityJudged s (judge n k t work s)
      ∧ (¬allowed → (judge n k t work s).2.status = .refusedRole)
      ∧ (allowed → s.line.stations[n].locked = true → (judge n k t work s).2.status = .refusedLocked)
      ∧ (allowed → s.line.stations[n].locked = false → ¬taken → (judge n k t work s).2.status = .refusedFormat)
      ∧ (allowed → s.line.stations[n].locked = false → taken → judge n k t work s = work s) := by
  rw [ha, ht]
  obtain ⟨hr, h⟩ | ⟨hr, ⟨hl, h⟩ | ⟨hl, ⟨hf, h⟩ | ⟨hf, h⟩⟩⟩ := judge_cases work s hg hi <;> rw [h]
  · exact ⟨.of_refused .., by simp only [hr]; simp [answerRefused]⟩
  · exact ⟨.of_refused .., by simp only [hr, hl]; simp [answerRefused]⟩
  · exact ⟨.of_refused .., by simp only [hr, hl, hf]; simp [answerRefused]⟩
  · exact ⟨hw, by simp only [hr, hl, hf]; simp⟩

theorem stopAllWork_judged (s : State) : PriorityJudged s (stopAllWork s) := by
  rw [stopAllWork_eq]; exact .of_done (by simp) (by simp) (by simp)

theorem dropWork_judged (n : Station) (s : State) : PriorityJudged s (dropWork n s) :=
  .of_done (by simp) (by simp) (by simp)

/-- The answer of a judged priority request, placed in a reply queue with room, on the state whose lane it has left. -/
theorem PriorityJudged.placed {s : State} {lane : List Entry} {x : Judged}
    (h : PriorityJudged (s.withLine { s.line with lane := lane }) x) (n : Station) (kind : Nat) :
    (queueAnswer n kind x).line =
        { s.line with
          lane := lane
          replies := s.line.replies ++ [{ station := n, kind := kind, status := x.2.status, data := x.2.data }] }
      ∧ (queueAnswer n kind x).rotation = s.rotation ∧ (queueAnswer n kind x).pending = s.pending ∧ x.2.data = 0
      ∧ (x.2.status ≠ .done → queueAnswer n kind x = { s with line := (queueAnswer n kind x).line }) := by
  refine ⟨?_, h.rotation, h.pending, h.data, fun hne => ?_⟩
  · rw [queueAnswer_line, h.line]; rfl
  · obtain ⟨t, reply⟩ := x
    obtain rfl : t = _ := h.refused hne
    rfl

/-- The state with the priority entry that has waited longest taken from the lane. -/
abbrev State.laneLeft (s : State) (rest : List Entry) : State := s.withLine { s.line with lane := rest }

/-- Settles O8: the steps of R25 for a DROP and a STOP_ALL, the answer placed; and, since the work of both is blind to
the line, the same blocks' state with the answer lost. -/
theorem priorityAnswerIsPlacedOrLost : Obligations.PriorityAnswerIsPlacedOrLost := by
  unfold Obligations.PriorityAnswerIsPlacedOrLost
  constructor
  · rintro s e rest x hlane hp rfl hroom
    obtain ⟨hb, hk⟩ := (priority_iff e).1 hp
    have hexec : exec .takePriorityEntry s =
        .next (queueAnswer e.station e.kind (handleEntry e.station e (s.laneLeft rest))) := by
      rw [execTakePriorityEntry_eq hlane, queuePriorityAnswer_placed]
      rw [(handleEntry_blind e.station hp).line]
      exact hroom
    refine ⟨_, (handleEntry e.station e (s.laneLeft rest)).2.status, (handleEntry e.station e (s.laneLeft rest)).2.data,
      hexec, ?_⟩
    obtain hk | hk := hk
    · have hjudge : handleEntry e.station e (s.laneLeft rest) =
          judge e.station .drop (Target.ofCode e.target) (dropWork e.station) (s.laneLeft rest) :=
        handleEntry_kind hb (by rw [hk]; rfl)
      have hsteps {allowed : Prop}
          (ha : allowed ↔ Group.drop.allows (s.laneLeft rest).line.stations[e.station].role = true) :=
        judge_priority (k := .drop) (t := Target.ofCode e.target) rfl (by decide) (dropWork_judged e.station _) ha
          (taken := e.target = 7) (by simp [takesTarget, ofCode_eq_shutters])
      rw [← hjudge] at hsteps
      obtain ⟨hline, hrotation, hpending, hdata, hrefused⟩ := (hsteps Iff.rfl).1.placed e.station e.kind
      refine ⟨hline, hrotation, hpending, hdata, fun allowed hallowed => ?_, hrefused⟩
      obtain ⟨-, hrole, hlocked, hformat, hdone⟩ := hsteps (allowed := allowed) (by
        rw [hallowed, drop_allows]; simp only [hk]; simp; rfl)
      refine ⟨hrole, hlocked, fun ha hl ht => hformat ha hl (by simpa [hk] using ht), fun _ _ h => by simp [hk] at h,
        fun ha hl _ ht => ?_⟩
      rw [hdone ha hl ht]
      refine ⟨rfl, dropFire_state .., dropFire_not_engaged (s := s.laneLeft rest) _ _, fun hs => ?_⟩
      rw [dropWork, dropFire_dropped (s := s.laneLeft rest) _ _ hs]
      rfl
    · have hjudge : handleEntry e.station e (s.laneLeft rest) =
          judge e.station .stopAll (Target.ofCode e.target) stopAllWork (s.laneLeft rest) :=
        handleEntry_kind hb (by rw [hk]; rfl)
      have hsteps {allowed : Prop}
          (ha : allowed ↔ Group.emergencyStop.allows (s.laneLeft rest).line.stations[e.station].role = true) :=
        judge_priority (k := .stopAll) (t := Target.ofCode e.target) rfl (by decide) (stopAllWork_judged _) ha
          (taken := e.target = 0) (by simp [takesTarget, ofCode_eq_noTarget])
      rw [← hjudge] at hsteps
      obtain ⟨hline, hrotation, hpending, hdata, hrefused⟩ := (hsteps Iff.rfl).1.placed e.station e.kind
      refine ⟨hline, hrotation, hpending, hdata, fun allowed hallowed => ?_, hrefused⟩
      obtain ⟨-, hrole, hlocked, hformat, hdone⟩ := hsteps (allowed := allowed) (by
        rw [hallowed, emergencyStop_allows]; simp only [hk]; simp; rfl)
      refine ⟨hrole, hlocked, fun ha hl ht => hformat ha hl (by simpa [hk] using ht), fun ha hl _ ht => ?_,
        fun _ _ h => by simp [hk] at h⟩
      rw [hdone ha hl ht]
      exact ⟨rfl, stoppedAll_stops (s.laneLeft rest)⟩
  · rintro c n s hc hfull
    obtain ⟨e, rest, rfl, hlane, hp, rfl⟩ | ⟨⟨t, rfl | rfl⟩, hr⟩ := hc
    · exact takePriorityEntry_full hlane hp hfull
    · exact takePriority_full stopAllWork_blind .stopAll t s hr hfull
    · exact takePriority_full (dropWork_blind n) .drop t s hr hfull

end Sys2Proof.Machine
end

section
/-! GENERAL_RESET and power-on: the blocks at their values (R20, R168, R176, R177). -/

namespace Sys2Proof.Machine

open Sys2Proof

/-! ### Clearing condition records (R168) -/

/-- Clearing goes through the conditions one by one, and touches no other record. -/
theorem clearEach_get (keep : Condition → Bool) (ks : List Condition) (v : Vector ConditionRecord 15) (k : Condition) :
    (ks.foldl (fun w j => if keep j then w else w.set j.index ConditionRecord.clear) v)[k.index] =
      if k ∈ ks ∧ keep k = false then ConditionRecord.clear else v[k.index] := by
  induction ks generalizing v with
  | nil => simp
  | cons j ks ih =>
    rw [List.foldl_cons, ih]
    by_cases hjk : k = j
    · subst hjk
      cases keep k <;> simp
    · have hne : (j.index : Nat) ≠ k.index := index_ne hjk
      cases keep j <;> simp [hjk, hne]

theorem mem_allConditions (k : Condition) : k ∈ allConditions := by cases k <;> decide

theorem clearRecords_get (keep : Condition → Bool) (v : Vector ConditionRecord 15) (k : Condition) :
    (clearRecords keep v)[k.index] = if keep k then v[k.index] else ConditionRecord.clear := by
  rw [clearRecords, clearEach_get]
  cases keep k <;> simp [mem_allConditions]

/-! ### GENERAL_RESET (R177) -/

theorem resetBlocks_record (s : State) (k : Condition) :
    (resetBlocks s).record k = if (resetBlocks s).current k then s.record k else ConditionRecord.clear :=
  clearRecords_get _ s.cond k

theorem resetBlocks_anyBadEntry (s : State) : (resetBlocks s).anyBadEntry = false := by
  have h : (resetBlocks s).line = s.line.generalReset := rfl
  rw [State.anyBadEntry, h, List.any_eq_false]
  intro x hx
  obtain ⟨y, -, rfl⟩ := by simpa [LineUnit.generalReset] using hx
  exact Bool.false_ne_true

theorem outgoing_isSome_iff (s : State) : s.outgoing.isSome = true ↔ s.onScreen .a = true ∨ s.onScreen .b = true := by
  unfold State.outgoing
  cases s.onScreen .a <;> cases s.onScreen .b <;> simp

/-- The only conditions whose cause outlives a reset: fire, alert and the line break. -/
theorem resetBlocks_current (s : State) (k : Condition) :
    (resetBlocks s).current k =
      match k with
      | .fire => !s.fireAllows
      | .fireAlert => decide (s.fire.state = .alert)
      | .lineFault => s.line.broken
      | _ => false := by
  cases k
  case lineFault => exact (congrArg (s.line.broken || ·) (resetBlocks_anyBadEntry s)).trans (Bool.or_false _)
  all_goals rfl

/-- Settles O36: the two refusals in their order, and else the blocks at their values, the condition records by what is
then current. -/
theorem generalResetReturnsTheBlocks : Obligations.GeneralResetReturnsTheBlocks := by
  unfold Obligations.GeneralResetReturnsTheBlocks
  intro n s hadmit
  have hexec : exec (.generalReset n .noTarget) s =
      .next (queueAnswer n Kind.generalReset.code (generalResetWork s)) := takeRequest_admits generalResetWork hadmit
  rw [hexec]
  refine ⟨fun hsave => ?_, fun hsave hscreen => ?_, fun hsave ha hb => ?_⟩
  · rw [generalResetWork, if_pos hsave]; rfl
  · rw [generalResetWork, hsave, if_neg (by decide), if_pos ((outgoing_isSome_iff s).2 hscreen)]; rfl
  · have hscreen : ¬s.outgoing.isSome = true := by simp [outgoing_isSome_iff, ha, hb]
    rw [generalResetWork, hsave, if_neg (by decide), if_neg hscreen]
    have hrecord (k : Condition) :
        (queueAnswer n Kind.generalReset.code (answerDone (resetBlocks s) 0)).record k =
          if (resetBlocks s).current k then s.record k else ConditionRecord.clear := resetBlocks_record s k
    refine ⟨_, rfl, rfl, fun m => ?_, rfl, rfl, rfl, rfl, fun p => by cases p <;> rfl, rfl,
      fun l => by cases l <;> rfl, rfl,
      rfl, rfl, fun k hf ha hl => ?_, ?_, ?_, ?_, rfl⟩
    · simp [queueAnswer, resetBlocks, LineUnit.generalReset, StationRecord.powerOn]
    · rw [hrecord, resetBlocks_current]
      cases k <;> first | rfl | contradiction
    · rw [hrecord, resetBlocks_current]
      cases s.fireAllows <;> rfl
    · rw [hrecord, resetBlocks_current]
      simp only [decide_eq_true_eq]; rfl
    · rw [hrecord, resetBlocks_current]; rfl

end Sys2Proof.Machine
end

section
/-! Power-on: the blocks at their values, and what a failed store and an open link add (R138, R168, R176). -/

namespace Sys2Proof.Machine

open Sys2Proof

/-! ### The entry to DROPPED of a booth at rest -/

theorem raiseCondition_off {s : State} (k : Condition) (d : Detail) (h : s.seq.automation = .off) :
    raiseCondition k d s = { s with cond := (raiseCondition k d s).cond } := by
  have hafter : automationAfter s k = s.seq.automation := by simp [automationAfter, h]
  refine (raiseCondition_eq k d s).trans ?_
  rw [hafter]

/-- A booth in which nothing runs: both projectors IDLE with nothing pending, both lamps DARK, both channels full up,
automation OFF and no shutter UP or RAISING. -/
structure AtRest (s : State) : Prop where
  proj : ∀ p, ∃ filmLoss gate, s.proj.get p = Projector.powerOn filmLoss gate
  lamp : ∀ l, (s.lamp.get l).state = .dark
  lights : s.lights = { house := Light.reset, aisle := Light.reset }
  seq : s.seq = Sequencer.reset
  shutters : ∀ q m, (s.fire.get q).released m = s.fire.get q

theorem fireStop_atRest {s : State} (h : AtRest s) (p : Side) : fireStop p s = s := by
  obtain ⟨filmLoss, gate, hp⟩ := h.proj p
  have hmoving : (s.proj.get p).state.moving = false := by rw [hp]; rfl
  have hstill :
      ({ (s.proj.get p).withoutStart with inchTimer := none, runUpTimer := none, inchCount := 0 } : Projector) =
      s.proj.get p := by rw [hp]; rfl
  rw [fireStop, hmoving]
  simp only [Bool.false_eq_true, if_false, State.onProj, hstill, Both.set_get]

theorem fireExtinguish_atRest {s : State} (h : AtRest s) (l : Side) : fireExtinguish l s = s := by
  have hdouse : s.seq.douse.get l = none := by rw [h.seq]; cases l <;> rfl
  have hset : s.seq.douse.set l none = s.seq.douse := hdouse ▸ Both.set_get s.seq.douse l
  rw [fireExtinguish, extinguishLamp, if_pos (h.lamp l), State.onSeq, hset]

theorem panicLights_atRest {s : State} (h : AtRest s) : panicLights s = s := by
  have hlights : (panicLights s).lights = s.lights := by
    rw [h.lights]; exact congrArg (fun u => (panicLights { s with lights := u }).lights) h.lights
  calc panicLights s = { s with lights := (panicLights s).lights } := rfl
    _ = s := by rw [hlights]

theorem haltSettled_atRest {s : State} (h : AtRest s) :
    settleWithholding (s.onSeq fun q => { q with automation := q.automation.halt }) = s := by
  have hhalt : ({ s.seq with automation := s.seq.automation.halt } : Sequencer) = s.seq := by rw [h.seq]; rfl
  have hnone : s.seq.withholding = none := by rw [h.seq]; rfl
  rw [State.onSeq, hhalt, settleWithholding]
  change (match s.seq.withholding with | none => s | some w => _) = s
  rw [hnone]

/-- A booth at rest that enters DROPPED changes in its fire state and in the raise of FIRE alone. -/
theorem enterDropped_atRest {s : State} (h : AtRest s) (u : DetailUnit) (m : Moment) :
    enterDropped u m s =
      raiseCondition .fire { unit := u, f := none, t := none } (s.onFire fun x => { x with state := .dropped }) := by
  have hfire : (s.onFire fun x =>
      { x with
        state := .dropped, a := x.a.released m, b := x.b.released m, observation1 := x.observation1.released m
        observation2 := x.observation2.released m }) = s.onFire fun x => { x with state := .dropped } := by
    have ha := h.shutters .a m
    have hb := h.shutters .b m
    have h1 := h.shutters .observation1 m
    have h2 := h.shutters .observation2 m
    simp only [FireUnit.get] at ha hb h1 h2
    simp only [State.onFire, ha, hb, h1, h2]
  have hrest : AtRest (s.onFire fun x => { x with state := .dropped }) :=
    ⟨h.proj, h.lamp, h.lights, h.seq, fun q m => by
      cases q
      exacts [h.shutters .a m, h.shutters .b m, h.shutters .observation1 m, h.shutters .observation2 m]⟩
  rw [enterDropped, hfire]
  simp only [fireStop_atRest hrest, fireExtinguish_atRest hrest, panicLights_atRest hrest, haltSettled_atRest hrest]

/-! ### Power-on -/

theorem Shutter.powerOn_released (d : Contact) (m : Moment) :
    (Shutter.powerOn d).released m = Shutter.powerOn d := by
  cases d <;> rfl

theorem poweredBlocks_atRest (x : PowerOnSensed) (s : State) : AtRest (poweredBlocks x s) where
  proj p := by cases p <;> exact ⟨_, _, rfl⟩
  lamp l := by cases l <;> rfl
  lights := rfl
  seq := rfl
  shutters q m := by cases q <;> exact Shutter.powerOn_released _ m

theorem poweredBlocks_record (x : PowerOnSensed) (s : State) (k : Condition) :
    (poweredBlocks x s).record k = ConditionRecord.clear := by
  simp [State.record, poweredBlocks]

/-- The blocks at power-on with a failed store reported (R168). -/
def checkedBlocks (x : PowerOnSensed) (s : State) : State :=
  if storeGood s.store x then poweredBlocks x s else raiseCondition .storeLost Detail.empty (poweredBlocks x s)

theorem checkedBlocks_eq (x : PowerOnSensed) (s : State) :
    checkedBlocks x s = { poweredBlocks x s with cond := (checkedBlocks x s).cond } := by
  unfold checkedBlocks
  split
  · rfl
  · exact raiseCondition_off .storeLost _ rfl

theorem checkedBlocks_atRest (x : PowerOnSensed) (s : State) : AtRest (checkedBlocks x s) := by
  rw [checkedBlocks_eq]
  exact { poweredBlocks_atRest x s with }

theorem checkedBlocks_record (x : PowerOnSensed) (s : State) :
    (((checkedBlocks x s).record .storeLost).accrued = !storeGood s.store x)
      ∧ ∀ k, k ≠ .storeLost → (checkedBlocks x s).record k = ConditionRecord.clear := by
  unfold checkedBlocks
  cases storeGood s.store x
  · obtain ⟨hraised, -, hkept⟩ := raiseCondition_raised .storeLost Detail.empty (poweredBlocks x s)
    exact ⟨hraised, fun k hk => (hkept k hk).trans (poweredBlocks_record x s k)⟩
  · exact ⟨congrArg _ (poweredBlocks_record x s _), fun k _ => poweredBlocks_record x s k⟩

theorem powerUp_intact {x : PowerOnSensed} (s : State) (h : x.link = .intact) :
    powerUp x s = checkedBlocks x s :=
  if_neg (by rw [h]; decide)

/-- An open link at power-on makes the fire state DROPPED and raises FIRE (R138, R168). -/
theorem powerUp_opened {x : PowerOnSensed} (s : State) (h : x.link = .opened) :
    powerUp x s =
      raiseCondition .fire { unit := .nothing, f := none, t := none }
        ((checkedBlocks x s).onFire fun u => { u with state := .dropped }) := by
  have hclear : (checkedBlocks x s).fire.state ≠ .dropped := by
    rw [checkedBlocks_eq]
    exact fun hd => FireState.noConfusion hd
  calc powerUp x s = dropFire .nothing .between (checkedBlocks x s) := if_pos h
    _ = enterDropped .nothing .between (checkedBlocks x s) := if_neg hclear
    _ = _ := enterDropped_atRest (checkedBlocks_atRest x s) ..

/-- Every block after power-on. -/
theorem powerUp_eq (x : PowerOnSensed) (s : State) :
    powerUp x s =
      { poweredBlocks x s with
        fire := { FireUnit.atPowerOn x with state := if x.link = .opened then .dropped else .clear }
        cond := (powerUp x s).cond } := by
  cases h : x.link
  · rw [powerUp_intact s h, checkedBlocks_eq]; rfl
  · rw [powerUp_opened s h, raiseCondition_off, checkedBlocks_eq]
    · rfl
    · rw [checkedBlocks_eq]; rfl

/-- The condition records after power-on (R168). -/
theorem powerUp_record (x : PowerOnSensed) (s : State) :
    ((powerUp x s).record .fire).accrued = decide (x.link = .opened)
      ∧ ((powerUp x s).record .storeLost).accrued = !storeGood s.store x
      ∧ ∀ k, k ≠ .fire → k ≠ .storeLost → (powerUp x s).record k = ConditionRecord.clear := by
  obtain ⟨hstore, hclear⟩ := checkedBlocks_record x s
  cases h : x.link
  · rw [powerUp_intact s h, hclear .fire (by decide)]
    exact ⟨rfl, hstore, fun k _ hk => hclear k hk⟩
  · rw [powerUp_opened s h]
    obtain ⟨hraised, -, hkept⟩ := raiseCondition_raised .fire { unit := .nothing, f := none, t := none }
      ((checkedBlocks x s).onFire fun u => { u with state := .dropped })
    exact ⟨hraised, (congrArg _ (hkept .storeLost (by decide))).trans hstore,
      fun k hf hk => (hkept k hf).trans (hclear k hk)⟩

/-- The attention level where FIRE and STORE_LOST alone may be accrued (R161). -/
theorem attention_of_fire_or_storeLost {s : State}
    (h : ∀ k, k ≠ .fire → k ≠ .storeLost → (s.record k).accrued = false) :
    s.attention =
      if (s.record .fire).accrued then 1 else if (s.record .storeLost).accrued then 15 else 0 := by
  cases hf : (s.record .fire).accrued <;> cases hl : (s.record .storeLost).accrued <;>
    simp [State.attention, allConditions, hf, hl, h, Condition.number, Condition.index]

theorem storeGood_eq_true_iff (x : Store) (sensed : PowerOnSensed) :
    storeGood x sensed = true ↔ x.checkGood = true ∧ sensed.storeAgrees = true := by simp [storeGood]

theorem storeGood_eq_false_iff (x : Store) (sensed : PowerOnSensed) :
    storeGood x sensed = false ↔ x.checkGood = false ∨ sensed.storeAgrees = false := by
  rw [storeGood, Bool.and_eq_false_iff]

/-- Settles O15: what power-on leaves is the blocks at their values, but for the fire state and the condition
records. -/
theorem powerOnLeaves : Obligations.PowerOnLeaves := by
  unfold Obligations.PowerOnLeaves
  intro x s
  refine ⟨powerUp x s, rfl, ?_⟩
  obtain ⟨hfire, hlost, hclear⟩ := powerUp_record x s
  have hattention := attention_of_fire_or_storeLost fun k hf hk => congrArg ConditionRecord.accrued (hclear k hf hk)
  rw [hfire, hlost] at hattention
  obtain ⟨c, hc⟩ : ∃ c, powerUp x s =
      { poweredBlocks x s with
        fire := { FireUnit.atPowerOn x with state := if x.link = .opened then .dropped else .clear }
        cond := c } := ⟨_, powerUp_eq x s⟩
  rw [hc] at hclear hattention ⊢
  refine ⟨rfl, rfl, rfl, rfl, rfl, rfl, rfl, fun p => by cases p <;> rfl, rfl, fun l => by cases l <;> rfl,
    fun c => by cases c <;> rfl, rfl, rfl, fun q => by cases q <;> rfl, rfl, ?_, fun hg ha => ?_, fun hbad => ?_,
    hattention.trans ?_, hclear⟩
  · dsimp only [poweredBlocks]
    split <;> rfl
  · exact if_pos ((storeGood_eq_true_iff s.store x).2 ⟨hg, ha⟩)
  · exact if_neg (Bool.eq_false_iff.1 ((storeGood_eq_false_iff s.store x).2 hbad))
  · simp only [decide_eq_true_eq, Bool.not_eq_true', storeGood_eq_false_iff]

end Sys2Proof.Machine
end

section
/-! The outbound frame: its 23 characters and what follows it at a boundary (R1 to R3, R12, R15, R94, R180). -/

namespace Sys2Proof.Machine

open Sys2Proof

/-! ### Characters and checks -/

@[simp] theorem char_toNat (n : Nat) : (char n).toNat = n % 256 := rfl

/-- With its check, a list of characters sums to 0 modulo 256 (R1, R15). -/
theorem sum_with_check (l : List Nat) : ((l ++ [checkOf l]).map fun n => n % 256).sum % 256 = 0 := by
  have h : (l ++ [checkOf l]).sum % 256 = 0 := by
    rw [List.sum_append, List.sum_singleton, checkOf]
    omega
  rw [List.sum_nat_mod] at h
  exact h

theorem map_char_toNat (l : List Nat) : (l.map char).map BitVec.toNat = l.map fun n => n % 256 := by
  simp

/-! ### The codes -/

theorem automation_code (a : Automation) : a.code = automationStates.idxOf a ∧ a.code < 3 := by
  cases a <;> decide

theorem fireState_code (x : FireState) : x.code = fireStates.idxOf x ∧ x.code < 4 := by cases x <;> decide

theorem projectorState_code (x : ProjectorState) : x.code = projectorStates.idxOf x ∧ x.code < 9 := by
  cases x <;> decide

theorem lampState_code (x : LampState) : x.code = lampStates.idxOf x ∧ x.code < 5 := by cases x <;> decide

theorem status_code_lt (x : Status) : x.code < 12 := by cases x <;> decide

theorem attention_lt (s : State) : s.attention < 16 := by
  unfold State.attention
  split
  · rename_i k _
    have := k.index.isLt
    rw [Condition.number]; omega
  · decide

theorem flag_eq_bit (b : Bool) : flag b = bit b := rfl

theorem flag_lt (b : Bool) : flag b < 2 := by cases b <;> decide

/-! ### The items of the frame -/

/-- The six hold marks, station n at bit n − 1 (R10). -/
theorem holdMarks_eq (s : State) :
    holdMarks s = ((List.finRange 6).map fun n => if s.line.stations[n].hold then 2 ^ n.val else 0).sum := by
  have hlist : s.line.stations.toList = (List.finRange 6).map fun n => s.line.stations[n] :=
    List.ext_getElem (by simp) fun i _ _ => by simp
  have weighed (b : Bool) (w : Nat) : (if b then w else 0) = w * flag b := by cases b <;> simp [flag]
  rw [holdMarks, hlist, List.map_map]
  simp only [weighed]
  change flagSet [_, _, _, _, _, _] = List.sum [_, _, _, _, _, _]
  simp only [flagSet, List.sum_cons, List.sum_nil, Function.comp]
  simp
  ring

theorem flagSet_lt (l : List Bool) : flagSet l < 2 ^ l.length := by
  induction l with
  | nil => decide
  | cons b l ih =>
    have := flag_lt b
    rw [flagSet, List.length_cons, Nat.pow_succ]
    omega

theorem itemTags_eq (s : State) :
    itemTags s =
      bit (decide (s.seq.countdown.state = .ordered)) + 2 * bit s.lamp.a.rodValid + 4 * bit s.lamp.b.rodValid
        + 8 * bit (!s.line.replies.isEmpty) := by
  simp only [itemTags, flagSet, flag_eq_bit]
  omega

theorem itemTags_lt (s : State) : itemTags s < 256 := (flagSet_lt _).trans_le (by simp)

theorem holdMarks_lt (s : State) : holdMarks s < 256 := (flagSet_lt _).trans_le (by simp)

theorem statusCharacter_lt (s : State) :
    s.attention + 16 * s.seq.automation.code + 64 * s.fire.state.code < 256 := by
  have := attention_lt s
  have := (automation_code s.seq.automation).2
  have := (fireState_code s.fire.state).2
  omega

theorem answerItem_length (u : LineUnit) : (answerItem u).length = 8 := by
  unfold answerItem
  split <;> rfl

theorem frameItems_length (s : State) : (frameItems s).length = 22 := by
  simp [frameItems, twoChars, answerItem_length]

/-- The characters of the frame as numbers. -/
theorem frameOf_toNat (s : State) :
    (frameOf s).map BitVec.toNat = (frameItems s ++ [checkOf (frameItems s)]).map fun n => n % 256 :=
  map_char_toNat _

theorem frameOf_length (s : State) : (frameOf s).length = 23 := by
  simp [frameOf, frameItems_length]

/-- Places 1 to 14 of the frame (R180). -/
theorem frameOf_take (s : State) :
    ((frameOf s).map BitVec.toNat).take 14 =
      [150, itemTags s, holdMarks s, s.attention + 16 * s.seq.automation.code + 64 * s.fire.state.code,
          s.proj.a.state.code + 16 * s.proj.b.state.code, s.lamp.a.state.code + 16 * s.lamp.b.state.code,
          s.lights.house.reported % 256, s.lights.aisle.reported % 256]
        ++ twoChars (countdownItem s) ++ twoChars (rodItem s.lamp.a) ++ twoChars (rodItem s.lamp.b) := by
  have hproj : s.proj.a.state.code + 16 * s.proj.b.state.code < 256 := by
    have := (projectorState_code s.proj.a.state).2
    have := (projectorState_code s.proj.b.state).2
    omega
  have hlamp : s.lamp.a.state.code + 16 * s.lamp.b.state.code < 256 := by
    have := (lampState_code s.lamp.a.state).2
    have := (lampState_code s.lamp.b.state).2
    omega
  rw [frameOf_toNat, frameItems]
  simp only [twoChars, List.cons_append, List.nil_append, List.map_cons, List.take_succ_cons, List.take_zero,
    Nat.mod_eq_of_lt (itemTags_lt s), Nat.mod_eq_of_lt (holdMarks_lt s), Nat.mod_eq_of_lt (statusCharacter_lt s),
    Nat.mod_eq_of_lt hproj, Nat.mod_eq_of_lt hlamp, Nat.mod_mod]

/-- Places 15 to 22 of the frame: the answer item (R180). -/
theorem frameOf_answer (s : State) : ((frameOf s).drop 14).take 8 = (answerItem s.line).map char := by
  have hitems : frameItems s = (frameItems s).take 14 ++ answerItem s.line := by
    simp [frameItems, twoChars]
  have htake : ((frameItems s).take 14).length = 14 := by simp [frameItems_length]
  rw [frameOf, hitems, List.append_assoc, List.map_append, List.drop_left' (by simpa using htake), List.map_append,
    List.take_left' (by simp [answerItem_length])]

/-- The seven characters of an answer before its check (chapter 11, 11.4). -/
theorem answerChars_take (x : Answer) (overrun : Bool) :
    ((answerChars x overrun).take 7).map (fun n => n % 256) =
      [x.station.val + 1, x.kind % 256, x.status.code + (if overrun then 128 else 0), x.data / 16777216 % 256,
        x.data / 65536 % 256, x.data / 256 % 256, x.data % 256] := by
  have hstation : x.station.val + 1 < 256 := by omega
  have hstatus : x.status.code + 128 * flag overrun < 256 := by
    have := status_code_lt x.status
    have := flag_lt overrun
    omega
  have hnote : 128 * flag overrun = if overrun then 128 else 0 := by cases overrun <;> rfl
  rw [hnote] at hstatus
  simp only [answerChars, List.cons_append, List.nil_append, List.take_succ_cons, List.take_zero, List.map_cons,
    List.map_nil, hnote, Nat.mod_eq_of_lt hstation, Nat.mod_eq_of_lt hstatus, Nat.mod_mod]

theorem twoChars_rodItem (x : Lamp) :
    twoChars (rodItem x) =
      if x.rodValid then [x.stock / 1000 / 256 % 256, x.stock / 1000 % 256] else [0, 0] := by
  unfold rodItem Lamp.stockMillimetres
  cases x.rodValid <;> simp [twoChars]

end Sys2Proof.Machine
end

section
/-! What the work of a period boundary keeps: the counts of the projectors, the screen, and the sequencer's flags
(R60, R70, R73, R84). -/

namespace Sys2Proof.Machine

open Sys2Proof

/-! ### One projector -/

/-- F, the marks and RATE with its window stand, and no start becomes pending. -/
structure Projector.CountKept (x y : Projector) : Prop where
  f : y.f = x.f
  marks : y.marks = x.marks
  rate : y.rate = x.rate
  window : y.window = x.window
  pulses : y.pulses = x.pulses
  pending : x.startPending = false → y.startPending = false

/-- The counts stand, and the projector does not come ON_SCREEN; while it is there its cue window stands. -/
structure Projector.ScreenKept (x y : Projector) : Prop extends Projector.CountKept x y where
  shows : y.state = .onScreen → x.state = .onScreen
  window_open : y.state = .onScreen → y.windowOpen = x.windowOpen

/-- The stall count too stands while the projector is ON_SCREEN (R154). -/
structure Projector.Calm (x y : Projector) : Prop extends Projector.ScreenKept x y where
  stall : y.state = .onScreen → y.stall = x.stall

theorem Projector.CountKept.refl (x : Projector) : x.CountKept x := ⟨rfl, rfl, rfl, rfl, rfl, id⟩

theorem Projector.CountKept.trans {x y z : Projector} (h : x.CountKept y) (h' : y.CountKept z) : x.CountKept z :=
  ⟨h'.f.trans h.f, h'.marks.trans h.marks, h'.rate.trans h.rate, h'.window.trans h.window, h'.pulses.trans h.pulses,
    fun hx => h'.pending (h.pending hx)⟩

theorem Projector.ScreenKept.refl (x : Projector) : x.ScreenKept x := ⟨.refl x, id, fun _ => rfl⟩

theorem Projector.ScreenKept.trans {x y z : Projector} (h : x.ScreenKept y) (h' : y.ScreenKept z) : x.ScreenKept z :=
  ⟨h.toCountKept.trans h'.toCountKept, fun hz => h.shows (h'.shows hz),
    fun hz => (h'.window_open hz).trans (h.window_open (h'.shows hz))⟩

theorem Projector.Calm.refl (x : Projector) : x.Calm x := ⟨.refl x, fun _ => rfl⟩

theorem Projector.Calm.trans {x y z : Projector} (h : x.Calm y) (h' : y.Calm z) : x.Calm z :=
  ⟨h.toScreenKept.trans h'.toScreenKept, fun hz => (h'.stall hz).trans (h.stall (h'.shows hz))⟩

/-- A projector that is put in a state other than ON_SCREEN with its counts kept is calm. -/
theorem Projector.CountKept.calm {x y : Projector} (h : x.CountKept y) (hy : y.state ≠ .onScreen) : x.Calm y :=
  ⟨⟨h, fun e => absurd e hy, fun e => absurd e hy⟩, fun e => absurd e hy⟩

theorem Projector.calm_withoutStart (x : Projector) : x.Calm x.withoutStart :=
  ⟨⟨⟨rfl, rfl, rfl, rfl, rfl, fun _ => rfl⟩, id, fun _ => rfl⟩, fun _ => rfl⟩

theorem Projector.countKept_offScreen (x : Projector) (st : ProjectorState) : x.CountKept (x.offScreen st) :=
  ⟨rfl, rfl, rfl, rfl, rfl, id⟩

theorem Projector.calm_rethreaded (x : Projector) : x.Calm x.rethreaded :=
  Projector.CountKept.calm ⟨rfl, rfl, rfl, rfl, rfl, fun _ => rfl⟩ (by simp [Projector.rethreaded])

theorem Projector.calm_tailedOut (x : Projector) : x.Calm x.tailedOut :=
  Projector.CountKept.calm ⟨rfl, rfl, rfl, rfl, rfl, fun _ => rfl⟩ (by simp [Projector.tailedOut])

theorem Projector.calm_filmBroken (x : Projector) : x.Calm x.filmBroken :=
  Projector.CountKept.calm ⟨rfl, rfl, rfl, rfl, rfl, fun _ => rfl⟩ (by simp [Projector.filmBroken])

/-! ### The sequencer's flags -/

/-- No changeover flag is set and automation is not ENGAGED anew. -/
structure Sequencer.Calm (q r : Sequencer) : Prop where
  strikeTaken : q.strikeTaken = false → r.strikeTaken = false
  motorTaken : q.motorTaken = false → r.motorTaken = false
  swapReached : q.swapReached = false → r.swapReached = false
  swapDue : q.swapDue = false → r.swapDue = false
  engaged : r.automation = .engaged → q.automation = .engaged

theorem Sequencer.Calm.refl (q : Sequencer) : q.Calm q := ⟨id, id, id, id, id⟩

theorem Sequencer.Calm.trans {q r u : Sequencer} (h : q.Calm r) (h' : r.Calm u) : q.Calm u :=
  ⟨h'.strikeTaken ∘ h.strikeTaken, h'.motorTaken ∘ h.motorTaken, h'.swapReached ∘ h.swapReached,
    h'.swapDue ∘ h.swapDue, h.engaged ∘ h'.engaged⟩

/-! ### The whole state -/

/-- Nobody comes ON_SCREEN, a projector that stays there keeps its record and its cue window, and the counts and the
sequencer are kept. -/
structure Steady (s t : State) : Prop where
  proj : ∀ p, (s.proj.get p).ScreenKept (t.proj.get p)
  seq : s.seq.Calm t.seq
  bound : ∀ p, t.onScreen p = true → t.boundReel p = s.boundReel p

/-- Steady, with the stall count of a projector that stays ON_SCREEN (R154). -/
structure Calm (s t : State) : Prop where
  proj : ∀ p, (s.proj.get p).Calm (t.proj.get p)
  seq : s.seq.Calm t.seq
  bound : ∀ p, t.onScreen p = true → t.boundReel p = s.boundReel p

theorem onScreen_iff (s : State) (p : Side) : s.onScreen p = true ↔ (s.proj.get p).state = .onScreen := by
  simp [State.onScreen]

theorem onScreen_eq_false_iff (s : State) (p : Side) : s.onScreen p = false ↔ (s.proj.get p).state ≠ .onScreen := by
  simp [State.onScreen]

theorem Steady.onScreen {s t : State} (h : Steady s t) {p : Side} (hp : t.onScreen p = true) : s.onScreen p = true :=
  (onScreen_iff s p).2 ((h.proj p).shows ((onScreen_iff t p).1 hp))

theorem Steady.off {s t : State} (h : Steady s t) {p : Side} (hp : s.onScreen p = false) : t.onScreen p = false :=
  Bool.eq_false_iff.2 fun ht => Bool.eq_false_iff.1 hp (h.onScreen ht)

theorem Calm.steady {s t : State} (h : Calm s t) : Steady s t := ⟨fun p => (h.proj p).toScreenKept, h.seq, h.bound⟩

theorem Steady.trans {s t u : State} (h : Steady s t) (h' : Steady t u) : Steady s u :=
  ⟨fun p => (h.proj p).trans (h'.proj p), h.seq.trans h'.seq,
    fun p hp => (h'.bound p hp).trans (h.bound p (h'.onScreen hp))⟩

theorem Calm.trans {s t u : State} (h : Calm s t) (h' : Calm t u) : Calm s u :=
  ⟨fun p => (h.proj p).trans (h'.proj p), h.seq.trans h'.seq,
    fun p hp => (h'.bound p hp).trans (h.bound p (h'.steady.onScreen hp))⟩

theorem Calm.refl (s : State) : Calm s s := ⟨fun _ => .refl _, .refl _, fun _ _ => rfl⟩

/-- What touches neither the projectors nor the records is calm where the sequencer is. -/
theorem Calm.of_seq {s t : State} (hproj : t.proj = s.proj) (hreels : t.reels = s.reels) (hseq : s.seq.Calm t.seq) :
    Calm s t :=
  ⟨fun p => by rw [hproj]; exact .refl _, hseq, fun p _ => by rw [State.boundReel, State.boundReel, hreels]⟩

theorem Calm.of_eq {s t : State} (hproj : t.proj = s.proj) (hreels : t.reels = s.reels) (hseq : t.seq = s.seq) :
    Calm s t :=
  .of_seq hproj hreels (hseq ▸ .refl _)

theorem Both.forall_set {α : Type} {x : Both α} {p : Side} {v : α} {P : Side → α → Prop} (hv : P p v)
    (hx : ∀ q, P q (x.get q)) (q : Side) : P q ((x.set p v).get q) := by
  rw [Both.get_set]
  split
  · rename_i h; exact h ▸ hv
  · exact hx q

theorem Steady.onProj {s : State} {p : Side} {g : Projector → Projector}
    (h : (s.proj.get p).ScreenKept (g (s.proj.get p))) : Steady s (s.onProj p g) :=
  ⟨Both.forall_set (P := fun q y => (s.proj.get q).ScreenKept y) h fun _ => .refl _, .refl _, fun _ _ => rfl⟩

theorem Calm.onProj {s : State} {p : Side} {g : Projector → Projector} (h : (s.proj.get p).Calm (g (s.proj.get p))) :
    Calm s (s.onProj p g) :=
  ⟨Both.forall_set (P := fun q y => (s.proj.get q).Calm y) h fun _ => .refl _, .refl _, fun _ _ => rfl⟩

theorem onProj_onScreen (s : State) (p : Side) (g : Projector → Projector) :
    (s.onProj p g).onScreen p = decide ((g (s.proj.get p)).state = .onScreen) := by
  simp [State.onScreen]

/-! ### The shared operations -/

theorem raiseCondition_calm (k : Condition) (d : Detail) (s : State) : Calm s (raiseCondition k d s) := by
  refine .of_seq (by simp) (by simp) ⟨by simp, by simp, by simp, by simp, fun h => ?_⟩
  rw [raiseCondition_automation, automationAfter] at h
  split at h
  · cases h
  · exact h

theorem settleWithholding_calm (s : State) : Calm s (settleWithholding s) :=
  .of_seq (by simp) (by simp) ⟨by simp, by simp, by simp, by simp, by simp⟩

theorem clearStart_calm (p : Side) (s : State) : Calm s (clearStart p s) :=
  (Calm.onProj (Projector.calm_withoutStart _)).trans (settleWithholding_calm _)

theorem automationOff_calm (s : State) : Calm s (automationOff s) :=
  ((Calm.onProj (Projector.calm_withoutStart _)).trans (.onProj (Projector.calm_withoutStart _))).trans
    (.of_seq rfl rfl ⟨id, id, id, id, fun h => by cases h⟩)

/-- A record as a status set for projector `p` leaves it (R45). -/
def Reel.become (p : Side) (st : RecordStatus) (r : Reel) : Reel :=
  if r.projector = p && r.isBound then { r with status := st } else r

theorem Reel.become_projector (p : Side) (st : RecordStatus) (r : Reel) : (r.become p st).projector = r.projector := by
  unfold Reel.become; split <;> rfl

theorem Reel.become_of_ne {p : Side} (st : RecordStatus) {r : Reel} (h : r.projector ≠ p) : r.become p st = r := by
  simp [Reel.become, h]

/-- A status set on the record of one projector leaves the record bound to the other. -/
theorem setBoundStatus_boundReel {p q : Side} (st : RecordStatus) (s : State) (h : p ≠ q) :
    (setBoundStatus p st s).boundReel q = s.boundReel q := by
  have hbound : ((fun r : Reel => decide (r.projector = q) && r.isBound) ∘ Reel.become p st) =
      fun r : Reel => decide (r.projector = q) && r.isBound := by
    funext r
    by_cases hr : r.projector = q
    · rw [Function.comp, Reel.become_of_ne st (hr ▸ h.symm)]
    · simp [Reel.become_projector, hr]
  change (s.reels.records.map (Reel.become p st)).find? _ = s.reels.records.find? _
  rw [List.find?_map, hbound]
  cases hfound : s.reels.records.find? fun r => decide (r.projector = q) && r.isBound with
  | none => rfl
  | some r =>
    have hr := List.find?_some hfound
    rw [Bool.and_eq_true, decide_eq_true_eq] at hr
    rw [Option.map_some, Reel.become_of_ne st (hr.1 ▸ h.symm)]

/-- A status set on the record of a projector that is not ON_SCREEN. -/
theorem setBoundStatus_calm {p : Side} {s : State} (st : RecordStatus) (h : s.onScreen p = false) :
    Calm s (setBoundStatus p st s) where
  proj q := by simpa using Projector.Calm.refl _
  seq := by simpa using Sequencer.Calm.refl _
  bound q hq := setBoundStatus_boundReel st s fun e => by
    subst e
    have hkept : (setBoundStatus p st s).onScreen p = s.onScreen p := by simp [State.onScreen]
    rw [hkept, h] at hq
    cases hq

/-- A projector put in a state other than ON_SCREEN, and then its record's status. -/
theorem onProj_setBoundStatus_calm {p : Side} {g : Projector → Projector} {s : State} (st : RecordStatus)
    (h : (s.proj.get p).CountKept (g (s.proj.get p))) (hg : (g (s.proj.get p)).state ≠ .onScreen) :
    Calm s (setBoundStatus p st (s.onProj p g)) :=
  (Calm.onProj (h.calm hg)).trans (setBoundStatus_calm st (by rw [onProj_onScreen]; exact decide_eq_false hg))

theorem evaluateFormat_calm (s : State) : Calm s (evaluateFormat s) :=
  ⟨fun p => by simpa using Projector.Calm.refl _, by simpa using Sequencer.Calm.refl _,
    fun p _ => by simp [State.boundReel]⟩

theorem markShown_calm {p : Side} {s : State} (h : s.onScreen p = false) : Calm s (markShown p s) := by
  have hshown := (setBoundStatus_calm .shown h).trans (evaluateFormat_calm _)
  unfold markShown
  dsimp only
  split
  · exact hshown.trans (automationOff_calm _)
  · exact hshown

theorem swapDueCleared_calm (s : State) : Calm s (s.onSeq fun q => { q with swapDue := false }) :=
  .of_seq rfl rfl ⟨id, id, id, fun _ => rfl, id⟩

theorem leaveScreen_calm {st : ProjectorState} (hst : st ≠ .onScreen) (p : Side) (s : State) :
    Calm s (leaveScreen p st s) :=
  ((Calm.onProj ((Projector.countKept_offScreen _ st).calm hst)).trans (swapDueCleared_calm _)).trans
    (settleWithholding_calm _)

theorem leaveScreen_onScreen {st : ProjectorState} (hst : st ≠ .onScreen) (p : Side) (s : State) :
    (leaveScreen p st s).onScreen p = false := by
  rw [leaveScreen_eq, onScreen_eq_false_iff]
  simpa [Projector.hidden] using hst

theorem darkenScreen_calm (p : Side) (s : State) : Calm s (darkenScreen p s) :=
  (leaveScreen_calm (by decide) p s).trans (setBoundStatus_calm .running (leaveScreen_onScreen (by decide) p s))

theorem lampToDark_calm (l : Side) (g : Lamp → Lamp) (s : State) : Calm s (lampToDark l g s) := by
  have hdark : Calm s ((s.onLamp l fun x => g x.darkened).onSeq fun q => { q with douse := q.douse.set l none }) :=
    .of_seq rfl rfl ⟨id, id, id, id, id⟩
  exact hdark.trans (clearStart_calm l _)

theorem extinguishLamp_calm (l : Side) (s : State) : Calm s (extinguishLamp l s) := by
  unfold extinguishLamp
  dsimp only
  (repeat' split)
  · exact .refl s
  · exact (lampToDark_calm ..).trans (darkenScreen_calm ..)
  · exact lampToDark_calm ..

theorem startDouse_calm (l : Side) (m : Moment) (s : State) : Calm s (startDouse l m s) := by
  unfold startDouse
  (repeat' split)
  · exact lampToDark_calm ..
  · exact .of_seq rfl rfl ⟨id, id, id, id, id⟩
  · exact .refl s

theorem stopProjector_calm (p : Side) (s : State) : Calm s (stopProjector p s) := by
  have hstopped : Calm s (setBoundStatus p .bound (s.onProj p Projector.rethreaded)) :=
    onProj_setBoundStatus_calm .bound (Projector.calm_rethreaded _).toCountKept (by simp [Projector.rethreaded])
  refine hstopped.trans ?_
  unfold stopProjector
  dsimp only
  refine Calm.trans ?_ (settleWithholding_calm _)
  refine .of_seq rfl rfl ⟨id, id, id, fun h => ?_, id⟩
  change (if (s.proj.get p).state = .onScreen then false else _) = false
  rw [h, ite_self]

theorem failStart_calm (p : Side) (s : State) : Calm s (failStart p s) :=
  (stopProjector_calm p s).trans (raiseCondition_calm ..)

theorem reachSpeed_calm (p : Side) (s : State) : Calm s (reachSpeed p s) :=
  onProj_setBoundStatus_calm .running ⟨rfl, rfl, rfl, rfl, rfl, id⟩ (by simp)

theorem tailOut_calm (p : Side) (s : State) : Calm s (tailOut p s) := by
  have hout : Calm s (s.onProj p Projector.tailedOut) := .onProj (Projector.calm_tailedOut _)
  have hoff : (s.onProj p Projector.tailedOut).onScreen p = false := by
    rw [onProj_onScreen]; exact decide_eq_false (by simp [Projector.tailedOut])
  unfold tailOut
  dsimp only
  refine Calm.trans ?_ (settleWithholding_calm _)
  split
  · have hdue := hout.trans (swapDueCleared_calm _)
    exact hdue.trans (markShown_calm hoff)
  · exact hout.trans (markShown_calm hoff)

theorem giveTarget_calm (c : Channel) (percent tenths : Nat) (s : State) : Calm s (giveTarget c percent tenths s) :=
  .of_eq rfl rfl rfl

theorem breakFilm_calm (p : Side) (s : State) : Calm s (breakFilm p s) := by
  have hbroken : Calm s (setBoundStatus p .interrupted (s.onProj p Projector.filmBroken)) :=
    onProj_setBoundStatus_calm .interrupted (Projector.calm_filmBroken _).toCountKept (by simp [Projector.filmBroken])
  have hsettled := (hbroken.trans (swapDueCleared_calm _)).trans (settleWithholding_calm _)
  unfold breakFilm
  dsimp only
  refine Calm.trans ?_ (raiseCondition_calm ..)
  split
  · exact hsettled.trans (giveTarget_calm ..)
  · exact hsettled

theorem judgeFilmLoss_calm (p : Side) (s : State) : Calm s (judgeFilmLoss p s) := by
  unfold judgeFilmLoss
  (repeat' split)
  all_goals first | exact tailOut_calm .. | exact breakFilm_calm .. | exact .refl s

theorem gateTrip_calm (p : Side) (s : State) : Calm s (gateTrip p s) :=
  (darkenScreen_calm p s).trans (raiseCondition_calm ..)

/-- Whether the other projector is ready does not change as a lamp goes to DARK. -/
theorem lampToDark_ready_other (l : Side) (g : Lamp → Lamp) (s : State) :
    (lampToDark l g s).ready l.other = s.ready l.other := by
  rw [lampToDark_eq]
  simp [State.ready, State.screenAllowed, State.fireAllows]

/-- The arc of a lamp is lost without an emergency swap. -/
theorem loseArc_calm {l : Side} {s : State} (m : Moment)
    (h : s.onScreen l = true → s.seq.automation = .engaged → s.ready l.other = false) : Calm s (loseArc l m s) := by
  have hdark := lampToDark_calm l (fun x => { x with lowCurrent := 10 }) s
  unfold loseArc
  dsimp only
  refine Calm.trans ?_ (raiseCondition_calm ..)
  split
  · rename_i hscreen
    split
    · rename_i hswap
      rw [lampToDark_ready_other, h hscreen (by simpa using hswap.1)] at hswap
      cases hswap.2
    · exact hdark.trans (darkenScreen_calm ..)
  · exact hdark

/-! ### The blocks' own work (R73, log entry 6) -/

theorem judgeStanding_calm (p : Side) (s : State) : Calm s (judgeStanding p s) := by
  have hcleared : Calm s (s.onProj p fun x => { x with lossCheck := false }) :=
    .onProj ⟨⟨⟨rfl, rfl, rfl, rfl, rfl, id⟩, id, fun _ => rfl⟩, fun _ => rfl⟩
  unfold judgeStanding
  dsimp only
  split
  · exact hcleared.trans (judgeFilmLoss_calm ..)
  · exact hcleared

theorem expireInch_calm (p : Side) (s : State) : Calm s (expireInch p s) := by
  unfold expireInch
  split
  · exact failStart_calm ..
  · exact .refl s

theorem tickInch_calm (p : Side) (s : State) : Calm s (tickInch p s) := by
  unfold tickInch
  split
  · exact expireInch_calm ..
  · exact .onProj ⟨⟨⟨rfl, rfl, rfl, rfl, rfl, id⟩, id, fun _ => rfl⟩, fun _ => rfl⟩

theorem endRunUp_calm (p : Side) (s : State) : Calm s (endRunUp p s) := by
  unfold endRunUp
  split
  · exact reachSpeed_calm ..
  · exact .refl s

theorem expireRunUp_calm (p : Side) (s : State) : Calm s (expireRunUp p s) := by
  unfold expireRunUp
  (repeat' split)
  · exact reachSpeed_calm ..
  · exact failStart_calm ..
  · exact .refl s

theorem tickRunUp_calm (p : Side) (s : State) : Calm s (tickRunUp p s) := by
  unfold tickRunUp
  (repeat' split)
  · exact endRunUp_calm ..
  · exact expireRunUp_calm ..
  · exact .onProj ⟨⟨⟨rfl, rfl, rfl, rfl, rfl, id⟩, id, fun _ => rfl⟩, fun _ => rfl⟩

theorem projectorWork_calm (p : Side) (s : State) : Calm s (projectorWork p s) :=
  ((judgeStanding_calm p s).trans (tickInch_calm p _)).trans (tickRunUp_calm p _)

theorem failAttempt_calm (l : Side) (amperes : Nat) (m : Moment) (s : State) : Calm s (failAttempt l amperes m s) := by
  have hread :
      Calm s (s.onLamp l fun x => { x with amperes := amperes, strikerClosed := false, attemptTimer := none }) :=
    .of_eq rfl rfl rfl
  unfold failAttempt failStrike
  dsimp only
  split
  · exact .of_eq rfl rfl rfl
  · exact (hread.trans (lampToDark_calm ..)).trans (raiseCondition_calm ..)

theorem expireAttempt_calm (l : Side) (amperes : Nat) (m : Moment) (s : State) :
    Calm s (expireAttempt l amperes m s) := by
  unfold expireAttempt
  (repeat' split)
  · exact .of_eq rfl rfl rfl
  · exact failAttempt_calm ..
  · exact .refl s

theorem tickAttempt_calm (l : Side) (amperes : Nat) (s : State) : Calm s (tickAttempt l amperes s) := by
  unfold tickAttempt
  (repeat' split)
  · exact .of_eq (by simp) (by simp) (by simp)
  · exact expireAttempt_calm ..
  · exact .of_eq rfl rfl rfl
  · exact .refl s

theorem lampWork_calm (l : Side) (amperes : Nat) (s : State) : Calm s (lampWork l amperes s) := by
  unfold lampWork firstReading
  (repeat' split)
  all_goals first | exact tickAttempt_calm .. | exact .of_eq (by simp) (by simp) (by simp)

theorem gateWork_steady (p : Side) (s : State) : Steady s (gateWork p s) := by
  unfold gateWork
  dsimp only
  generalize (if (s.proj.get p).rate < stallRate then (s.proj.get p).stall + 1 else 0) = count
  (repeat' split)
  · exact (gateTrip_calm ..).steady
  · exact .onProj ⟨⟨rfl, rfl, rfl, rfl, rfl, id⟩, id, fun _ => rfl⟩
  · exact (Calm.refl s).steady

/-- A lamp's reading bears on no projector's readiness. -/
theorem onLamp_amperes_ready (l p : Side) (amperes : Nat) (s : State) :
    (s.onLamp l fun x => { x with amperes := amperes }).ready p = s.ready p := by
  have hstate : ((s.onLamp l fun x => { x with amperes := amperes }).lamp.get p).state = (s.lamp.get p).state := by
    rw [State.onLamp_lamp, Both.get_set]
    split
    · rename_i h; rw [h]
    · rfl
  unfold State.ready State.screenAllowed
  rw [hstate]
  rfl

/-- The arc lost at the tenth boundary, where no emergency swap follows. -/
theorem expireArc_calm {l : Side} {s : State} (amperes : Nat) (m : Moment)
    (h : s.onScreen l = true → s.seq.automation = .engaged → s.ready l.other = false) :
    Calm s (expireArc l amperes m s) := by
  have hread : Calm s (s.onLamp l fun x => { x with amperes := amperes }) := .of_eq rfl rfl rfl
  unfold expireArc
  split
  · exact hread.trans (loseArc_calm _ fun hs ha => (onLamp_amperes_ready ..).trans (h hs ha))
  · exact .refl s

/-- The current watch, where it makes no emergency swap. -/
theorem arcWatch_calm {l : Side} {s : State} (amperes : Nat)
    (h : s.onScreen l = true → s.seq.automation = .engaged → s.ready l.other = false) :
    Calm s (arcWatch l amperes s) := by
  unfold arcWatch
  split
  · split
    · exact expireArc_calm _ _ h
    · exact .of_eq rfl rfl rfl
  · exact .refl s

theorem failTrim_calm (l : Side) (s : State) : Calm s (failTrim l s) := by
  have hended : Calm s (s.onLamp l Lamp.trimEnded) := .of_eq rfl rfl rfl
  exact hended.trans (raiseCondition_calm ..)

theorem countTrim_calm (l : Side) (inBand : Bool) (s : State) : Calm s (countTrim l inBand s) := by
  unfold countTrim
  dsimp only
  split
  · split
    · exact .of_eq rfl rfl rfl
    · split
      · exact failTrim_calm ..
      · exact .of_eq rfl rfl rfl
  · exact .refl s

theorem feedInterval_calm (l : Side) (volts amperes : Nat) (m : Moment) (s : State) :
    Calm s (feedInterval l volts amperes m s) := by
  unfold feedInterval
  split
  · have hread (g : Lamp → Lamp) : Calm s (s.onLamp l g) := .of_eq rfl rfl rfl
    have hfed (g h : Lamp → Lamp) (u : State) : Calm u ((u.onLamp l g).onLamp l h) := .of_eq rfl rfl rfl
    exact ((hread _).trans (countTrim_calm ..)).trans (hfed ..)
  · exact .refl s

theorem tickFeed_calm (l : Side) (volts amperes : Nat) (s : State) : Calm s (tickFeed l volts amperes s) := by
  unfold tickFeed
  split
  · exact feedInterval_calm ..
  · exact .of_eq rfl rfl rfl

theorem raiseJam_calm (q : Port) (s : State) : Calm s (raiseJam q (s.onShutter q Shutter.jammed)) := by
  have hjammed : Calm s (s.onShutter q Shutter.jammed) := .of_eq rfl rfl rfl
  exact hjammed.trans (raiseCondition_calm ..)

theorem tickShutter_calm (q : Port) (s : State) : Calm s (tickShutter q s) := by
  unfold tickShutter expireFall expireRaise
  (repeat' split)
  all_goals first | exact raiseJam_calm .. | exact .of_eq rfl rfl rfl

theorem judgeLink_calm (s : State) : Calm s (judgeLink s) := .of_eq (by simp) (by simp) (by simp)

theorem tickSave_calm (s : State) : Calm s (tickSave s) := .of_eq (by simp) (by simp) (by simp)

theorem expireDouse_calm (l : Side) (s : State) : Calm s (expireDouse l s) := by
  have hstopped : Calm s (s.onSeq fun q => { q with douse := q.douse.set l none }) :=
    .of_seq rfl rfl ⟨id, id, id, id, id⟩
  unfold expireDouse
  dsimp only
  (repeat' split)
  · exact hstopped
  · exact hstopped.trans (extinguishLamp_calm ..)
  · exact .refl s

theorem tickDouse_calm (l : Side) (s : State) : Calm s (tickDouse l s) := by
  unfold tickDouse
  split
  · exact expireDouse_calm ..
  · exact .of_seq rfl rfl ⟨id, id, id, id, id⟩

end Sys2Proof.Machine
end

section
/-! Who comes ON_SCREEN at a period boundary: by an emergency swap in the blocks' own work, by a swap in the sequencer's
tests, or by a show start; and what then stands (R70, R73, R78, R84, R86). -/

namespace Sys2Proof.Machine

open Sys2Proof

/-! ### A projector that has just come ON_SCREEN -/

/-- The counts of both projectors stand, and no start becomes pending. -/
def CountsKept (s t : State) : Prop := ∀ p, (s.proj.get p).CountKept (t.proj.get p)

/-- Nobody comes ON_SCREEN, and a projector that stays there keeps its cue window. -/
def ScreenKept (s t : State) : Prop := ∀ p, (s.proj.get p).ScreenKept (t.proj.get p)

theorem CountsKept.trans {s t u : State} (h : CountsKept s t) (h' : CountsKept t u) : CountsKept s u :=
  fun p => (h p).trans (h' p)

theorem ScreenKept.trans {s t u : State} (h : ScreenKept s t) (h' : ScreenKept t u) : ScreenKept s u :=
  fun p => (h p).trans (h' p)

theorem ScreenKept.of_proj {s t : State} (h : t.proj = s.proj) : ScreenKept s t := fun p => by rw [h]; exact .refl _

theorem ScreenKept.counts {s t : State} (h : ScreenKept s t) : CountsKept s t := fun p => (h p).toCountKept

theorem ScreenKept.off {s t : State} (h : ScreenKept s t) {p : Side} (hp : s.onScreen p = false) :
    t.onScreen p = false :=
  (onScreen_eq_false_iff t p).2 fun ht => (onScreen_eq_false_iff s p).1 hp ((h p).shows ht)

theorem Steady.screen {s t : State} (h : Steady s t) : ScreenKept s t := h.proj

theorem Calm.screen {s t : State} (h : Calm s t) : ScreenKept s t := h.steady.proj

theorem Calm.counts {s t : State} (h : Calm s t) : CountsKept s t := h.screen.counts

/-- `q` is alone on the screen, as it stands after it has come there: the four flags clear, its window closed and its
stall count 0 (R59, R70, R154). -/
structure Fresh (q : Side) (s : State) : Prop where
  alone : s.onScreen q.other = false
  strikeTaken : s.seq.strikeTaken = false
  motorTaken : s.seq.motorTaken = false
  swapReached : s.seq.swapReached = false
  swapDue : s.seq.swapDue = false
  window_closed : (s.proj.get q).windowOpen = false
  stall : (s.proj.get q).stall = 0

/-- The screen has passed from `p` to the other projector: that is ON_SCREEN, `p` is in RUNOUT, and no start is pending
(R78). -/
structure Passed (p : Side) (s : State) : Prop where
  fresh : Fresh p.other s
  shows : s.onScreen p.other = true
  runout : (s.proj.get p).state = .runout
  pending : ∀ q, (s.proj.get q).startPending = false

theorem Passed.off {p : Side} {s : State} (h : Passed p s) : s.onScreen p = false := by
  rw [onScreen_eq_false_iff, h.runout]; decide

theorem Fresh.calm {q : Side} {s t : State} (h : Fresh q s) (hc : Calm s t) (ht : t.onScreen q = true) : Fresh q t where
  alone := hc.steady.off h.alone
  strikeTaken := hc.seq.strikeTaken h.strikeTaken
  motorTaken := hc.seq.motorTaken h.motorTaken
  swapReached := hc.seq.swapReached h.swapReached
  swapDue := hc.seq.swapDue h.swapDue
  window_closed := ((hc.proj q).window_open ((onScreen_iff t q).1 ht)).trans h.window_closed
  stall := ((hc.proj q).stall ((onScreen_iff t q).1 ht)).trans h.stall

theorem enterScreen_proj_same (p : Side) (s : State) : (enterScreen p s).proj.get p = (s.proj.get p).shown :=
  (enterScreen_opened p s).1

theorem enterScreen_proj_other (p : Side) (s : State) :
    (enterScreen p s).proj.get p.other = (s.proj.get p.other).notStarting :=
  (enterScreen_opened p s).2.1

/-- Both projectors, one named first. -/
theorem Side.forall_of_both {P : Side → Prop} (p : Side) (h : P p) (h' : P p.other) (q : Side) : P q := by
  by_cases hq : q = p
  · exact hq ▸ h
  · exact Side.eq_other_of_ne hq ▸ h'

theorem enterScreen_counts (p : Side) (s : State) : CountsKept s (enterScreen p s) :=
  Side.forall_of_both p (by rw [enterScreen_proj_same]; exact ⟨rfl, rfl, rfl, rfl, rfl, fun _ => rfl⟩)
    (by rw [enterScreen_proj_other]; exact ⟨rfl, rfl, rfl, rfl, rfl, fun _ => rfl⟩)

theorem enterScreen_pending (p : Side) (s : State) : ∀ q, ((enterScreen p s).proj.get q).startPending = false :=
  Side.forall_of_both p (by rw [enterScreen_proj_same]; rfl) (by rw [enterScreen_proj_other]; rfl)

theorem enterScreen_onScreen (p : Side) (s : State) : (enterScreen p s).onScreen p = true := by
  rw [onScreen_iff, enterScreen_proj_same]; rfl

theorem enterScreen_onScreen_other (p : Side) (s : State) :
    (enterScreen p s).onScreen p.other = s.onScreen p.other := by
  rw [State.onScreen, enterScreen_proj_other]; rfl

/-- A projector that takes an empty screen stands there fresh. -/
theorem enterScreen_fresh {p : Side} {s : State} (h : s.onScreen p.other = false) : Fresh p (enterScreen p s) := by
  obtain ⟨hp, -, -, hseq, -⟩ := enterScreen_opened p s
  exact ⟨(enterScreen_onScreen_other p s).trans h, by rw [hseq], by rw [hseq], by rw [hseq], by rw [hseq],
    by rw [hp]; rfl, by rw [hp]; rfl⟩

theorem lampToDark_projState (l p : Side) (g : Lamp → Lamp) (s : State) :
    ((lampToDark l g s).proj.get p).state = (s.proj.get p).state := by
  rw [lampToDark_eq, Both.get_set]
  split
  · rename_i h; rw [← h]; rfl
  · rfl

theorem startDouse_projState (l p : Side) (m : Moment) (s : State) :
    ((startDouse l m s).proj.get p).state = (s.proj.get p).state := by
  unfold startDouse
  (repeat' split) <;> first | exact lampToDark_projState .. | rfl

/-- A swap passes the screen (R78). -/
theorem swapScreens_passed (p : Side) (m : Moment) (s : State) : Passed p (swapScreens p.other p m s) := by
  have hleft := leaveScreen_onScreen (st := .runout) (by decide) p s
  have hstate : ((leaveScreen p .runout s).proj.get p).state = .runout := by
    rw [leaveScreen_eq]; simp [Projector.hidden]
  unfold swapScreens
  generalize leaveScreen p .runout s = u at hleft hstate
  have hcalm := startDouse_calm p m (enterScreen p.other u)
  have hshows : (startDouse p m (enterScreen p.other u)).onScreen p.other = true := by
    rw [onScreen_iff, startDouse_projState, ← onScreen_iff]
    exact enterScreen_onScreen ..
  refine ⟨Fresh.calm (enterScreen_fresh (by simpa using hleft)) hcalm hshows, hshows, ?_,
    fun q => (hcalm.proj q).pending (enterScreen_pending _ u q)⟩
  have hother := enterScreen_proj_other p.other u
  rw [Side.other_other] at hother
  rw [startDouse_projState, hother]
  exact hstate

theorem swapScreens_counts (i o : Side) (m : Moment) (s : State) : CountsKept s (swapScreens i o m s) :=
  ((leaveScreen_calm (by decide) o s).counts.trans (enterScreen_counts i _)).trans (startDouse_calm o m _).counts

/-- What passed stays passed where the states of the projectors stand. -/
theorem Passed.calm {p : Side} {s t : State} (h : Passed p s) (hc : Calm s t)
    (hstate : ∀ q, (t.proj.get q).state = (s.proj.get q).state) : Passed p t := by
  have hshows : t.onScreen p.other = true := by
    rw [onScreen_iff, hstate]; exact (onScreen_iff _ _).1 h.shows
  exact ⟨h.fresh.calm hc hshows, hshows, (hstate p).trans h.runout, fun q => (hc.proj q).pending (h.pending q)⟩

/-! ### The emergency swap (R86, R111) -/

/-- An arc lost under ENGAGED, on the screen, with the other projector ready, passes the screen. -/
theorem loseArc_passed {l : Side} {s : State} (m : Moment) (hs : s.onScreen l = true)
    (ha : s.seq.automation = .engaged) (hr : s.ready l.other = true) : Passed l (loseArc l m s) := by
  unfold loseArc
  dsimp only
  rw [if_pos hs, lampToDark_ready_other, if_pos ⟨by simpa using ha, hr⟩]
  exact (swapScreens_passed ..).calm (raiseCondition_calm ..) (by simp)

theorem loseArc_counts (l : Side) (m : Moment) (s : State) : CountsKept s (loseArc l m s) := by
  have hdark := (lampToDark_calm l (fun x => { x with lowCurrent := 10 }) s).counts
  unfold loseArc
  dsimp only
  refine CountsKept.trans ?_ (raiseCondition_calm ..).counts
  (repeat' split)
  · exact hdark.trans (swapScreens_counts _ _ _ _)
  · exact hdark.trans (darkenScreen_calm ..).counts
  · exact hdark

theorem onLamp_calm (s : State) (l : Side) (g : Lamp → Lamp) : Calm s (s.onLamp l g) := .of_eq rfl rfl rfl

theorem arcWatch_counts (l : Side) (amperes : Nat) (s : State) : CountsKept s (arcWatch l amperes s) := by
  unfold arcWatch expireArc
  split
  · split
    · split
      · exact (onLamp_calm ..).counts.trans (loseArc_counts _ _ _)
      · exact (Calm.refl s).counts
    · exact (onLamp_calm ..).counts
  · exact (Calm.refl s).counts

/-- The current watch of a lamp whose projector is ON_SCREEN, the other ready and automation ENGAGED: the screen passes,
or nothing but the reading changes. -/
theorem arcWatch_engaged {l : Side} {s : State} (amperes : Nat) (hs : s.onScreen l = true)
    (ha : s.seq.automation = .engaged) (hr : s.ready l.other = true) :
    Calm s (arcWatch l amperes s) ∨ Passed l (arcWatch l amperes s) := by
  unfold arcWatch
  split
  · split
    · rename_i hw hlow
      rw [expireArc, if_pos ⟨hw, hlow⟩]
      exact .inr (loseArc_passed _ hs ha ((onLamp_amperes_ready ..).trans hr))
    · exact .inl (onLamp_calm ..)
  · exact .inl (.refl s)

/-- The current watch is calm, or it makes the emergency swap. -/
theorem arcWatch_cases (l : Side) (amperes : Nat) (s : State) :
    Calm s (arcWatch l amperes s)
      ∨ s.onScreen l = true ∧ s.seq.automation = .engaged ∧ Passed l (arcWatch l amperes s) := by
  by_cases h : s.onScreen l = true ∧ s.seq.automation = .engaged ∧ s.ready l.other = true
  · obtain ⟨hs, ha, hr⟩ := h
    exact (arcWatch_engaged amperes hs ha hr).imp_right fun hp => ⟨hs, ha, hp⟩
  · exact .inl (arcWatch_calm _ fun hs ha => by simpa [hs, ha] using h)

/-! ### The blocks' own work as a whole (R73) -/

/-- The state with both projectors' pulses counted (R60), which is done first of all. -/
def State.counted (s : State) : State := (s.onProj .a Projector.rateCounted).onProj .b Projector.rateCounted

/-- The blocks' work from the count of the pulses to the current watch. -/
def beforeWatch (r : Readings) (s : State) : State :=
  gateWork .b (gateWork .a (lampWork .b r.amperes.b (lampWork .a r.amperes.a (projectorWork .b (projectorWork .a s)))))

/-- The blocks' work that follows the current watch. -/
def afterWatch (r : Readings) (s : State) : State :=
  let s6 := tickFeed .b r.volts.b r.amperes.b (tickFeed .a r.volts.a r.amperes.a s)
  let s7 := tickShutter .observation2 (tickShutter .observation1 (tickShutter .b (tickShutter .a s6)))
  tickDouse .b (tickDouse .a (tickSave (judgeLink s7)))

theorem ownWork_eq (r : Readings) (s : State) :
    ownWork r s =
      afterWatch r (arcWatch .b r.amperes.b (arcWatch .a r.amperes.a (beforeWatch r s.counted))) := rfl

theorem beforeWatch_steady (r : Readings) (s : State) : Steady s (beforeWatch r s) :=
  ((((projectorWork_calm ..).trans (projectorWork_calm ..)).trans
    ((lampWork_calm ..).trans (lampWork_calm ..))).steady.trans (gateWork_steady ..)).trans (gateWork_steady ..)

theorem afterWatch_calm (r : Readings) (s : State) : Calm s (afterWatch r s) := by
  have hfeed := (tickFeed_calm .a r.volts.a r.amperes.a s).trans (tickFeed_calm .b r.volts.b r.amperes.b _)
  have hshutters := (((hfeed.trans (tickShutter_calm .a _)).trans (tickShutter_calm .b _)).trans
    (tickShutter_calm .observation1 _)).trans (tickShutter_calm .observation2 _)
  exact (((hshutters.trans (judgeLink_calm _)).trans (tickSave_calm _)).trans (tickDouse_calm .a _)).trans
    (tickDouse_calm .b _)

theorem counted_get (s : State) (p : Side) : s.counted.proj.get p = (s.proj.get p).rateCounted := by cases p <;> rfl

theorem counted_onScreen (s : State) (p : Side) : s.counted.onScreen p = s.onScreen p := by
  rw [State.onScreen, counted_get]; rfl

theorem ownWork_counts (r : Readings) (s : State) : CountsKept s.counted (ownWork r s) :=
  (((beforeWatch_steady r s.counted).screen.counts.trans (arcWatch_counts _ _ _)).trans
    (arcWatch_counts _ _ _)).trans
    (afterWatch_calm r _).counts

/-- The blocks' own work where no emergency swap can be made: nobody is ON_SCREEN, or automation is not ENGAGED. -/
theorem ownWork_steady (r : Readings) {s : State}
    (h : s.seq.automation = .engaged → ∀ p, s.onScreen p = false) : Steady s.counted (ownWork r s) := by
  have hcalm {l : Side} {u : State} (amperes : Nat) (hu : Steady s.counted u) : Calm u (arcWatch l amperes u) := by
    obtain hc | ⟨hs, ha, -⟩ := arcWatch_cases l amperes u
    · exact hc
    · have hoff := h (hu.seq.engaged ha) l
      rw [← counted_onScreen, hu.onScreen hs] at hoff
      cases hoff
  have h4 := beforeWatch_steady r s.counted
  have h5 := h4.trans (hcalm (l := .a) r.amperes.a h4).steady
  have h6 := h5.trans (hcalm (l := .b) r.amperes.b h5).steady
  exact h6.trans (afterWatch_calm r _).steady

/-- Both current watches, `p` alone being ON_SCREEN or nobody: calm, or the screen passes from `p`, and what takes place
after the swap is calm. -/
theorem arcWatches_cases (r : Readings) {p : Side} {s : State} (h : s.onScreen p.other = false) :
    Calm s (arcWatch .b r.amperes.b (arcWatch .a r.amperes.a s))
      ∨ ∃ u, Passed p u ∧ Calm u (arcWatch .b r.amperes.b (arcWatch .a r.amperes.a s)) := by
  obtain ha | ⟨hsa, -, ha⟩ := arcWatch_cases .a r.amperes.a s
  · obtain hb | ⟨hsb, -, hb⟩ := arcWatch_cases .b r.amperes.b (arcWatch .a r.amperes.a s)
    · exact .inl (ha.trans hb)
    · obtain rfl : p = .b := by
        cases p
        · exact absurd (ha.steady.onScreen hsb) (Bool.eq_false_iff.1 h)
        · rfl
      exact .inr ⟨_, hb, .refl _⟩
  · obtain rfl : p = .a := by
      cases p
      · rfl
      · exact absurd hsa (Bool.eq_false_iff.1 h)
    refine .inr ⟨_, ha, arcWatch_calm _ fun _ _ => ?_⟩
    have hrunout : ((arcWatch .a r.amperes.a s).proj.get (Side.other .b)).state = .runout := ha.runout
    simp [State.ready, hrunout]

/-- The blocks' own work, `p` alone being ON_SCREEN: steady, or `p` has left the screen by an emergency swap, and the
other projector stands fresh while it is on the screen. -/
theorem ownWork_cases (r : Readings) {p : Side} {s : State} (h : s.onScreen p.other = false) :
    Steady s.counted (ownWork r s)
      ∨ (ownWork r s).onScreen p = false ∧ ((ownWork r s).onScreen p.other = true → Fresh p.other (ownWork r s)) := by
  have h4 := beforeWatch_steady r s.counted
  have hafter := afterWatch_calm r (arcWatch .b r.amperes.b (arcWatch .a r.amperes.a (beforeWatch r s.counted)))
  obtain hc | ⟨u, hp, hc⟩ := arcWatches_cases r (h4.off ((counted_onScreen s p.other).trans h))
  · exact .inl (h4.trans (hc.trans hafter).steady)
  · have hcalm := hc.trans hafter
    exact .inr ⟨hcalm.steady.off hp.off, hp.fresh.calm hcalm⟩

/-! ### The sequencer's tests (R73) -/

theorem incomingReady_eq {s : State} {o i : Side} (ho : s.onScreen o = true) (h : s.incomingReady = some i) :
    i = o.other := by
  have hrunning : (s.proj.get i).state = .running := by
    unfold State.incomingReady at h
    split at h
    · cases h
    · split at h
      · rename_i hready
        cases h
        have hr := hready.2
        simp only [State.ready, Bool.and_eq_true, decide_eq_true_eq] at hr
        exact hr.1
      · cases h
  by_contra hne
  rw [onScreen_iff] at ho
  have : i = o := by cases i <;> cases o <;> simp_all [Side.other]
  rw [← this, hrunning] at ho
  cases ho

theorem outgoing_onScreen {s : State} {o : Side} (h : s.outgoing = some o) : s.onScreen o = true := by
  unfold State.outgoing at h
  (repeat' split at h) <;> cases h <;> assumption

/-- With one projector off the screen, the outgoing one is the other while it is ON_SCREEN. -/
theorem outgoing_eq {s : State} {p : Side} (h : s.onScreen p.other = false) :
    s.outgoing = if s.onScreen p then some p else none := by
  unfold State.outgoing
  cases p
  · have hb : s.onScreen .b = false := h
    rw [hb]; simp
  · have ha : s.onScreen .a = false := h
    rw [ha]; simp

theorem automaticFade_calm (percent tenths : Nat) (s : State) : Calm s (automaticFade percent tenths s) :=
  .of_eq (by simp) (by simp) (by simp)

theorem startMotor_calm (p : Side) (m : Moment) (s : State) : Calm s (startMotor p m s) :=
  .onProj (Projector.CountKept.calm ⟨rfl, rfl, rfl, rfl, rfl, id⟩ (by simp))

theorem askStart_calm (p : Side) (m : Moment) (s : State) : Calm s (askStart p m s) := by
  unfold askStart
  split
  · exact startMotor_calm ..
  · exact .refl s

/-- The outgoing record's ending: a swap from the outgoing projector, or nobody comes ON_SCREEN (R77 to R81). -/
theorem takeEnding_cases {o : Side} {s : State} (r : Reel) (m : Moment) (ho : s.onScreen o = true) :
    ScreenKept s (takeEnding o r m s)
      ∨ CountsKept s (takeEnding o r m s) ∧ Passed o (takeEnding o r m s) := by
  have hleft := leaveScreen_calm (st := .runout) (by decide) o s
  unfold takeEnding
  split
  · exact .inl ((hleft.trans (automaticFade_calm ..)).trans (startDouse_calm ..)).screen
  · split
    · exact .inl (((hleft.trans (automaticFade_calm ..)).trans (startDouse_calm ..)).trans
        (automationOff_calm _)).screen
    · split
      · rename_i i hi
        obtain rfl := incomingReady_eq ho hi
        exact .inr ⟨swapScreens_counts _ _ _ _, swapScreens_passed ..⟩
      · exact .inl (.of_proj (by simp))

theorem swapPointTest_cases (m : Moment) (s : State) :
    ScreenKept s (swapPointTest m s)
      ∨ ∃ o, s.outgoing = some o ∧ CountsKept s (swapPointTest m s) ∧ Passed o (swapPointTest m s) := by
  have hreached : ScreenKept s (s.onSeq fun q => { q with swapReached := true }) := .of_proj rfl
  unfold swapPointTest reachSwapPoint
  split
  · split
    · rename_i o r ho _
      split
      · exact .inl (Calm.refl s).screen
      · have hs : (s.onSeq fun q => { q with swapReached := true }).onScreen o = true := outgoing_onScreen ho
        obtain h | ⟨hcounts, hpassed⟩ := takeEnding_cases r m hs
        · exact .inl (hreached.trans h)
        · exact .inr ⟨o, ho, hcounts, hpassed⟩
    · exact .inl (Calm.refl s).screen
  · exact .inl (Calm.refl s).screen

theorem lateSwapTest_cases (m : Moment) (s : State) :
    lateSwapTest m s = s
      ∨ ∃ o, s.outgoing = some o ∧ CountsKept s (lateSwapTest m s) ∧ Passed o (lateSwapTest m s) := by
  unfold lateSwapTest
  split
  · split
    · rename_i o i ho hi
      obtain rfl := incomingReady_eq (outgoing_onScreen ho) hi
      exact .inr ⟨o, ho, swapScreens_counts _ _ _ _, swapScreens_passed ..⟩
    · exact .inl rfl
  · exact .inl rfl

/-- The late swap waits for swap due. -/
theorem lateSwapTest_notDue {s : State} (m : Moment) (h : s.seq.swapDue = false) : lateSwapTest m s = s :=
  if_neg fun hdue => by rw [h] at hdue; cases hdue.2

theorem strikeTest_screen (m : Moment) (s : State) : ScreenKept s (strikeTest m s) := .of_proj (by simp)

theorem motorTest_screen (m : Moment) (s : State) : ScreenKept s (motorTest m s) := by
  have hstarted (r : Reel) : ScreenKept s (startIncoming r m s) :=
    (askStart_calm r.projector m s).screen.trans (.of_proj rfl)
  unfold motorTest unawareTest
  split
  · exact (Calm.refl s).screen
  · split
    · exact .of_proj (by simp)
    · split
      · exact hstarted _
      · exact (Calm.refl s).screen

theorem leadTests_screen (evaluated : Option Side) (s : State) : ScreenKept s (leadTests evaluated s) := by
  have hstrike : ScreenKept s (if s.outgoing = evaluated then strikeTest .atBoundary s else s) := by
    split
    · exact strikeTest_screen _ _
    · exact (Calm.refl s).screen
  unfold leadTests
  dsimp only
  generalize (if s.outgoing = evaluated then strikeTest .atBoundary s else s) = u at hstrike
  refine hstrike.trans ?_
  split
  · exact motorTest_screen _ _
  · exact (Calm.refl _).screen

theorem leadTests_of_ne {evaluated : Option Side} {s : State} (h : s.outgoing ≠ evaluated) :
    leadTests evaluated s = s := by
  unfold leadTests
  dsimp only
  rw [if_neg h, if_neg h]

theorem Passed.outgoing_ne {p : Side} {s : State} (h : Passed p s) : s.outgoing ≠ some p := fun ho => by
  have hs := outgoing_onScreen ho
  rw [h.off] at hs
  cases hs

/-- The sequencer's tests, `p` alone being ON_SCREEN or nobody: the screen passes from `p`, or nobody comes on it. -/
theorem sequencerTests_cases {p : Side} {s : State} (h : s.onScreen p.other = false) :
    ScreenKept s (sequencerTests s)
      ∨ s.onScreen p = true ∧ CountsKept s (sequencerTests s) ∧ Passed p (sequencerTests s) := by
  have hout {o : Side} (ho : s.outgoing = some o) : o = p ∧ s.onScreen p = true := by
    rw [outgoing_eq h] at ho
    split at ho
    · exact ⟨(Option.some.inj ho).symm, ‹_›⟩
    · cases ho
  unfold sequencerTests
  obtain hswap | ⟨o, ho, hcounts, hpassed⟩ := swapPointTest_cases .atBoundary s
  · obtain hlate | ⟨o, ho, hcounts, hpassed⟩ := lateSwapTest_cases .atBoundary (swapPointTest .atBoundary s)
    · rw [hlate]
      exact .inl (hswap.trans (leadTests_screen _ _))
    · rw [outgoing_eq (hswap.off h)] at ho
      split at ho
      · rename_i hp
        obtain rfl := Option.some.inj ho
        have hs : s.onScreen p = true := Bool.of_not_eq_false fun hoff => by rw [hswap.off hoff] at hp; cases hp
        rw [leadTests_of_ne (by rw [outgoing_eq h, hs]; exact hpassed.outgoing_ne)]
        exact .inr ⟨hs, hswap.counts.trans hcounts, hpassed⟩
      · cases ho
  · obtain ⟨rfl, hs⟩ := hout ho
    rw [lateSwapTest_notDue _ hpassed.fresh.swapDue, leadTests_of_ne (ho ▸ hpassed.outgoing_ne)]
    exact .inr ⟨hs, hcounts, hpassed⟩

theorem sequencerTests_counts (s : State) : CountsKept s (sequencerTests s) := by
  have hswap : CountsKept s (swapPointTest .atBoundary s) := by
    obtain h | ⟨-, -, h, -⟩ := swapPointTest_cases .atBoundary s
    · exact h.counts
    · exact h
  have hlate (u : State) : CountsKept u (lateSwapTest .atBoundary u) := by
    obtain h | ⟨-, -, h, -⟩ := lateSwapTest_cases .atBoundary u
    · rw [h]; exact (Calm.refl u).counts
    · exact h
  exact (hswap.trans (hlate _)).trans (leadTests_screen _ _).counts

/-! ### The show start (R84) -/

theorem withholdStrike_calm (w : Withholding) (d : Detail) (s : State) : Calm s (withholdStrike w d s) := by
  have hmade : Calm s (s.onSeq fun q => { q with withholding := some w }) := .of_seq rfl rfl ⟨id, id, id, id, id⟩
  unfold withholdStrike
  split
  · exact .refl s
  · exact hmade.trans (raiseCondition_calm ..)

theorem automaticStrike_calm (l : Side) (m : Moment) (s : State) : Calm s (automaticStrike l m s) :=
  .of_seq (by simp) (by simp) ⟨by simp, by simp, by simp, by simp, by simp⟩

theorem showStartStrike_calm (p : Side) (m : Moment) (s : State) : Calm s (showStartStrike p m s) := by
  unfold showStartStrike
  split
  · exact .refl s
  · split
    · split
      · exact automaticStrike_calm ..
      · exact withholdStrike_calm ..
    · exact .refl s

theorem showStartFadeAndMotor_calm (p : Side) (m : Moment) (s : State) : Calm s (showStartFadeAndMotor p m s) := by
  have hfade := automaticFade_calm s.store.working.showLevel s.store.working.showRamp s
  unfold showStartFadeAndMotor
  split
  · exact (hfade.trans (.onProj ⟨⟨⟨rfl, rfl, rfl, rfl, rfl, id⟩, id, fun _ => rfl⟩, fun _ => rfl⟩)).trans
      (askStart_calm ..)
  · exact .refl s

/-- A show start opens on an empty screen, with its start pending; or it is calm. -/
theorem showStartSteps_cases (p : Side) (s : State) :
    Calm s (showStartSteps p s)
      ∨ ∃ u, Calm s u ∧ (u.proj.get p).startPending = true ∧ u.onScreen p.other = false
        ∧ showStartSteps p s = enterScreen p u := by
  have hcalm := (showStartStrike_calm p .atBoundary s).trans (showStartFadeAndMotor_calm p .atBoundary _)
  unfold showStartSteps showStartOpen
  split
  · exact .inl hcalm
  · split
    · rename_i hopen
      obtain ⟨hstarting, -, hallowed⟩ := hopen
      simp only [State.starting, Bool.and_eq_true] at hstarting
      simp only [State.openAllowed, Bool.and_eq_true, Bool.not_eq_true'] at hallowed
      exact .inr ⟨_, hcalm, hstarting.2, hallowed.2, rfl⟩
    · exact .inl hcalm

theorem showStartSteps_counts (p : Side) (s : State) : CountsKept s (showStartSteps p s) := by
  obtain h | ⟨u, hu, -, -, h⟩ := showStartSteps_cases p s
  · exact h.counts
  · rw [h]; exact hu.counts.trans (enterScreen_counts p u)

/-- A projector with no start pending is not put ON_SCREEN by a show start, and one that stays there keeps its
window. -/
theorem showStartSteps_stays {p : Side} (l : Side) {s : State} (hp : (s.proj.get p).startPending = false)
    (ht : (showStartSteps l s).onScreen p = true) :
    s.onScreen p = true ∧ ((showStartSteps l s).proj.get p).windowOpen = (s.proj.get p).windowOpen := by
  obtain h | ⟨u, hu, hpending, hother, h⟩ := showStartSteps_cases l s
  · exact ⟨h.steady.onScreen ht, (h.screen p).window_open ((onScreen_iff _ p).1 ht)⟩
  · rw [h] at ht
    obtain rfl | hl := eq_or_ne p l
    · rw [(hu.counts p).pending hp] at hpending
      cases hpending
    · obtain rfl := Side.eq_other_of_ne hl
      rw [enterScreen_onScreen_other, hother] at ht
      cases ht

/-- The other projector stands fresh after a show start if it did, or was off the screen, before it. -/
theorem showStartSteps_fresh {p : Side} (l : Side) {s : State} (hp : (s.proj.get p).startPending = false)
    (hs : s.onScreen p.other = true → Fresh p.other s) (ht : (showStartSteps l s).onScreen p.other = true) :
    Fresh p.other (showStartSteps l s) := by
  obtain h | ⟨u, hu, hpending, hother, h⟩ := showStartSteps_cases l s
  · exact (hs (h.steady.onScreen ht)).calm h ht
  · obtain rfl | hl := eq_or_ne p l
    · rw [(hu.counts p).pending hp] at hpending
      cases hpending
    · obtain rfl : p.other = l := by rw [Side.eq_other_of_ne hl, Side.other_other]
      rw [h]
      exact enterScreen_fresh hother

end Sys2Proof.Machine
end

section
/-! What follows the frame of a boundary: the rods and the countdown stand but for the unordered-raised flag, and a
sequencer that is not ENGAGED does nothing (R70, R94, R97, R180). -/

namespace Sys2Proof.Machine

open Sys2Proof

/-! ### The parts of a boundary -/

/-- What a boundary judges on its frame, before the sequencer's tests: the cue window and the house cue (R68, R132). -/
def judged (s : State) : State := judgeHouseCue (judgeWindow (sendFrame s))

/-- Both show starts of a boundary (R84). -/
def showStarts (s : State) : State := showStartSteps .b (showStartSteps .a s)

theorem boundary_eq (r : Readings) (s : State) :
    boundary r s =
      showStarts
        (if s.screenPassed (rampStep (ownWork r s)) then sendFrame (rampStep (ownWork r s))
        else evaluatedWork (rampStep (ownWork r s))) := rfl

theorem framed_passed {r : Readings} {s : State} (h : s.screenPassed (rampStep (ownWork r s)) = true) :
    framed r s = rampStep (ownWork r s) := if_pos h

theorem framed_evaluated {r : Readings} {s : State} (h : s.screenPassed (rampStep (ownWork r s)) = false) :
    framed r s = countdownStep (rampStep (ownWork r s)) := if_neg (Bool.eq_false_iff.1 h)

theorem boundary_passed {r : Readings} {s : State} (h : s.screenPassed (rampStep (ownWork r s)) = true) :
    boundary r s = showStarts (sendFrame (framed r s)) := by
  rw [boundary_eq, if_pos h, framed_passed h]

theorem boundary_evaluated {r : Readings} {s : State} (h : s.screenPassed (rampStep (ownWork r s)) = false) :
    boundary r s = showStarts (sequencerTests (judged (framed r s))) := by
  rw [boundary_eq, if_neg (Bool.eq_false_iff.1 h), framed_evaluated h]
  rfl

/-! ### The rods -/

/-- The rod account of both lamps stands. -/
def RodsKept (s t : State) : Prop :=
  ∀ l, (t.lamp.get l).stock = (s.lamp.get l).stock ∧ (t.lamp.get l).rodValid = (s.lamp.get l).rodValid

theorem RodsKept.of_lamp {s t : State} (h : t.lamp = s.lamp) : RodsKept s t := fun l => by rw [h]; exact ⟨rfl, rfl⟩

theorem RodsKept.trans {s t u : State} (h : RodsKept s t) (h' : RodsKept t u) : RodsKept s u :=
  fun l => ⟨(h' l).1.trans (h l).1, (h' l).2.trans (h l).2⟩

theorem RodsKept.set {s t : State} {l : Side} {x : Lamp} (h : t.lamp = s.lamp.set l x)
    (hstock : x.stock = (s.lamp.get l).stock) (hvalid : x.rodValid = (s.lamp.get l).rodValid) : RodsKept s t := by
  intro k
  rw [h, Both.get_set]
  split
  · rename_i hk; rw [← hk]; exact ⟨hstock, hvalid⟩
  · exact ⟨rfl, rfl⟩

theorem startDouse_rods (l : Side) (m : Moment) (s : State) : RodsKept s (startDouse l m s) := by
  unfold startDouse
  (repeat' split)
  · exact .set (congrArg State.lamp (lampToDark_eq ..)) rfl rfl
  · exact .of_lamp rfl
  · exact .of_lamp rfl

theorem swapScreens_rods (i o : Side) (m : Moment) (s : State) : RodsKept s (swapScreens i o m s) := by
  have hentered : RodsKept s (enterScreen i (leaveScreen o .runout s)) := .of_lamp (by simp)
  exact hentered.trans (startDouse_rods _ _ _)

theorem takeEnding_rods (o : Side) (r : Reel) (m : Moment) (s : State) : RodsKept s (takeEnding o r m s) := by
  have hleft (percent tenths : Nat) : RodsKept s (automaticFade percent tenths (leaveScreen o .runout s)) :=
    .of_lamp (by simp)
  have hoff (u : State) : RodsKept u (automationOff u) := .of_lamp (by simp)
  unfold takeEnding
  split
  · exact (hleft _ _).trans (startDouse_rods _ _ _)
  · split
    · exact ((hleft _ _).trans (startDouse_rods _ _ _)).trans (hoff _)
    · split
      · exact swapScreens_rods _ _ _ _
      · exact .of_lamp (by simp)

theorem swapPointTest_rods (m : Moment) (s : State) : RodsKept s (swapPointTest m s) := by
  have hreached : RodsKept s (s.onSeq fun q => { q with swapReached := true }) := .of_lamp rfl
  unfold swapPointTest reachSwapPoint
  (repeat' split)
  all_goals first | exact .of_lamp rfl | exact hreached.trans (takeEnding_rods _ _ _ _)

theorem lateSwapTest_rods (m : Moment) (s : State) : RodsKept s (lateSwapTest m s) := by
  unfold lateSwapTest
  (repeat' split)
  all_goals first | exact .of_lamp rfl | exact swapScreens_rods _ _ _ _

theorem automaticStrike_rods (l : Side) (m : Moment) (s : State) : RodsKept s (automaticStrike l m s) := by
  unfold automaticStrike
  split
  · exact .set (congrArg State.lamp (beginStrike_eq ..)) rfl rfl
  · exact .of_lamp rfl

theorem strikeTest_rods (m : Moment) (s : State) : RodsKept s (strikeTest m s) := by
  have hstrike (o : Side) (r : Reel) : RodsKept s (strikeIncoming o r m s) := by
    unfold strikeIncoming
    split
    · exact (automaticStrike_rods _ _ _).trans (.of_lamp rfl)
    · exact .of_lamp (by simp)
  unfold strikeTest unawareTest
  (repeat' split)
  all_goals first | exact .of_lamp rfl | exact .of_lamp (by simp) | exact hstrike _ _

theorem leadTests_rods (evaluated : Option Side) (s : State) : RodsKept s (leadTests evaluated s) := by
  have hstrike : RodsKept s (if s.outgoing = evaluated then strikeTest .atBoundary s else s) := by
    split
    · exact strikeTest_rods _ _
    · exact .of_lamp rfl
  unfold leadTests
  dsimp only
  generalize (if s.outgoing = evaluated then strikeTest .atBoundary s else s) = u at hstrike
  refine hstrike.trans ?_
  split
  · exact .of_lamp (by simp)
  · exact .of_lamp rfl

theorem sequencerTests_rods (s : State) : RodsKept s (sequencerTests s) :=
  ((swapPointTest_rods _ _).trans (lateSwapTest_rods _ _)).trans (leadTests_rods _ _)

theorem showStartSteps_rods (p : Side) (s : State) : RodsKept s (showStartSteps p s) := by
  have hstrike : RodsKept s (showStartStrike p .atBoundary s) := by
    unfold showStartStrike
    (repeat' split)
    all_goals first | exact .of_lamp rfl | exact .of_lamp (by simp) | exact automaticStrike_rods _ _ _
  exact hstrike.trans (.of_lamp (by simp [showStartSteps]))

theorem boundary_rods (r : Readings) (s : State) : RodsKept (framed r s) (boundary r s) := by
  have hstarts (u : State) : RodsKept u (showStarts u) := (showStartSteps_rods _ _).trans (showStartSteps_rods _ _)
  have hsent (u : State) : RodsKept u (sendFrame u) := .of_lamp (by simp)
  have hjudged (u : State) : RodsKept u (judged u) := .of_lamp (by simp [judged])
  cases h : s.screenPassed (rampStep (ownWork r s))
  · rw [boundary_evaluated h]
    exact ((hjudged _).trans (sequencerTests_rods _)).trans (hstarts _)
  · rw [boundary_passed h]
    exact (hsent _).trans (hstarts _)

/-! ### The countdown -/

/-- A countdown record after tests that may have raised UNORDERED in the spell (R97). -/
def Countdown.Moves (c d : Countdown) : Prop := d = c ∨ c.state = .unordered ∧ d = { c with raised := true }

theorem Countdown.Moves.refl (c : Countdown) : c.Moves c := .inl rfl

theorem Countdown.Moves.trans {c d e : Countdown} (h : c.Moves d) (h' : d.Moves e) : c.Moves e := by
  obtain rfl | ⟨hc, rfl⟩ := h
  · exact h'
  · obtain rfl | ⟨-, rfl⟩ := h'
    · exact .inr ⟨hc, rfl⟩
    · exact .inr ⟨hc, rfl⟩

theorem Countdown.Moves.with_raised {c d : Countdown} (h : c.Moves d) : d = { c with raised := d.raised } := by
  obtain rfl | ⟨-, rfl⟩ := h <;> rfl

/-- A lead test raises UNORDERED, or makes its action. -/
theorem unawareTest_countdown {o : Side} {lead : Nat} {act : State → State} {s : State}
    (h : (act s).seq.countdown = s.seq.countdown) :
    s.seq.countdown.Moves (unawareTest o lead act s).seq.countdown := by
  unfold unawareTest raiseUnordered
  split
  · rename_i hu
    split
    · exact .refl _
    · exact .inr ⟨hu, by simp⟩
  · split
    · exact .inl h
    · exact .refl _

theorem strikeTest_countdown (m : Moment) (s : State) : s.seq.countdown.Moves (strikeTest m s).seq.countdown := by
  unfold strikeTest
  split
  · exact .refl _
  · split
    · exact unawareTest_countdown (by simp)
    · exact .refl _

theorem motorTest_countdown (m : Moment) (s : State) : s.seq.countdown.Moves (motorTest m s).seq.countdown := by
  unfold motorTest
  split
  · exact .refl _
  · exact unawareTest_countdown (by simp)

theorem leadTests_countdown (evaluated : Option Side) (s : State) :
    s.seq.countdown.Moves (leadTests evaluated s).seq.countdown := by
  have hstrike : s.seq.countdown.Moves
      (if s.outgoing = evaluated then strikeTest .atBoundary s else s).seq.countdown := by
    split
    · exact strikeTest_countdown ..
    · exact .refl _
  unfold leadTests
  dsimp only
  generalize (if s.outgoing = evaluated then strikeTest .atBoundary s else s) = u at hstrike
  refine hstrike.trans ?_
  split
  · exact motorTest_countdown ..
  · exact .refl _

theorem sequencerTests_countdown (s : State) : s.seq.countdown.Moves (sequencerTests s).seq.countdown := by
  have h := leadTests_countdown s.outgoing (lateSwapTest .atBoundary (swapPointTest .atBoundary s))
  simpa [sequencerTests] using h

theorem showStarts_countdown (s : State) : (showStarts s).seq.countdown = s.seq.countdown := by simp [showStarts]

/-- After the evaluation of a boundary only the unordered-raised flag of the countdown may change. -/
theorem boundary_countdown (r : Readings) (s : State) :
    (framed r s).seq.countdown.Moves (boundary r s).seq.countdown := by
  cases h : s.screenPassed (rampStep (ownWork r s))
  · rw [boundary_evaluated h, showStarts_countdown]
    generalize framed r s = u
    have htests := sequencerTests_countdown (judged u)
    simpa [judged] using htests
  · rw [boundary_passed h, showStarts_countdown]
    generalize framed r s = u
    exact .refl _

/-! ### A sequencer that is not ENGAGED (R70) -/

section
variable {s : State}

theorem engaged_eq_false (h : s.seq.automation ≠ .engaged) : s.engaged = false := decide_eq_false h

theorem judgeHouseCue_idle (h : s.seq.automation ≠ .engaged) : judgeHouseCue s = s := by
  unfold judgeHouseCue
  (repeat' split)
  · rfl
  · rename_i hcue
    rw [engaged_eq_false h] at hcue
    cases hcue.1
  all_goals rfl

theorem swapPointTest_idle (m : Moment) (h : s.seq.automation ≠ .engaged) : swapPointTest m s = s := by
  rw [swapPointTest, engaged_eq_false h, if_neg (by simp)]

theorem lateSwapTest_idle (m : Moment) (h : s.seq.automation ≠ .engaged) : lateSwapTest m s = s := by
  rw [lateSwapTest, engaged_eq_false h, if_neg (by simp)]

theorem strikeTest_idle (m : Moment) (h : s.seq.automation ≠ .engaged) : strikeTest m s = s := by
  unfold strikeTest
  split
  · rfl
  · rw [engaged_eq_false h, if_neg (by simp)]

theorem motorTest_idle (m : Moment) (h : s.seq.automation ≠ .engaged) : motorTest m s = s := by
  have hpair : s.motorPair = none := by
    unfold State.motorPair
    split
    · rfl
    · rw [engaged_eq_false h, if_neg (by simp)]
  rw [motorTest, hpair]

theorem sequencerTests_idle (h : s.seq.automation ≠ .engaged) : sequencerTests s = s := by
  unfold sequencerTests leadTests
  dsimp only
  rw [swapPointTest_idle _ h, lateSwapTest_idle _ h, strikeTest_idle _ h, if_pos rfl, if_pos rfl, motorTest_idle _ h]

/-- A projector whose start is not pending, or under a sequencer that is not ENGAGED, has no step of a show start. -/
theorem showStartSteps_idle {p : Side} (h : s.starting p = false) : showStartSteps p s = s := by
  have hstrike : showStartStrike p .atBoundary s = s := by
    unfold showStartStrike
    split
    · rfl
    · rw [h, if_neg (by simp)]
  have hopen : showStartOpen p s = s := by
    unfold showStartOpen
    split
    · rfl
    · rw [h, if_neg (by simp)]
  rw [showStartSteps, hstrike, showStartFadeAndMotor, h, if_neg (by simp), hopen]

theorem showStarts_idle (h : ∀ p, s.starting p = false) : showStarts s = s := by
  rw [showStarts, showStartSteps_idle (h .a), showStartSteps_idle (h .b)]

theorem starting_idle (h : s.seq.automation ≠ .engaged) (p : Side) : s.starting p = false := by
  rw [State.starting, engaged_eq_false h, Bool.false_and]

end

/-- The cue window's judging opens windows and does no more. -/
theorem judgeWindow_only (s : State) :
    judgeWindow s = { s with line := (judgeWindow s).line, proj := (judgeWindow s).proj }
      ∧ ∀ p, (judgeWindow s).proj.get p =
          { s.proj.get p with windowOpen := ((judgeWindow s).proj.get p).windowOpen } := by
  unfold judgeWindow
  split
  · exact ⟨rfl, fun _ => rfl⟩
  · split
    · refine ⟨rfl, fun p => ?_⟩
      rw [State.onProj_proj, Both.get_set]
      split
      · rename_i h; rw [← h]
      · rfl
    · exact ⟨rfl, fun _ => rfl⟩

theorem framed_automation (r : Readings) {s : State} (h : s.seq.automation ≠ .engaged) :
    (framed r s).seq.automation ≠ .engaged := by
  have hwork := (ownWork_steady r fun he => absurd he h).seq.engaged
  unfold framed
  split <;> simpa using fun he => h (hwork he)

/-- A boundary under a sequencer that is not ENGAGED: the frame goes out, the cue window may open, and that is all. -/
theorem boundary_idle (r : Readings) {s : State} (h : s.seq.automation ≠ .engaged) :
    boundary r s = { framed r s with line := (boundary r s).line, proj := (boundary r s).proj }
      ∧ ∀ p, (boundary r s).proj.get p =
          { (framed r s).proj.get p with windowOpen := ((boundary r s).proj.get p).windowOpen } := by
  have hidle := framed_automation r h
  have hboundary : boundary r s = judgeWindow (sendFrame (framed r s)) ∨ boundary r s = sendFrame (framed r s) := by
    cases hpass : s.screenPassed (rampStep (ownWork r s))
    · rw [boundary_evaluated hpass]
      generalize framed r s = u at hidle
      have hjudged : (judgeWindow (sendFrame u)).seq.automation ≠ .engaged := by simpa using hidle
      rw [judged, judgeHouseCue_idle hjudged, sequencerTests_idle hjudged, showStarts_idle (starting_idle hjudged)]
      exact .inl rfl
    · rw [boundary_passed hpass]
      generalize framed r s = u at hidle
      have hsent : (sendFrame u).seq.automation ≠ .engaged := by simpa using hidle
      rw [showStarts_idle (starting_idle hsent)]
      exact .inr rfl
  generalize framed r s = u at hboundary
  obtain hb | hb := hboundary <;> rw [hb]
  · exact judgeWindow_only (sendFrame u)
  · exact ⟨rfl, fun _ => rfl⟩

/-! ### The frame of a boundary -/

/-- The rest of the line after a frame: the oldest answer is gone, with the overrun mark of its station (R12, R15). -/
theorem answerSent_cons {u : LineUnit} {x : Answer} {rest : List Answer} (h : u.replies = x :: rest) :
    u.answerSent =
      { u with
        replies := rest
        stations := u.stations.set x.station { u.stations[x.station] with overrun := false } } := by
  unfold LineUnit.answerSent
  split <;> rename_i hu
  · rw [hu] at h; cases h
  · rw [hu] at h; cases h; rfl

theorem answerSent_nil {u : LineUnit} (h : u.replies = []) : u.answerSent = u := by
  unfold LineUnit.answerSent
  split <;> rename_i hu
  · rfl
  · rw [hu] at h; cases h

theorem answerSent_rest (u : LineUnit) :
    u.answerSent.replies = u.replies.tail ∧ u.answerSent.lane = u.lane ∧ u.answerSent.broken = u.broken := by
  cases h : u.replies with
  | nil => rw [answerSent_nil h, h]; exact ⟨rfl, rfl, rfl⟩
  | cons x rest => rw [answerSent_cons h]; exact ⟨rfl, rfl, rfl⟩

/-- The eight characters of an answer sum to 0 modulo 256 (R15). -/
theorem answerChars_sum (x : Answer) (overrun : Bool) :
    ((answerChars x overrun).map fun n => n % 256).sum % 256 = 0 := sum_with_check _

theorem frameOf_sum (s : State) : ((frameOf s).map BitVec.toNat).sum % 256 = 0 := by
  rw [frameOf_toNat]
  exact sum_with_check _

theorem framed_rotation (r : Readings) (s : State) : (framed r s).rotation = s.rotation := by
  unfold framed; split <;> simp

/-- What a boundary leaves of the fire unit, the store and the rotation pointer (R1). -/
theorem boundary_frame (r : Readings) (s : State) :
    (boundary r s).rotation = s.rotation ∧ (boundary r s).fire = (framed r s).fire
      ∧ (boundary r s).store = (framed r s).store := by
  have hrotation := framed_rotation r s
  cases h : s.screenPassed (rampStep (ownWork r s))
  · rw [boundary_evaluated h]
    generalize framed r s = u at hrotation
    simp [showStarts, judged, hrotation]
  · rw [boundary_passed h]
    generalize framed r s = u at hrotation
    simp [showStarts, hrotation]

/-- Settles O11: the frame is that of the state `framed r s`, each item by its place; the answer item and what leaves
the reply queue are one case split on the queue; and what follows the frame keeps the fire unit, the store, the rods
and, but for a raised UNORDERED, the countdown. -/
theorem boundarySendsOneFrame : Obligations.BoundarySendsOneFrame := by
  unfold Obligations.BoundarySendsOneFrame
  intro r s
  have hline := boundary_line r s
  have hframed := framed_line r s
  obtain ⟨hrotation, hfire, hstore⟩ := boundary_frame r s
  have hcountdown := (boundary_countdown r s).with_raised
  have hrods := boundary_rods r s
  have hidle := boundary_idle r (s := s)
  obtain ⟨hreplies, hlane, hbroken⟩ := answerSent_rest s.line
  have hexec : exec (.linePeriodBoundary r) s = .next (boundary r s) := rfl
  have hu : framed r s = if s.screenPassed (rampStep (ownWork r s)) then rampStep (ownWork r s)
      else countdownStep (rampStep (ownWork r s)) := rfl
  generalize boundary r s = t at *
  generalize framed r s = u at *
  refine ⟨t, u, itemTags u, holdMarks u,
    u.attention + 16 * automationStates.idxOf u.seq.automation + 64 * fireStates.idxOf u.fire.state,
    u.lights.house.reported % 256, u.lights.aisle.reported % 256, countdownItem u, hexec, hu, ?_⟩
  have hframe : t.line.frame = frameOf u := by rw [hline]
  refine ⟨by rw [hframe, frameOf_length], by rw [hframe, frameOf_sum], by rw [itemTags_eq, hframed],
    by rw [holdMarks_eq, hframed], rfl, rfl, rfl, rfl, ?_, by rw [hline, ← hreplies], by rw [hline, ← hlane],
    by rw [hline, ← hbroken], hrotation, fun hnone => ?_, fun x rest hsome => ?_, hfire, hstore, hcountdown, hrods,
    fun hoff => hidle hoff⟩
  · rw [hframe, frameOf_take, twoChars_rodItem, twoChars_rodItem, (automation_code _).1, (fireState_code _).1,
      (projectorState_code u.proj.a.state).1, (projectorState_code u.proj.b.state).1, (lampState_code u.lamp.a.state).1,
      (lampState_code u.lamp.b.state).1]
    simp [twoChars, Light.reported]
  · have hitem : answerItem u.line = List.replicate 8 0 := by rw [answerItem, hframed, hnone]
    rw [hframe, frameOf_answer, hitem, hline, answerSent_nil hnone]
    exact ⟨rfl, rfl⟩
  · have hitem : answerItem u.line = answerChars x s.line.stations[x.station].overrun := by
      rw [answerItem, hframed, hsome]
    have hanswer := frameOf_answer u
    rw [hitem] at hanswer
    have hseven : ((frameOf u).drop 14).take 7 =
        ((answerChars x s.line.stations[x.station].overrun).take 7).map char := by
      rw [List.map_take, ← hanswer, List.take_take]; rfl
    refine ⟨?_, ?_, by rw [hline, answerSent_cons hsome]⟩
    · rw [hframe, hseven, map_char_toNat, answerChars_take]
    · rw [hframe, hanswer, map_char_toNat, answerChars_sum]

end Sys2Proof.Machine
end

section
/-! RATE at a boundary, and who is ON_SCREEN after it (R60, R68, R73, R78, R84). -/

namespace Sys2Proof.Machine

open Sys2Proof

/-! ### The state that the frame carries -/

theorem framed_proj (r : Readings) (s : State) : (framed r s).proj = (ownWork r s).proj := by
  unfold framed; split <;> simp

theorem framed_onScreen (r : Readings) (s : State) (p : Side) :
    (framed r s).onScreen p = (ownWork r s).onScreen p := by
  rw [State.onScreen, framed_proj]; rfl

theorem framed_counts (r : Readings) (s : State) : CountsKept s.counted (framed r s) := by
  have h := ownWork_counts r s
  intro p
  rw [framed_proj]
  exact h p

theorem screenPassed_iff (s t : State) :
    s.screenPassed t = true ↔ ∃ p, t.onScreen p = true ∧ s.onScreen p = false := by
  simp only [State.screenPassed, Bool.or_eq_true, Bool.and_eq_true, Bool.not_eq_true']
  constructor
  · rintro (h | h)
    · exact ⟨.a, h⟩
    · exact ⟨.b, h⟩
  · rintro ⟨p, h⟩
    cases p
    · exact .inl h
    · exact .inr h

theorem rampStep_onScreen (s : State) (p : Side) : (rampStep s).onScreen p = s.onScreen p := by
  simp [State.onScreen]

/-- Steady work passes no screen. -/
theorem notPassed_of_steady {r : Readings} {s : State} (h : Steady s.counted (ownWork r s)) :
    s.screenPassed (rampStep (ownWork r s)) = false := by
  rw [Bool.eq_false_iff, Ne, screenPassed_iff]
  rintro ⟨p, ht, hs⟩
  rw [rampStep_onScreen] at ht
  have hc := h.onScreen ht
  rw [counted_onScreen, hs] at hc
  cases hc

/-- Where the screen has not passed, a projector that was off it is off it. -/
theorem off_of_notPassed {r : Readings} {s : State} {p : Side} (h : s.screenPassed (rampStep (ownWork r s)) = false)
    (hs : s.onScreen p = false) : (framed r s).onScreen p = false := by
  rw [framed_onScreen, Bool.eq_false_iff]
  intro ht
  rw [Bool.eq_false_iff, Ne, screenPassed_iff] at h
  exact h ⟨p, (rampStep_onScreen _ p).trans ht, hs⟩

/-! ### The counts (R60) -/

theorem judgeWindow_counts (s : State) : CountsKept s (judgeWindow s) := fun p => by
  rw [(judgeWindow_only s).2 p]
  exact ⟨rfl, rfl, rfl, rfl, rfl, id⟩

/-- The window's judging puts nobody on the screen. -/
theorem judgeWindow_onScreen (s : State) (p : Side) : (judgeWindow s).onScreen p = s.onScreen p := by
  rw [State.onScreen, (judgeWindow_only s).2 p]; rfl

theorem judged_proj (s : State) : (judged s).proj = (judgeWindow (sendFrame s)).proj := by simp [judged]

theorem judged_counts (s : State) : CountsKept s (judged s) := fun p => by
  rw [judged_proj]
  exact judgeWindow_counts (sendFrame s) p

theorem judged_onScreen (s : State) (p : Side) : (judged s).onScreen p = s.onScreen p := by
  rw [State.onScreen, judged_proj]
  exact judgeWindow_onScreen (sendFrame s) p

theorem showStarts_counts (s : State) : CountsKept s (showStarts s) :=
  CountsKept.trans (showStartSteps_counts _ _) (showStartSteps_counts _ _)

/-- After the count of the pulses a boundary changes neither F nor the marks nor RATE. -/
theorem boundary_counts (r : Readings) (s : State) : CountsKept s.counted (boundary r s) := by
  have hframed := framed_counts r s
  cases h : s.screenPassed (rampStep (ownWork r s))
  · rw [boundary_evaluated h]
    exact ((hframed.trans (judged_counts _)).trans (sequencerTests_counts _)).trans (showStarts_counts _)
  · rw [boundary_passed h]
    have hsent (u : State) : CountsKept u (sendFrame u) := (ScreenKept.of_proj rfl).counts
    exact (hframed.trans (hsent _)).trans (showStarts_counts _)

/-- The window of a count over 40 periods that are full slides by one, and one that is not full grows. -/
theorem rateCounted_window {x : Projector} (h : x.window.length ≤ 40) :
    x.rateCounted.window = (if x.window.length = 40 then x.window.tail else x.window) ++ [x.pulses] := by
  have hdrop : (x.window ++ [x.pulses]).length - ratePeriods = if x.window.length = 40 then 1 else 0 := by
    rw [List.length_append, List.length_singleton, ratePeriods]
    split <;> omega
  dsimp only [Projector.rateCounted]
  rw [hdrop]
  split
  · rename_i hfull
    rw [List.drop_append_of_le_length (by omega), List.drop_one]
  · rfl

/-! ### Who is ON_SCREEN (R73, R78, R84) -/

/-- A projector with no start pending that is ON_SCREEN after both show starts was so before them, with its window. -/
theorem showStarts_stays {p : Side} {s : State} (hp : (s.proj.get p).startPending = false)
    (ht : (showStarts s).onScreen p = true) :
    s.onScreen p = true ∧ ((showStarts s).proj.get p).windowOpen = (s.proj.get p).windowOpen := by
  obtain ⟨hb, hwindow⟩ := showStartSteps_stays .b ((showStartSteps_counts .a s p).pending hp) ht
  obtain ⟨ha, hwindow'⟩ := showStartSteps_stays .a hp hb
  exact ⟨ha, hwindow.trans hwindow'⟩

theorem showStarts_fresh {p : Side} {s : State} (hp : (s.proj.get p).startPending = false)
    (hs : s.onScreen p.other = true → Fresh p.other s) (ht : (showStarts s).onScreen p.other = true) :
    Fresh p.other (showStarts s) :=
  showStartSteps_fresh .b ((showStartSteps_counts .a s p).pending hp) (showStartSteps_fresh .a hp hs) ht

/-- A projector with no start pending that is ON_SCREEN after a boundary, the other off the screen before it, was there
as the frame was sent; no screen has passed, and its window is as it was judged. -/
theorem boundary_stays {r : Readings} {s : State} {p : Side} (hq : s.onScreen p.other = false)
    (hp : (s.proj.get p).startPending = false) (ht : (boundary r s).onScreen p = true) :
    Steady s.counted (ownWork r s) ∧ (framed r s).onScreen p = true
      ∧ ((boundary r s).proj.get p).windowOpen = ((judged (framed r s)).proj.get p).windowOpen := by
  have hcounts := framed_counts r s
  have hpending : ((framed r s).proj.get p).startPending = false := (hcounts p).pending (by rw [counted_get]; exact hp)
  have hscreen : (framed r s).onScreen p = true
      ∧ (s.screenPassed (rampStep (ownWork r s)) = false →
        ((boundary r s).proj.get p).windowOpen = ((judged (framed r s)).proj.get p).windowOpen) := by
    cases h : s.screenPassed (rampStep (ownWork r s))
    · have hother := off_of_notPassed h hq
      rw [boundary_evaluated h] at ht ⊢
      generalize framed r s = u at *
      have hjudged : ((judged u).proj.get p).startPending = false := (judged_counts u p).pending hpending
      obtain ⟨htested, hwindow⟩ := showStarts_stays ((sequencerTests_counts (judged u) p).pending hjudged) ht
      obtain hkept | ⟨-, -, hpassed⟩ := sequencerTests_cases (p := p) ((judged_onScreen u p.other).trans hother)
      · refine ⟨?_, fun _ => hwindow.trans ((hkept p).window_open ((onScreen_iff _ p).1 htested))⟩
        rw [← judged_onScreen, onScreen_iff]
        exact (hkept p).shows ((onScreen_iff _ p).1 htested)
      · rw [hpassed.off] at htested
        cases htested
    · rw [boundary_passed h] at ht
      generalize framed r s = u at *
      exact ⟨(showStarts_stays (s := sendFrame u) hpending ht).1, fun hn => by cases hn⟩
  obtain hsteady | ⟨hoff, -⟩ := ownWork_cases r hq
  · exact ⟨hsteady, hscreen.1, hscreen.2 (notPassed_of_steady hsteady)⟩
  · rw [framed_onScreen, hoff] at hscreen
    cases hscreen.1

/-- Whatever passes the screen to a projector at a boundary leaves it there fresh. -/
theorem boundary_fresh {r : Readings} {s : State} {p : Side} (hq : s.onScreen p.other = false)
    (hp : (s.proj.get p).startPending = false) (ht : (boundary r s).onScreen p.other = true) :
    Fresh p.other (boundary r s) := by
  have hcounts := framed_counts r s
  have hpending : ((framed r s).proj.get p).startPending = false := (hcounts p).pending (by rw [counted_get]; exact hp)
  cases h : s.screenPassed (rampStep (ownWork r s))
  · have hother := off_of_notPassed h hq
    rw [boundary_evaluated h] at ht ⊢
    generalize framed r s = u at *
    have hjudged : ((judged u).proj.get p).startPending = false := (judged_counts u p).pending hpending
    refine showStarts_fresh ((sequencerTests_counts (judged u) p).pending hjudged) (fun hon => ?_) ht
    obtain hkept | ⟨-, -, hpassed⟩ := sequencerTests_cases (p := p) ((judged_onScreen u p.other).trans hother)
    · have hoff := hkept.off ((judged_onScreen u p.other).trans hother)
      exact absurd (hon.symm.trans hoff) (by decide)
    · exact hpassed.fresh
  · have hramp : Calm (ownWork r s) (rampStep (ownWork r s)) := .of_eq (by simp) (by simp) (by simp)
    have hfresh : (framed r s).onScreen p.other = true → Fresh p.other (framed r s) := by
      rw [framed_passed h]
      intro hon
      obtain hsteady | ⟨-, hfresh⟩ := ownWork_cases r hq
      · rw [notPassed_of_steady hsteady] at h
        cases h
      · exact (hfresh (hramp.steady.onScreen hon)).calm hramp hon
    rw [boundary_passed h] at ht ⊢
    generalize framed r s = u at *
    exact showStarts_fresh (s := sendFrame u) hpending (fun hon => (hfresh hon).calm (.of_eq rfl rfl rfl) hon) ht

end Sys2Proof.Machine
end

section
/-! The countdown that a boundary evaluates and the cue window judged on it (R68, R88, R98). -/

namespace Sys2Proof.Machine

open Sys2Proof

/-! ### The working settings in the blocks' own work -/

/-- Two images of the settings agree in what an evaluation and the cue window use: STALL, ROUNDING and CUE_WINDOW. -/
def Settings.AgreeOnCountdown (t u : Settings) : Prop :=
  u.stall = t.stall ∧ u.rounding = t.rounding ∧ u.cueWindow = t.cueWindow

theorem Settings.AgreeOnCountdown.of_eq {t u : Settings} (h : u = t) : t.AgreeOnCountdown u := h ▸ ⟨rfl, rfl, rfl⟩

theorem Settings.AgreeOnCountdown.trans {t u v : Settings} (h : t.AgreeOnCountdown u) (h' : u.AgreeOnCountdown v) :
    t.AgreeOnCountdown v :=
  ⟨h'.1.trans h.1, h'.2.1.trans h.2.1, h'.2.2.trans h.2.2⟩

theorem countTrim_working (l : Side) (inBand : Bool) (s : State) :
    s.store.working.AgreeOnCountdown (countTrim l inBand s).store.working := by
  unfold countTrim
  dsimp only
  split
  · split
    · exact ⟨rfl, rfl, rfl⟩
    · split
      · exact .of_eq (by simp [failTrim])
      · exact .of_eq rfl
  · exact .of_eq rfl

/-- A feed interval changes at most a manual rate in the working settings (R120). -/
theorem tickFeed_working (l : Side) (volts amperes : Nat) (s : State) :
    s.store.working.AgreeOnCountdown (tickFeed l volts amperes s).store.working := by
  unfold tickFeed feedInterval
  split
  · split
    · exact countTrim_working l _ (s.onLamp l _)
    · exact .of_eq rfl
  · exact .of_eq rfl

theorem Store.write_working (x : Store) (n : Nat) (image : Settings) : (x.write n image).working = x.working := by
  unfold Store.write
  split <;> rfl

theorem tickSave_working (s : State) : (tickSave s).store.working = s.store.working := by
  unfold tickSave finishSave
  split
  · rfl
  · rename_i j _
    split
    · split
      · split
        · exact Store.write_working ..
        · rfl
      · rfl
    · rfl

theorem afterWatch_working (r : Readings) (s : State) :
    s.store.working.AgreeOnCountdown (afterWatch r s).store.working := by
  have hfed := (tickFeed_working .a r.volts.a r.amperes.a s).trans (tickFeed_working .b r.volts.b r.amperes.b _)
  exact hfed.trans (.of_eq (by simp [afterWatch, tickSave_working]))

theorem ownWork_working (r : Readings) (s : State) :
    s.store.working.AgreeOnCountdown (ownWork r s).store.working := by
  have hwatched : (arcWatch .b r.amperes.b (arcWatch .a r.amperes.a (beforeWatch r s.counted))).store = s.store := by
    simp [beforeWatch, State.counted]
  rw [ownWork_eq, ← hwatched]
  exact afterWatch_working ..

/-! ### Without a projector on the screen (R88) -/

theorem countdownStep_absent {s : State} (h : s.outgoing = none) :
    (countdownStep s).seq.countdown = Countdown.absent := by
  unfold countdownStep
  rw [h]
  rfl

theorem outgoing_eq_none {s : State} (h : ∀ p, s.onScreen p = false) : s.outgoing = none := by
  rw [outgoing_eq (p := .a) (h .b), h .a]
  rfl

/-- A boundary whose evaluation finds nobody on the screen leaves the absent record, and clears the tag of the frame. -/
theorem boundary_absent {r : Readings} {s : State} (h : s.screenPassed (rampStep (ownWork r s)) = false)
    (hoff : ∀ p, (framed r s).onScreen p = false) :
    (boundary r s).seq.countdown = Countdown.absent
      ∧ ∃ tags, (boundary r s).line.frame[1]? = some tags ∧ tags.getLsbD 0 = false := by
  have habsent : (framed r s).seq.countdown = Countdown.absent := by
    have hout : (rampStep (ownWork r s)).outgoing = none := outgoing_eq_none fun p => by
      rw [rampStep_onScreen, ← framed_onScreen]; exact hoff p
    rw [framed_evaluated h, countdownStep_absent hout]
  constructor
  · obtain hkept | ⟨hunordered, -⟩ := boundary_countdown r s
    · exact hkept.trans habsent
    · rw [habsent] at hunordered
      cases hunordered
  · have hframe : (boundary r s).line.frame = frameOf (framed r s) := by rw [boundary_line]
    refine ⟨char (itemTags (framed r s)), by rw [hframe]; rfl, ?_⟩
    have hclear : decide ((framed r s).seq.countdown.state = .ordered) = false := by rw [habsent]; rfl
    have heven : (itemTags (framed r s)) % 2 = 0 := by
      rw [itemTags_eq, hclear]
      have hzero : bit false = 0 := rfl
      omega
    rw [BitVec.getLsbD, char_toNat, Nat.testBit_zero]
    simp
    omega

/-! ### The evaluation of a showing (R68, R88, R98) -/

/-- The evaluation of a projector that is alone ON_SCREEN with a record. -/
theorem countdownStep_showing {s : State} {p : Side} {e : Reel} (hp : s.onScreen p = true)
    (hq : s.onScreen p.other = false) (he : s.boundReel p = some e) :
    (countdownStep s).seq.countdown =
      evaluate (s.proj.get p).f e.effectiveEnd (s.proj.get p).rate s.store.working.stall s.store.working.rounding
        s.seq.countdown.raised := by
  have hout : s.outgoing = some p := by rw [outgoing_eq hq, hp]; rfl
  have hreel : s.outgoingReel = some e := by rw [State.outgoingReel, hout]; exact he
  unfold countdownStep
  rw [hout, hreel]
  rfl

/-- The cue window judged on an evaluated countdown (R68, R98). -/
theorem windowOpens_evaluate (t : Settings) (f e rate stall rounding : Nat) (raised : Bool) :
    windowOpens t (evaluate f e rate stall rounding raised) = true ↔
      (evaluate f e rate stall rounding raised).state = .ordered
          ∧ (∃ v, (evaluate f e rate stall rounding raised).t = some v ∧ v ≤ t.cueWindow)
        ∨ (evaluate f e rate stall rounding raised).state = .unordered
          ∧ ∃ v, (evaluate f e rate stall rounding raised).n = some v ∧ v ≤ t.cueWindow * 24 / 10 := by
  unfold evaluate
  dsimp only
  split <;> simp [windowOpens, windowFrames]

theorem evaluate_raised (f e rate stall rounding : Nat) (raised : Bool) :
    (evaluate f e rate stall rounding raised).raised =
      if (evaluate f e rate stall rounding raised).state = .ordered then false else raised := by
  unfold evaluate
  dsimp only
  split <;> rfl

/-- The window of the projector that is alone ON_SCREEN, once judged. -/
theorem judged_window {s : State} {p : Side} (hp : s.onScreen p = true) (hq : s.onScreen p.other = false) :
    ((judged s).proj.get p).windowOpen =
      ((s.proj.get p).windowOpen || windowOpens s.store.working s.seq.countdown) := by
  have hout : (sendFrame s).outgoing = some p := (outgoing_eq hq).trans (by rw [hp]; rfl)
  rw [judged_proj, judgeWindow, hout]
  dsimp only
  have hsent : windowOpens (sendFrame s).store.working (sendFrame s).seq.countdown =
      windowOpens s.store.working s.seq.countdown := rfl
  rw [hsent]
  cases windowOpens s.store.working s.seq.countdown
  · rw [Bool.or_false]; rfl
  · rw [if_pos rfl, State.onProj_proj, Both.get_set_same, Bool.or_true]

end Sys2Proof.Machine
end

section
/-! A boundary with a projector ON_SCREEN: the countdown of a showing (R68, R88, R98), and the emergency swap step by
step (R86, R111). -/

namespace Sys2Proof.Machine

open Sys2Proof

/-! ### A projector that stays ON_SCREEN through a boundary -/

/-- The ramp step bears on nothing that the evaluation uses. -/
theorem countdownStep_rampStep_showing {s : State} {p : Side} {e : Reel} (hp : s.onScreen p = true)
    (hq : s.onScreen p.other = false) (he : s.boundReel p = some e) :
    (countdownStep (rampStep s)).seq.countdown =
      evaluate (s.proj.get p).f e.effectiveEnd (s.proj.get p).rate s.store.working.stall s.store.working.rounding
        s.seq.countdown.raised :=
  countdownStep_showing (s := rampStep s) hp hq he

theorem framed_working (r : Readings) (s : State) :
    s.store.working.AgreeOnCountdown (framed r s).store.working := by
  have h := ownWork_working r s
  unfold framed
  split <;> simpa using h

/-- The evaluation that the frame of a showing carries. -/
theorem framed_showing {r : Readings} {s : State} {p : Side} {e : Reel} (hsteady : Steady s.counted (ownWork r s))
    (hp : (ownWork r s).onScreen p = true) (hq : s.onScreen p.other = false) (he : s.boundReel p = some e) :
    (framed r s).seq.countdown =
      evaluate (s.proj.get p).f e.effectiveEnd ((boundary r s).proj.get p).rate s.store.working.stall
        s.store.working.rounding s.seq.countdown.raised := by
  have hother := hsteady.off ((counted_onScreen s p.other).trans hq)
  have hreel : (ownWork r s).boundReel p = some e := (hsteady.bound p hp).trans he
  have hf : ((ownWork r s).proj.get p).f = (s.proj.get p).f := by rw [(hsteady.proj p).f, counted_get]; rfl
  have hrate : ((ownWork r s).proj.get p).rate = ((boundary r s).proj.get p).rate := by
    rw [(hsteady.proj p).rate, (boundary_counts r s p).rate]
  obtain ⟨hstall, hrounding, -⟩ := ownWork_working r s
  have hraised : (ownWork r s).seq.countdown = s.seq.countdown := by simp
  rw [framed_evaluated (notPassed_of_steady hsteady), countdownStep_rampStep_showing hp hother hreel, hf, hrate, hstall,
    hrounding, hraised]

theorem windowOpens_congr {t u : Settings} (h : u.cueWindow = t.cueWindow) (c : Countdown) :
    windowOpens u c = windowOpens t c := by
  unfold windowOpens windowFrames
  rw [h]

/-- The cue window of a projector that is ON_SCREEN through a boundary (R68, R98). -/
theorem boundary_window {r : Readings} {s : State} {p : Side} (hs : s.Showing p)
    (ht : (boundary r s).onScreen p = true) :
    ((boundary r s).proj.get p).windowOpen =
      ((s.proj.get p).windowOpen || windowOpens s.store.working (framed r s).seq.countdown) := by
  obtain ⟨-, hq, hpending⟩ := hs
  obtain ⟨hsteady, hframed, hwindow⟩ := boundary_stays hq hpending ht
  have hother := off_of_notPassed (notPassed_of_steady hsteady) hq
  obtain ⟨-, -, hcue⟩ := framed_working r s
  have hopen : ((framed r s).proj.get p).windowOpen = (s.proj.get p).windowOpen := by
    rw [framed_proj, (hsteady.proj p).window_open, counted_get]
    · rfl
    · rw [← onScreen_iff, ← framed_onScreen]; exact hframed
  rw [hwindow, judged_window hframed hother, hopen]
  rw [windowOpens_congr hcue]

/-- The countdown and the cue window of a projector that is ON_SCREEN through a boundary. -/
theorem boundary_showing {r : Readings} {s : State} {p : Side} {e : Reel} (hs : s.Showing p)
    (ht : (boundary r s).onScreen p = true) (he : s.boundReel p = some e) :
    ∃ c, c = evaluate (s.proj.get p).f e.effectiveEnd ((boundary r s).proj.get p).rate s.store.working.stall
          s.store.working.rounding s.seq.countdown.raised
      ∧ c.Moves (boundary r s).seq.countdown
      ∧ ((boundary r s).proj.get p).windowOpen = ((s.proj.get p).windowOpen || windowOpens s.store.working c) := by
  have hwindow := boundary_window hs ht
  obtain ⟨-, hq, hpending⟩ := hs
  obtain ⟨hsteady, hframed, -⟩ := boundary_stays hq hpending ht
  exact ⟨_, framed_showing hsteady ((framed_onScreen r s p).symm.trans hframed) hq he, boundary_countdown r s, hwindow⟩

/-- The unordered-raised flag after the tests that follow an evaluation (R97). -/
theorem evaluate_moves_raised {f e rate stall rounding : Nat} {raised : Bool} {d : Countdown}
    (h : (evaluate f e rate stall rounding raised).Moves d) :
    (d.state = .ordered → d.raised = false) ∧ (d.state = .unordered → raised = true → d.raised = true) := by
  have hraised := evaluate_raised f e rate stall rounding raised
  obtain rfl | ⟨hunordered, rfl⟩ := h
  · exact ⟨fun hd => by rw [hraised, if_pos hd], fun hd hr => by rw [hraised, hd, if_neg (by decide), hr]⟩
  · exact ⟨fun hd => absurd (hunordered.symm.trans hd) (by decide), fun _ _ => rfl⟩

/-- The window condition, read off the countdown after the tests. -/
theorem windowOpens_moves {t : Settings} {f e rate stall rounding : Nat} {raised : Bool} {d : Countdown}
    (h : (evaluate f e rate stall rounding raised).Moves d) :
    windowOpens t (evaluate f e rate stall rounding raised) = true ↔
      d.state = .ordered ∧ (∃ v, d.t = some v ∧ v ≤ t.cueWindow)
        ∨ d.state = .unordered ∧ ∃ v, d.n = some v ∧ v ≤ t.cueWindow * 24 / 10 := by
  rw [h.with_raised]
  exact windowOpens_evaluate ..

/-! ### The emergency swap (R86, R111) -/

/-- Work that changes nothing but the projectors, and of them neither the state nor the gate; a film-loss switch that is
not to be judged stays so. -/
structure ProjectorsTick (s t : State) : Prop where
  rest : t = { s with proj := t.proj }
  state : ∀ p, (t.proj.get p).state = (s.proj.get p).state
  gate : ∀ p, (t.proj.get p).gate = (s.proj.get p).gate
  loss : s.NoStandingLoss → t.NoStandingLoss

theorem ProjectorsTick.refl (s : State) : ProjectorsTick s s := ⟨rfl, fun _ => rfl, fun _ => rfl, id⟩

theorem ProjectorsTick.trans {s t u : State} (h : ProjectorsTick s t) (h' : ProjectorsTick t u) : ProjectorsTick s u :=
  ⟨by rw [h'.rest, h.rest], fun p => (h'.state p).trans (h.state p), fun p => (h'.gate p).trans (h.gate p),
    h'.loss ∘ h.loss⟩

theorem ProjectorsTick.onProj {s : State} {p : Side} {g : Projector → Projector}
    (hstate : (g (s.proj.get p)).state = (s.proj.get p).state) (hgate : (g (s.proj.get p)).gate = (s.proj.get p).gate)
    (hloss : (s.proj.get p).lossCheck = false ∨ (s.proj.get p).filmLoss = .closed →
      (g (s.proj.get p)).lossCheck = false ∨ (g (s.proj.get p)).filmLoss = .closed) :
    ProjectorsTick s (s.onProj p g) where
  rest := rfl
  state := Both.forall_set (P := fun q (y : Projector) => y.state = (s.proj.get q).state) hstate fun _ => rfl
  gate := Both.forall_set (P := fun q (y : Projector) => y.gate = (s.proj.get q).gate) hgate fun _ => rfl
  loss h := Both.forall_set (P := fun _ (y : Projector) => y.lossCheck = false ∨ y.filmLoss = .closed) (hloss (h p)) h

/-- A projector with nothing to judge, neither INCHING nor STARTING, is only counted. -/
theorem projectorWork_tick {p : Side} {s : State} (hloss : s.NoStandingLoss)
    (hinch : (s.proj.get p).state ≠ .inching) (hstart : (s.proj.get p).state ≠ .starting) :
    ProjectorsTick s (projectorWork p s) := by
  have hstanding : ProjectorsTick s (judgeStanding p s) := by
    have hnone : ¬((s.proj.get p).lossCheck = true ∧ (s.proj.get p).filmLoss = .opened) := by
      rintro ⟨hc, hl⟩
      obtain h | h := hloss p
      · rw [h] at hc; cases hc
      · rw [h] at hl; cases hl
    rw [judgeStanding, if_neg hnone]
    exact .onProj rfl rfl fun _ => .inl rfl
  have htick {u : State} (hi : (u.proj.get p).state ≠ .inching) : ProjectorsTick u (tickInch p u) := by
    unfold tickInch expireInch
    split
    · rw [if_neg fun h => hi h.1]
      exact .refl u
    · exact .onProj rfl rfl id
  have hrun {u : State} (hr : (u.proj.get p).state ≠ .starting) : ProjectorsTick u (tickRunUp p u) := by
    unfold tickRunUp expireRunUp
    rw [if_neg fun h => hr h.1]
    split
    · rw [if_neg fun h => hr h.1]
      exact .refl u
    · exact .onProj rfl rfl id
  have hinched := hstanding.trans (htick (by rw [hstanding.state]; exact hinch))
  exact hinched.trans (hrun (by rw [hinched.state]; exact hstart))

/-- A LIT lamp has no timer at a boundary. -/
theorem lampWork_lit {l : Side} {s : State} (amperes : Nat) (h : (s.lamp.get l).state = .lit) :
    lampWork l amperes s = s := by
  unfold lampWork
  rw [h]

/-- The gate of a projector that is turning and not hot. -/
theorem gateWork_tick {p : Side} {s : State}
    (h : s.onScreen p = true → (s.proj.get p).gate = .closed ∧ 8 ≤ (s.proj.get p).rate) :
    ProjectorsTick s (gateWork p s) := by
  unfold gateWork
  split
  · rename_i hs
    obtain ⟨hgate, hrate⟩ := h hs
    have hturning : ¬(s.proj.get p).rate < stallRate := by rw [stallRate]; omega
    dsimp only
    rw [if_neg hturning, hgate, if_neg (by decide)]
    exact .onProj rfl rfl id
  · exact .refl s

/-- A booth at the boundary at which the arc of `p`, LIT and ON_SCREEN, is lost with the other projector ready: what the
emergency swap of that boundary needs, as the current watch finds it. -/
structure ArcFailing (p : Side) (s : State) : Prop where
  shows : s.onScreen p = true
  engaged : s.seq.automation = .engaged
  lit : (s.lamp.get p).state = .lit
  low : 9 ≤ (s.lamp.get p).lowCurrent
  ready : s.ready p.other = true
  noDouse : s.seq.douse.get p.other = none

theorem ArcFailing.tick {p : Side} {s t : State} (h : ArcFailing p s) (ht : ProjectorsTick s t) : ArcFailing p t := by
  obtain ⟨hrest, hstate, -, -⟩ := ht
  have hready : t.ready p.other = s.ready p.other := by
    unfold State.ready State.screenAllowed
    rw [hstate, hrest]
    rfl
  refine ⟨?_, ?_, ?_, ?_, hready.trans h.ready, ?_⟩
  · rw [onScreen_iff, hstate, ← onScreen_iff]; exact h.shows
  · rw [hrest]; exact h.engaged
  · rw [hrest]; exact h.lit
  · rw [hrest]; exact h.low
  · rw [hrest]; exact h.noDouse

theorem ArcFailing.running {p : Side} {s : State} (h : ArcFailing p s) : (s.proj.get p.other).state = .running := by
  have hready := h.ready
  simp only [State.ready, Bool.and_eq_true, decide_eq_true_eq] at hready
  exact hready.1

theorem ArcFailing.lit_other {p : Side} {s : State} (h : ArcFailing p s) : (s.lamp.get p.other).state = .lit := by
  have hready := h.ready
  simp only [State.ready, State.screenAllowed, Bool.and_eq_true, decide_eq_true_eq] at hready
  exact hready.2.1.1

/-- At such a boundary neither projector is INCHING or STARTING, and both lamps are LIT. -/
theorem ArcFailing.idle {p : Side} {s : State} (h : ArcFailing p s) (q : Side) :
    (s.proj.get q).state ≠ .inching ∧ (s.proj.get q).state ≠ .starting ∧ (s.lamp.get q).state = .lit := by
  revert q
  refine Side.forall_of_both p ?_ ?_
  · rw [(onScreen_iff s p).1 h.shows]; exact ⟨by decide, by decide, h.lit⟩
  · rw [h.running]; exact ⟨by decide, by decide, h.lit_other⟩

theorem ArcFailing.off_other {p : Side} {s : State} (h : ArcFailing p s) : s.onScreen p.other = false := by
  rw [onScreen_eq_false_iff, h.running]; decide

/-- Both gate switches are left alone where the failing projector turns with its gate closed. -/
theorem ArcFailing.gateWork_tick {p : Side} {s : State} (h : ArcFailing p s) (hgate : (s.proj.get p).gate = .closed)
    (hrate : 8 ≤ (s.proj.get p).rate) (q : Side) : ProjectorsTick s (gateWork q s) := by
  revert q
  refine Side.forall_of_both p (Machine.gateWork_tick fun _ => ⟨hgate, hrate⟩) (Machine.gateWork_tick fun hs => ?_)
  rw [h.off_other] at hs
  cases hs

/-- The work up to the current watch leaves a failing arc to it. -/
theorem beforeWatch_failing {r : Readings} {p : Side} {s : State} (h : ArcFailing p s) (hloss : s.NoStandingLoss)
    (hgate : (s.proj.get p).gate = .closed) (hrate : 8 ≤ (s.proj.get p).rate) : ArcFailing p (beforeWatch r s) := by
  have ha := projectorWork_tick hloss (h.idle .a).1 (h.idle .a).2.1
  have hb := projectorWork_tick (ha.loss hloss) ((h.tick ha).idle .b).1 ((h.tick ha).idle .b).2.1
  have hworked := ha.trans hb
  have hfailing := h.tick hworked
  have hcounts := (projectorWork_calm .a s).counts.trans (projectorWork_calm .b _).counts
  have hg := (hworked.gate p).trans hgate
  have hr := hrate.trans_eq (hcounts p).rate.symm
  have hga := hfailing.gateWork_tick hg hr .a
  have hra := hr.trans_eq ((gateWork_steady .a _).screen.counts p).rate.symm
  have hgb := (hfailing.tick hga).gateWork_tick ((hga.gate p).trans hg) hra .b
  unfold beforeWatch
  rw [lampWork_lit r.amperes.a (hfailing.idle .a).2.2, lampWork_lit r.amperes.b (hfailing.idle .b).2.2]
  exact (hfailing.tick hga).tick hgb

/-- The screen has passed by the emergency swap: the lamp that failed is DARK and the other has no douse timer. -/
structure Swapped (p : Side) (s : State) : Prop where
  passed : Passed p s
  dark : (s.lamp.get p).state = .dark
  noDouse : s.seq.douse.get p.other = none

theorem Swapped.calm {p : Side} {s t : State} (h : Swapped p s) (hc : Calm s t) (hproj : t.proj = s.proj)
    (hlamp : (t.lamp.get p).state = (s.lamp.get p).state)
    (hdouse : t.seq.douse.get p.other = s.seq.douse.get p.other) : Swapped p t :=
  ⟨h.passed.calm hc fun q => by rw [hproj], hlamp.trans h.dark, hdouse.trans h.noDouse⟩

/-- The watch of a lamp that burns takes the reading and nothing more. -/
theorem arcWatch_burning {l : Side} {amperes : Nat} (s : State) (h : 30 ≤ amperes) :
    arcWatch l amperes s = s
      ∨ arcWatch l amperes s = s.onLamp l fun x => { x with amperes := amperes, lowCurrent := 0 } := by
  have hburning : ¬amperes < arcAmperes := by rw [arcAmperes]; omega
  unfold arcWatch
  split
  · rw [if_neg fun hl => hburning hl.1]
    exact .inr rfl
  · exact .inl rfl

/-- A swap whose outgoing lamp is DARK already has no douse (R82). -/
theorem swapScreens_dark {i o : Side} (m : Moment) {s : State} (h : (s.lamp.get o).state = .dark) :
    swapScreens i o m s = enterScreen i (leaveScreen o .runout s) := by
  have hdark : ((enterScreen i (leaveScreen o .runout s)).lamp.get o).state = .dark := by simpa using h
  rw [swapScreens, startDouse, if_neg fun hd => hd.2 hdark]

/-- The lamp whose arc is lost is DARK, and the douse timer of the other stands, as the screen passes (R86, R111). -/
theorem loseArc_swapped {l : Side} {s : State} (m : Moment) (hs : s.onScreen l = true)
    (ha : s.seq.automation = .engaged) (hr : s.ready l.other = true) (hd : s.seq.douse.get l.other = none) :
    Swapped l (loseArc l m s) := by
  refine ⟨loseArc_passed m hs ha hr, ?_, ?_⟩
  all_goals
    have hdark : ((lampToDark l (fun x => { x with lowCurrent := 10 }) s).lamp.get l).state = .dark := by
      rw [lampToDark_eq]; simp [Lamp.darkened]
    unfold loseArc
    dsimp only
    rw [if_pos hs, lampToDark_ready_other, if_pos ⟨by simpa using ha, hr⟩, swapScreens_dark m hdark]
  · simpa using hdark
  · rw [lampToDark_eq]
    simpa using hd

/-- The swap of a failing arc (R86, R111). -/
theorem arcWatch_failing {p : Side} {amperes : Nat} {s : State} (h : ArcFailing p s) (hlow : amperes < 30) :
    Swapped p (arcWatch p amperes s) := by
  have hwatched : (s.lamp.get p).watched = true := by rw [Lamp.watched, h.lit]; rfl
  rw [arcWatch, if_pos hwatched, if_pos ⟨hlow, h.low⟩, expireArc, if_pos ⟨hwatched, hlow, h.low⟩]
  exact loseArc_swapped _ h.shows h.engaged ((onLamp_amperes_ready ..).trans h.ready) h.noDouse

/-- The watch of the other lamp, which burns, leaves a failing arc to its own watch. -/
theorem ArcFailing.arcWatch_other {p : Side} {amperes : Nat} {s : State} (h : ArcFailing p s) (hburn : 30 ≤ amperes) :
    ArcFailing p (arcWatch p.other amperes s) := by
  have hother (g : Lamp → Lamp) : (s.onLamp p.other g).lamp.get p = s.lamp.get p := by
    rw [State.onLamp_lamp, Both.get_set_ne _ _ (Side.other_ne p)]
  obtain hw | hw := arcWatch_burning (l := p.other) s hburn <;> rw [hw]
  · exact h
  · refine ⟨h.shows, h.engaged, by rw [hother]; exact h.lit, by rw [hother]; exact h.low, ?_, h.noDouse⟩
    have hready := h.ready
    simp only [State.ready, State.screenAllowed, State.onLamp_lamp, Both.get_set_same] at hready ⊢
    exact hready

/-- The watch of the other lamp, which burns, after the swap. -/
theorem Swapped.arcWatch_other {p : Side} {amperes : Nat} {s : State} (h : Swapped p s) (hburn : 30 ≤ amperes) :
    Swapped p (arcWatch p.other amperes s) := by
  obtain hw | hw := arcWatch_burning (l := p.other) s hburn <;> rw [hw]
  · exact h
  · refine h.calm (onLamp_calm ..) rfl ?_ rfl
    rw [State.onLamp_lamp, Both.get_set_ne _ _ (Side.other_ne p)]

/-- Both current watches make the swap of a failing arc, whichever comes first. -/
theorem arcWatches_failing {r : Readings} {p : Side} {s : State} (h : ArcFailing p s) (hlow : r.amperes.get p < 30)
    (hburn : 30 ≤ r.amperes.get p.other) : Swapped p (arcWatch .b r.amperes.b (arcWatch .a r.amperes.a s)) := by
  cases p
  · exact (arcWatch_failing h hlow).arcWatch_other hburn
  · exact arcWatch_failing (h.arcWatch_other hburn) hlow

/-! ### After the emergency swap -/

theorem Lamp.fedOnce_state (x : Lamp) : x.fedOnce.state = x.state := by
  unfold Lamp.fedOnce
  dsimp only
  (repeat' split) <;> rfl

theorem Lamp.countClamp_state (x : Lamp) (t : LampSettings) : (x.countClamp t).state = x.state := by
  unfold Lamp.countClamp
  (repeat' split) <;> rfl

/-- No lamp has changed its state, and no douse timer has. -/
structure LampStatesKept (s t : State) : Prop where
  state : ∀ k, (t.lamp.get k).state = (s.lamp.get k).state
  douse : t.seq.douse = s.seq.douse

theorem LampStatesKept.refl (s : State) : LampStatesKept s s := ⟨fun _ => rfl, rfl⟩

theorem LampStatesKept.trans {s t u : State} (h : LampStatesKept s t) (h' : LampStatesKept t u) : LampStatesKept s u :=
  ⟨fun k => (h'.state k).trans (h.state k), h'.douse.trans h.douse⟩

theorem LampStatesKept.onLamp {s : State} {l : Side} {g : Lamp → Lamp}
    (h : (g (s.lamp.get l)).state = (s.lamp.get l).state) : LampStatesKept s (s.onLamp l g) :=
  ⟨Both.forall_set (P := fun k (x : Lamp) => x.state = (s.lamp.get k).state) h fun _ => rfl, rfl⟩

theorem countTrim_lampStates (l : Side) (inBand : Bool) (s : State) : LampStatesKept s (countTrim l inBand s) := by
  have hended : LampStatesKept s (s.onLamp l Lamp.trimEnded) := .onLamp rfl
  unfold countTrim
  dsimp only
  split
  · split
    · exact ⟨hended.state, hended.douse⟩
    · split
      · exact ⟨fun k => by simpa [failTrim] using hended.state k, by simp [failTrim]⟩
      · exact .onLamp rfl
  · exact .refl s

/-- The feed changes no lamp's state, and no douse timer. -/
theorem tickFeed_lampStates (l : Side) (volts amperes : Nat) (s : State) :
    LampStatesKept s (tickFeed l volts amperes s) := by
  unfold tickFeed feedInterval feedOnce
  split
  · split
    · have hread : LampStatesKept s (s.onLamp l fun x =>
          (x.read (s.store.working.lamp.get l) volts amperes).countClamp (s.store.working.lamp.get l)) :=
        .onLamp (Lamp.countClamp_state _ _)
      have hfed (u : State) : LampStatesKept u (u.onLamp l Lamp.fedOnce) := .onLamp (Lamp.fedOnce_state _)
      have hclock (u : State) (n : Nat) : LampStatesKept u (u.onLamp l fun x => { x with feedClock := some n }) :=
        .onLamp rfl
      exact ((hread.trans (countTrim_lampStates ..)).trans (hfed _)).trans (hclock _ _)
    · exact .refl s
  · exact .onLamp rfl

theorem tickShutter_lampStates (q : Port) (s : State) : LampStatesKept s (tickShutter q s) := by
  refine ⟨fun k => by simp, ?_⟩
  unfold tickShutter expireFall expireRaise raiseJam
  (repeat' split) <;> simp

theorem Swapped.douse {p l : Side} {s : State} {x : ReadTimer} (h : Swapped p s) (hx : l = p.other → x = none) :
    Swapped p (s.onSeq fun q => { q with douse := q.douse.set l x }) := by
  refine h.calm (.of_seq rfl rfl ⟨id, id, id, id, id⟩) rfl rfl ?_
  rw [State.onSeq_seq, Both.get_set, h.noDouse]
  split
  · exact hx ‹_›
  · exact rfl

/-- The douse timers after the swap: that of the other lamp does not run, and the lamp of `p` is DARK already (R82,
R112). -/
theorem tickDouse_swapped {p : Side} {s : State} (h : Swapped p s) (l : Side) : Swapped p (tickDouse l s) := by
  have hstopped : Swapped p (s.onSeq fun q => { q with douse := q.douse.set l none }) := h.douse fun _ => rfl
  unfold tickDouse expireDouse
  split
  · rename_i hdue
    obtain rfl : l = p := by
      by_contra hne
      rw [Side.eq_other_of_ne hne, h.noDouse] at hdue
      cases hdue
    dsimp only
    split
    · exact hstopped
    · have hdark : extinguishLamp l (s.onSeq fun q => { q with douse := q.douse.set l none }) =
          s.onSeq fun q => { q with douse := q.douse.set l none } := if_pos h.dark
      rw [hdark]
      exact hstopped
  · exact h.douse fun hl => by rw [hl, h.noDouse]; rfl

theorem afterWatch_swapped {p : Side} {s : State} (h : Swapped p s) (r : Readings) : Swapped p (afterWatch r s) := by
  have hfeed {u : State} (hu : Swapped p u) (l : Side) (volts amperes : Nat) : Swapped p (tickFeed l volts amperes u) :=
    hu.calm (tickFeed_calm ..) (by simp) ((tickFeed_lampStates ..).state p)
      (by rw [(tickFeed_lampStates ..).douse])
  have hshutter {u : State} (hu : Swapped p u) (q : Port) : Swapped p (tickShutter q u) :=
    hu.calm (tickShutter_calm ..) (by simp) ((tickShutter_lampStates ..).state p)
      (by rw [(tickShutter_lampStates ..).douse])
  have hfed := hfeed (hfeed h .a r.volts.a r.amperes.a) .b r.volts.b r.amperes.b
  have hfell := hshutter (hshutter (hshutter (hshutter hfed .a) .b) .observation1) .observation2
  have hlink := hfell.calm (judgeLink_calm _) (by simp) (by simp) (by simp)
  have hsave := hlink.calm (tickSave_calm _) (by simp) (by simp) (by simp)
  exact tickDouse_swapped (tickDouse_swapped hsave .a) .b

/-- The emergency swap of a boundary: what the blocks' own work leaves. -/
theorem ownWork_swapped {r : Readings} {p : Side} {s : State} (h : ArcFailing p s.counted) (hloss : s.NoStandingLoss)
    (hgate : (s.proj.get p).gate = .closed) (hrate : 8 ≤ (s.counted.proj.get p).rate) (hlow : r.amperes.get p < 30)
    (hburn : 30 ≤ r.amperes.get p.other) : Swapped p (ownWork r s) := by
  have hloss' : s.counted.NoStandingLoss := fun q => by rw [counted_get]; exact hloss q
  have hgate' : (s.counted.proj.get p).gate = .closed := by rw [counted_get]; exact hgate
  rw [ownWork_eq]
  exact afterWatch_swapped (arcWatches_failing (beforeWatch_failing h hloss' hgate' hrate) hlow hburn) r

/-- After an emergency swap a boundary sends its frame and does no more (R73, log entry 7). -/
theorem boundary_of_passed {r : Readings} {p : Side} {s : State} (hs : s.onScreen p.other = false)
    (h : Passed p (ownWork r s)) : boundary r s = sendFrame (rampStep (ownWork r s)) := by
  have hpassed : s.screenPassed (rampStep (ownWork r s)) = true :=
    (screenPassed_iff ..).2 ⟨p.other, (rampStep_onScreen ..).trans h.shows, hs⟩
  have hpending := h.pending
  rw [boundary_passed hpassed, framed_passed hpassed]
  generalize ownWork r s = u at hpending
  refine showStarts_idle fun q => ?_
  rw [State.starting, Bool.and_eq_false_iff]
  exact .inr (hpending q)

/-- What has passed the screen at a boundary (R70, R78). -/
theorem boundary_passes {r : Readings} {s : State} {p : Side} (hs : s.Showing p)
    (ht : (boundary r s).onScreen p.other = true) :
    (boundary r s).seq.strikeTaken = false ∧ (boundary r s).seq.motorTaken = false
      ∧ (boundary r s).seq.swapReached = false ∧ (boundary r s).seq.swapDue = false
      ∧ (boundary r s).onScreen p = false ∧ ((boundary r s).proj.get p.other).windowOpen = false
      ∧ ((boundary r s).proj.get p.other).stall = 0 := by
  obtain ⟨-, hq, hpending⟩ := hs
  have hfresh := boundary_fresh hq hpending ht
  have halone := hfresh.alone
  rw [Side.other_other] at halone
  exact ⟨hfresh.strikeTaken, hfresh.motorTaken, hfresh.swapReached, hfresh.swapDue, halone, hfresh.window_closed,
    hfresh.stall⟩

/-- The emergency swap of a boundary at which the arc of a showing is lost (R86, R111). -/
theorem boundary_emergency {r : Readings} {s : State} {p : Side} (hs : s.Showing p) (hloss : s.NoStandingLoss)
    (hengaged : s.seq.automation = .engaged) (hlit : (s.lamp.get p).state = .lit) (hlow : 9 ≤ (s.lamp.get p).lowCurrent)
    (hfail : r.amperes.get p < 30) (hgate : (s.proj.get p).gate = .closed)
    (hrate : 8 ≤ ((boundary r s).proj.get p).rate) (hrunning : (s.proj.get p.other).state = .running)
    (hallowed : s.screenAllowed p.other = true) (hdouse : s.seq.douse.get p.other = none)
    (hburn : 30 ≤ r.amperes.get p.other) :
    (boundary r s).onScreen p.other = true ∧ ((boundary r s).proj.get p).state = .runout
      ∧ ((boundary r s).lamp.get p).state = .dark ∧ (boundary r s).seq.countdown = s.seq.countdown := by
  obtain ⟨hshows, hq, -⟩ := hs
  have hready : s.counted.ready p.other = true := by
    have hstate : (s.counted.proj.get p.other).state = .running := by rw [counted_get]; exact hrunning
    rw [State.ready, hstate]
    exact hallowed
  have hfailing : ArcFailing p s.counted :=
    ⟨(counted_onScreen s p).trans hshows, hengaged, hlit, hlow, hready, hdouse⟩
  have hturning : 8 ≤ (s.counted.proj.get p).rate := hrate.trans_eq (boundary_counts r s p).rate
  have hswapped := ownWork_swapped hfailing hloss hgate hturning hfail hburn
  have hcountdown : (ownWork r s).seq.countdown = s.seq.countdown := by simp
  rw [boundary_of_passed hq hswapped.passed]
  generalize ownWork r s = u at hswapped hcountdown
  exact ⟨hswapped.passed.shows, hswapped.passed.runout, hswapped.dark, hcountdown⟩

/-! ### The statement -/

/-- Settles O12: RATE by the count that opens the blocks' own work, which nothing after it changes; the absent record
where the evaluation finds nobody ON_SCREEN; the evaluation and the window of a showing, which comes through the
boundary only where no screen has passed; what has passed the screen stands fresh; and the emergency swap step by
step. -/
theorem boundaryCountsRateAndWithoutScreenNoCountdown :
    Obligations.BoundaryCountsRateAndWithoutScreenNoCountdown := by
  unfold Obligations.BoundaryCountsRateAndWithoutScreenNoCountdown
  intro r s
  have hcounts := boundary_counts r s
  refine ⟨boundary r s, rfl, fun p hlength => ?_, fun p => ?_, fun hoff => ?_, fun p e hs ht he => ?_,
    fun p hs ht => ?_, fun p hs hloss hengaged hlit hlow hfail hgate hrate hrunning hallowed hdouse hburn => ?_⟩
  · have hp := hcounts p
    rw [counted_get] at hp
    have hsum : (s.proj.get p).rateCounted.rate = min (s.proj.get p).rateCounted.window.sum 127 := rfl
    exact ⟨hp.window.trans (rateCounted_window hlength), by rw [hp.rate, hp.window, hsum], hp.pulses⟩
  · have hp := hcounts p
    rw [counted_get] at hp
    exact ⟨hp.f, hp.marks⟩
  · obtain ⟨ha, hb⟩ | ⟨hidle, ha, hb⟩ := hoff
    · have hnobody : ∀ p, s.onScreen p = false := Side.forall_of_both .a ha hb
      have hsteady := ownWork_steady r fun _ => hnobody
      have hpass := notPassed_of_steady hsteady
      exact boundary_absent hpass fun p => off_of_notPassed hpass (hnobody p)
    · have hsteady := ownWork_steady r fun he => absurd he hidle
      refine boundary_absent (notPassed_of_steady hsteady) fun p => ?_
      have ht := Side.forall_of_both (P := fun q => (boundary r s).onScreen q = false) .a ha hb p
      rw [State.onScreen, (boundary_idle r hidle).2 p] at ht
      exact ht
  · obtain ⟨c, rfl, hmoves, hwindow⟩ := boundary_showing hs ht he
    obtain ⟨hordered, hunordered⟩ := evaluate_moves_raised hmoves
    refine ⟨hmoves.with_raised, hordered, hunordered, ?_⟩
    rw [hwindow, Bool.or_eq_true, windowOpens_moves hmoves]
  · exact boundary_passes hs ht
  · exact boundary_emergency hs hloss hengaged hlit hlow hfail hgate hrate hrunning hallowed hdouse hburn

end Sys2Proof.Machine
end

section
/-! What a request taken is answered, whatever its kind (R25, R40), and that every command answers a next state. -/

namespace Sys2Proof.Machine

open Sys2Proof

/-! ### A refusal is one answer -/

@[simp] theorem queueAnswer_done (n : Station) (k : Kind) (s : State) (d : Nat) :
    queueAnswer n k.code (answerDone s d) = s.answered n k .done d := rfl

@[simp] theorem queueAnswer_refused (n : Station) (k : Kind) (s : State) (st : Status) (d : Nat) :
    queueAnswer n k.code (answerRefused s st d) = s.answered n k st d := rfl

/-- The work of every row is orderly, since the work of each block is. -/
theorem rowWork_orderly (c : Instr) (s : State) : Orderly s (rowWork c s) := by
  cases c <;>
    simp only [rowWork, Orderly.refused, onArc_orderly, onProjector_orderly, implies_true, inquireWork_orderly,
      readWork_orderly, readReelWork_orderly, readConditionsWork_orderly, setModeWork_orderly,
      setValueLightWork_orderly, setValueArcWork_orderly, setValueSettingWork_orderly, setTargetWork_orderly,
      strikeWork_orderly, extinguishWork_orderly, newRodWork_orderly, loadWork_orderly, unloadWork_orderly,
      inchWork_orderly, startWork_orderly, stopWork_orderly, openWork_orderly, swapWork_orderly, addWork_orderly,
      insertWork_orderly, removeWork_orderly, reelCueWork_orderly, clearListWork_orderly, repeatShowWork_orderly,
      skipReelWork_orderly, engageWork_orderly, disengageWork_orderly, startShowWork_orderly, resumeWork_orderly,
      clearConditionsWork_orderly, lockWork_orderly, unlockWork_orderly, generalResetWork_orderly,
      stopAllWork_orderly, alertWork_orderly, fireClearWork_orderly, dropWork_orderly, fireAckWork_orderly,
      raiseWork_orderly, loadPresetWork_orderly, savePresetWork_orderly]

/-- A request row that is taken is the judging of its work, with the answer queued. -/
theorem exec_takes {c : Instr} {n : Station} {k : Kind} {t : Target} {s : State}
    (h : requestOf c = some (n, k, t)) (htakes : s.takes n k = true) :
    exec c s = .next (queueAnswer n k.code (judge n k t (rowWork c) s)) := by
  rw [exec_eq_takeAs h, takeAs_takes (rowWork_orderly c) htakes]

/-! ### Steps 1 to 3 of R25 -/

section
variable {n : Station} {k : Kind} {t : Target} {g : Group} {s : State} (work : State → Judged)

theorem judge_no_group (hg : groupOf k t = none) : judge n k t work s = answerRefused s .refusedFormat 0 := by
  simp [judge, hg]

theorem judge_role (hg : groupOf k t = some g) (hrole : g.allows s.line.stations[n].role = false) :
    judge n k t work s = answerRefused s .refusedRole 0 := by
  simp only [judge, hg]
  exact if_pos hrole

theorem judge_locked (hg : groupOf k t = some g) (hrole : g.allows s.line.stations[n].role = true)
    (hlock : s.line.stations[n].locked = true) (hinquiry : g ≠ .inquiry) :
    judge n k t work s = answerRefused s .refusedLocked 0 := by
  simp_all [judge]

theorem judge_target (hg : groupOf k t = some g) (hrole : g.allows s.line.stations[n].role = true)
    (hlock : s.line.stations[n].locked = false ∨ g = .inquiry) (htarget : takesTarget k t = false) :
    judge n k t work s = answerRefused s .refusedFormat 0 := by
  obtain hlock | rfl := hlock <;> simp_all [judge]

end

/-- Settles O3: a row that is taken is judged, and each of the first three steps ends the judging in its refusal. -/
theorem roleLockAndTargetJudgedInOrder : Obligations.RoleLockAndTargetJudgedInOrder := by
  unfold Obligations.RoleLockAndTargetJudgedInOrder
  intro c n k t s hreq htakes
  rw [exec_takes hreq htakes]
  refine ⟨fun hg => ?_, fun g hg => ⟨fun hrole => ?_, fun hrole hlock hinquiry => ?_, fun hrole hlock htarget => ?_⟩⟩
  · rw [judge_no_group _ hg, queueAnswer_refused]
  · rw [judge_role _ hg hrole, queueAnswer_refused]
  · rw [judge_locked _ hg hrole hlock hinquiry, queueAnswer_refused]
  · rw [judge_target _ hg hrole hlock htarget, queueAnswer_refused]

/-! ### The answers that wait (R20, R40) -/

/-- The answers that wait once a request has been worked: none after a GENERAL_RESET carried out, else those that did. -/
def repliesAfter (k : Kind) (st : Status) (s : State) : List Answer :=
  if k = .generalReset ∧ st = .done then [] else s.line.replies

theorem repliesAfter_of_ne_reset {k : Kind} (h : k ≠ .generalReset) (st : Status) (s : State) :
    repliesAfter k st s = s.line.replies := if_neg fun hk => h hk.1

theorem repliesAfter_of_ne_done {st : Status} (h : st ≠ .done) (k : Kind) (s : State) :
    repliesAfter k st s = s.line.replies := if_neg fun hst => h hst.2

theorem answerRefused_replies {st : Status} (h : st ≠ .done) (k : Kind) (d : Nat) (s : State) :
    (answerRefused s st d).1.line.replies = repliesAfter k (answerRefused s st d).2.status s :=
  (repliesAfter_of_ne_done h k s).symm

theorem lockWork_replies (m : Nat) (s : State) : (lockWork m s).1.line.replies = s.line.replies := by
  unfold lockWork; (repeat' split) <;> rfl

theorem unlockWork_replies (m : Nat) (s : State) : (unlockWork m s).1.line.replies = s.line.replies := by
  unfold unlockWork; split <;> rfl

theorem generalResetWork_replies (s : State) :
    (generalResetWork s).1.line.replies = repliesAfter .generalReset (generalResetWork s).2.status s := by
  unfold generalResetWork; (repeat' split) <;> rfl

/-- Only a GENERAL_RESET that is carried out bears on the answers that wait. -/
theorem rowWork_replies {c : Instr} {n : Station} {k : Kind} {t : Target} (h : requestOf c = some (n, k, t))
    (s : State) : (rowWork c s).1.line.replies = repliesAfter k (rowWork c s).2.status s := by
  cases c
  case generalReset => cases h; exact generalResetWork_replies s
  case lockStation => cases h; exact lockWork_replies ..
  case unlockStation => cases h; exact unlockWork_replies ..
  all_goals first | (cases h; done) | (cases h; rw [repliesAfter_of_ne_reset (by decide)]; simp [rowWork, stopAllWork_line])

theorem judge_replies {n : Station} {k : Kind} {t : Target} {work : State → Judged} {s : State}
    (h : (work s).1.line.replies = repliesAfter k (work s).2.status s) :
    (judge n k t work s).1.line.replies = repliesAfter k (judge n k t work s).2.status s := by
  unfold judge
  (repeat' split) <;> first | exact h | exact answerRefused_replies (by decide) k 0 s

/-- Settles O4: the answer is the one that the judging gives, which is orderly and leaves the waiting answers to a
GENERAL_RESET alone. -/
theorem onlyDoneAndClampedChangeTheState : Obligations.OnlyDoneAndClampedChangeTheState := by
  unfold Obligations.OnlyDoneAndClampedChangeTheState
  intro c n k t s u hreq htakes hexec
  rw [exec_takes hreq htakes] at hexec
  obtain rfl := Host.Outcome.next.inj hexec
  have hreplies := judge_replies (n := n) (t := t) (rowWork_replies hreq s)
  have horderly := judge_orderly n k t (rowWork c) (rowWork_orderly c) s
  generalize judge n k t (rowWork c) s = x at hreplies horderly
  obtain ⟨v, st, d⟩ := x
  obtain ⟨-, -, -, hrefused⟩ := horderly
  refine ⟨st, d, ?_, fun hdone hclamped => ?_⟩
  · rw [queueAnswer_line]
    exact congrArg (· ++ _) hreplies
  · obtain rfl : v = s := hrefused hdone hclamped
    rfl

/-! ### Every command answers a next state (log entry 18) -/

@[simp] theorem queueAnswer_pending (n : Station) (kind : Nat) (x : Judged) :
    (queueAnswer n kind x).pending = x.1.pending := rfl

@[simp] theorem loseForStation_pending (n : Station) (s : State) : (loseForStation n s).pending = s.pending := by
  simp [loseForStation]

@[simp] theorem queuePriorityAnswer_pending (n : Station) (kind : Nat) (x : Judged) :
    (queuePriorityAnswer n kind x).pending = x.1.pending := by
  unfold queuePriorityAnswer; split <;> simp

@[simp] theorem handleEntry_pending (n : Station) (e : Entry) (s : State) :
    (handleEntry n e s).1.pending = s.pending := (handleEntry_orderly n e s).1

@[simp] theorem takeNext_pending (s : State) : (takeNext s).pending = s.pending := by
  unfold takeNext takeFrom; (repeat' split) <;> simp

@[simp] theorem takePriorityNext_pending (s : State) : (takePriorityNext s).pending = s.pending := by
  unfold takePriorityNext; split <;> simp

@[simp] theorem arrive_pending (e : Entry) (s : State) : (arrive e s).pending = s.pending := by
  unfold arrive joinQueue; (repeat' split) <;> simp

@[simp] theorem breakLine_pending (s : State) : (breakLine s).pending = s.pending := by
  unfold breakLine; split <;> simp

@[simp] theorem powerUp_pending (x : PowerOnSensed) (s : State) : (powerUp x s).pending = s.pending := by
  unfold powerUp; dsimp only; (repeat' split) <;> simp [poweredBlocks]

@[simp] theorem boundary_pending (r : Readings) (s : State) : (boundary r s).pending = s.pending := by
  unfold boundary; dsimp only; split <;> simp

theorem takeAs_next {work : State → Judged} (horderly : ∀ s, Orderly s (work s)) (n : Station) (k : Kind) (t : Target)
    (s : State) : ∃ u, takeAs n k t work s = .next u ∧ u.pending = s.pending := by
  have hpending := (judge_orderly n k t work horderly s).1
  unfold takeAs takePriority takeRequest
  split <;> refine ⟨_, rfl, ?_⟩ <;> split
  · rfl
  · rw [queuePriorityAnswer_pending, hpending]
  · exact hpending
  · rfl

/-- An event answers a next state: none of the events touches the queue of commands. -/
theorem exec_event_next {c : Instr} (h : requestOf c = none) (s : State) :
    ∃ u, exec c s = .next u ∧ u.pending = s.pending := by
  cases c
  case highClampAdjust | lowClampAdjust | trimConverged | trimFailed | requestSlot =>
    exact ⟨_, rfl, by split <;> simp⟩
  all_goals first | (cases h; done) | exact ⟨_, rfl, by simp⟩

/-- Settles O2: a request is a taking of orderly work, and an event is one of the operations on the blocks. -/
theorem everyCommandAnswersNext : Obligations.EveryCommandAnswersNext := by
  unfold Obligations.EveryCommandAnswersNext
  intro c s
  cases hreq : requestOf c with
  | none => exact exec_event_next hreq s
  | some x =>
    rw [exec_eq_takeAs hreq]
    exact takeAs_next (rowWork_orderly c) ..

end Sys2Proof.Machine
end

section
/-! The manual rate of an arc (R35, R37, R38). -/

namespace Sys2Proof.Machine

open Sys2Proof

/-- The number of a lamp's manual-rate setting (R169). -/
def manualRateSetting : Side → Nat
  | .a => 14
  | .b => 24

theorem manualRateLamp_manualRateSetting (l : Side) : manualRateLamp (manualRateSetting l) = some l := by
  cases l <;> rfl

theorem clamp_zero (high v : Nat) : clamp 0 high v = min v high := by
  unfold clamp; split_ifs <;> omega

/-- The state with the working manual rate of a lamp replaced. -/
def State.withManualRate (s : State) (l : Side) (v : Nat) : State :=
  s.onStore fun y =>
    { y with
      working :=
        { y.working with lamp := y.working.lamp.set l { s.store.working.lamp.get l with manualRate := v } } }

/-- SET_VALUE on an arc, and on its manual-rate setting, is one work (R23). -/
theorem exec_manualRate {n : Station} {l : Side} {rate : Nat} {s : State} {i : Instr} {t : Target}
    (hi : i = .setValueArc n l rate ∧ t = .arc l
      ∨ i = .setValueSetting n (manualRateSetting l) rate ∧ t = .setting (manualRateSetting l))
    (hadmits : s.admits n .setValue t = true) :
    exec i s = .next (queueAnswer n Kind.setValue.code (setValueArcWork l rate s)) := by
  obtain ⟨rfl, rfl⟩ | ⟨rfl, rfl⟩ := hi
  · exact takeRequest_admits _ hadmits
  · have hwork : setValueSettingWork (manualRateSetting l) rate s = setValueArcWork l rate s := by
      rw [setValueSettingWork, manualRateLamp_manualRateSetting]
    rw [← hwork]
    exact takeRequest_admits _ hadmits

theorem setValueArcWork_held {l : Side} {s : State} (h : (s.lamp.get l).mode ≠ .manual) (rate : Nat) :
    setValueArcWork l rate s = answerRefused s .heldAuto (s.store.working.lamp.get l).manualRate := if_neg h

theorem setValueArcWork_manual {l : Side} {s : State} (h : (s.lamp.get l).mode = .manual) (rate : Nat) :
    setValueArcWork l rate s =
      answerApplied (s.withManualRate l (min rate (s.store.working.lamp.get l).fmax))
        (decide (min rate (s.store.working.lamp.get l).fmax ≠ rate))
        (min rate (s.store.working.lamp.get l).fmax) := by
  rw [← clamp_zero]
  exact if_pos h

theorem queueAnswer_applied (n : Station) (k : Kind) (s : State) (v asked : Nat) :
    queueAnswer n k.code (answerApplied s (decide (v ≠ asked)) v) =
      s.answered n k (if v = asked then .done else .clamped) (if v = asked then 0 else v) := by
  by_cases h : v = asked <;> simp [h, answerApplied, queueAnswer, State.answered, State.onLine]

/-- Settles O22: both rows take the arc's work, which is held outside MANUAL and clamps to FMAX in it. -/
theorem manualRateIsSetInManual : Obligations.ManualRateIsSetInManual := by
  unfold Obligations.ManualRateIsSetInManual
  intro n l rate s i t hi hadmits
  have hexec := exec_manualRate (l := l) (rate := rate) (by cases l <;> exact hi) hadmits
  refine ⟨fun hmode => ?_, fun hmode v hv => ?_⟩
  · rw [hexec, setValueArcWork_held hmode]
    rfl
  · rw [hexec, setValueArcWork_manual hmode, ← hv, queueAnswer_applied]
    rfl

end Sys2Proof.Machine
end

section
/-! INCH and START (R62, R63). -/

namespace Sys2Proof.Machine

open Sys2Proof

section

variable {p : Side} {s : State}

theorem inchWork_outOfRange {frames : Nat} (h : frames < 1 ∨ 255 < frames) :
    inchWork frames p s = answerRefused s .refusedRange 1 := if_pos h

theorem inchWork_refused {frames : Nat} (hleast : 1 ≤ frames) (hmost : frames ≤ 255)
    (h : (s.proj.get p).state ≠ .threaded ∨ s.fireAllows = false) :
    inchWork frames p s = answerRefused s .refusedState 0 := by
  have hrefused : ¬((s.proj.get p).state = .threaded ∧ s.fireAllows = true) := by
    rintro ⟨hstate, hfire⟩
    obtain h | h := h
    · exact h hstate
    · exact Bool.false_ne_true (h.symm.trans hfire)
  rw [inchWork, if_neg (by omega), if_neg hrefused]

theorem inchWork_done {frames : Nat} (hleast : 1 ≤ frames) (hmost : frames ≤ 255)
    (hstate : (s.proj.get p).state = .threaded) (hfire : s.fireAllows = true) :
    inchWork frames p s = answerDone (s.onProj p fun x => x.inching frames .between) 0 := by
  rw [inchWork, if_neg (by omega), if_pos ⟨hstate, hfire⟩]

theorem startWork_done (hstate : (s.proj.get p).state = .threaded ∨ (s.proj.get p).state = .inching)
    (hfire : s.fireAllows = true) : startWork p s = answerDone (startMotor p .between s) 0 := by
  have hallowed : s.startAllowed p = true := by simpa [State.startAllowed, hfire] using hstate
  rw [startWork, if_pos hallowed]

theorem startWork_refused
    (h : ((s.proj.get p).state ≠ .threaded ∧ (s.proj.get p).state ≠ .inching) ∨ s.fireAllows = false) :
    startWork p s = answerRefused s .refusedState 0 := by
  have hallowed : s.startAllowed p = false := by
    obtain ⟨hthreaded, hinching⟩ | hfire := h
    · simp [State.startAllowed, hthreaded, hinching]
    · simp [State.startAllowed, hfire]
  rw [startWork, hallowed, if_neg Bool.false_ne_true]

end

/-- Settles O29: each row is its work on the projector, range before state, and its timer runs its 6.0 s and one
boundary more. -/
theorem inchAndStartRunTheMotor : Obligations.InchAndStartRunTheMotor := by
  unfold Obligations.InchAndStartRunTheMotor
  intro n p s
  refine ⟨fun frames hadmits => ?_, fun hadmits => ?_⟩
  · have hexec : exec (.inch n (.proj p) frames) s = .next (queueAnswer n Kind.inch.code (inchWork frames p s)) :=
      takeRequest_admits (onProjector (.proj p) (inchWork frames)) hadmits
    rw [hexec]
    refine ⟨fun hleast hmost hstate hfire => ?_, fun hrange => ?_, fun hleast hmost hrefused => ?_⟩
    · rw [inchWork_done hleast hmost hstate hfire]
      rfl
    · rw [inchWork_outOfRange hrange]
      rfl
    · rw [inchWork_refused hleast hmost hrefused]
      rfl
  · have hexec : exec (.start n (.proj p)) s = .next (queueAnswer n Kind.start.code (startWork p s)) :=
      takeRequest_admits (onProjector (.proj p) startWork) hadmits
    rw [hexec]
    refine ⟨fun hstate hfire => ?_, fun hrefused => ?_⟩
    · rw [startWork_done hstate hfire]
      rfl
    · rw [startWork_refused hrefused]
      rfl

end Sys2Proof.Machine
end

section
/-! What is read back, in the terms of the tables: codes, flags, settings and timers (R169, R183, R184). -/

namespace Sys2Proof.Machine

open Sys2Proof

/-! ### Codes (R184) -/

theorem Mode.code_eq (x : Mode) : x.code = modes.idxOf x := by cases x <;> rfl

theorem ProjectorState.code_eq (x : ProjectorState) : x.code = projectorStates.idxOf x := by cases x <;> rfl

theorem LampState.code_eq (x : LampState) : x.code = lampStates.idxOf x := by cases x <;> rfl

theorem Automation.code_eq (x : Automation) : x.code = automationStates.idxOf x := by cases x <;> rfl

theorem FireState.code_eq (x : FireState) : x.code = fireStates.idxOf x := by cases x <;> rfl

theorem CountdownState.code_eq (x : CountdownState) : x.code = countdownStates.idxOf x := by cases x <;> rfl

theorem ShutterState.code_eq (x : ShutterState) : x.code = shutterStates.idxOf x := by cases x <;> rfl

theorem RecordStatus.code_eq (x : RecordStatus) : x.code = recordStatuses.idxOf x := by cases x <;> rfl

theorem DetailUnit.code_eq (x : DetailUnit) : x.code = detailUnits.idxOf x := by
  cases x with
  | nothing => rfl
  | projector p => cases p <;> rfl
  | lamp l => cases l <;> rfl
  | port q => cases q <;> rfl
  | station n => fin_cases n <;> rfl

theorem contactCode_eq (x : Contact) : contactCode x = bit (decide (x = .closed)) := by cases x <;> rfl

theorem linkCode_eq (x : FireLink) : linkCode x = bit (decide (x = .opened)) := by cases x <;> rfl

theorem sideBit_eq (p : Side) : sideBit p = bit (decide (p = .b)) := by cases p <;> rfl

/-! ### Packed flags and numbers (R183) -/

theorem flag_eq (b : Bool) : flag b = bit b := rfl

theorem flagSet_four (a b c d : Bool) : flagSet [a, b, c, d] = bit a + 2 * bit b + 4 * bit c + 8 * bit d := by
  simp only [flagSet, flag_eq]; omega

theorem flagSet_three (a b c : Bool) : flagSet [a, b, c] = bit a + 2 * bit b + 4 * bit c := by
  simp only [flagSet, flag_eq]; omega

/-- Four characters of which the last two carry one number. -/
theorem fourChars_pair (a b n : Nat) : fourChars a b (n / 256) (n % 256) = a * 16777216 + b * 65536 + n := by
  unfold fourChars; omega

/-- Four characters of which the last two carry the low part of a number. -/
theorem fourChars_low (a b n : Nat) :
    fourChars a b (n / 256 % 256) (n % 256) = a * 16777216 + b * 65536 + n % 65536 := by
  unfold fourChars; omega

/-- Two numbers in the first and the last of four characters. -/
theorem fourChars_ends (a d : Nat) : fourChars a 0 0 d = a * 16777216 + d := by
  unfold fourChars; omega

/-- Four characters of which the last three carry one number. -/
theorem fourChars_triple (a n : Nat) :
    fourChars a (n / 65536) (n / 256 % 256) (n % 256) = a * 16777216 + n := by
  unfold fourChars; omega

/-- A set of conditions as the sum of their weights (R183). -/
theorem conditionSet_eq_sum (f : Condition → Bool) :
    conditionSet f = (allConditions.map fun k => if f k then 2 ^ (k.number - 1) else 0).sum := by
  have weight (b : Bool) (w : Nat) : (if b then w else 0) = w * flag b := by cases b <;> simp [flag]
  simp only [conditionSet, weight, allConditions, List.map_cons, List.map_nil, flagSet, List.sum_cons, List.sum_nil,
    Condition.number, Condition.index, Fin.isValue, Fin.coe_ofNat_eq_mod, Nat.reduceMod, Nat.add_one_sub_one,
    Nat.reducePow]
  omega

/-! ### Timers (log entry 14) -/

theorem roundedTenths_bounds (n : Nat) : n ≤ 2 * roundedTenths n + 2 ∧ 2 * roundedTenths n ≤ n + 1 := by
  unfold roundedTenths; split <;> omega

theorem TimeLeft.tenths_exact {x : TimeLeft} (h : x.phase = .fresh ∨ x.phase = .whole ∧ x.periods % 2 = 0) :
    x.tenths = x.periods / 2 := by
  obtain h | ⟨h, heven⟩ := h
  · simp [TimeLeft.tenths, h]
  · simp [TimeLeft.tenths, h, heven]

theorem TimeLeft.tenths_bounds (x : TimeLeft) : x.periods ≤ 2 * x.tenths + 2 ∧ 2 * x.tenths ≤ x.periods + 1 := by
  have hrounded := roundedTenths_bounds x.periods
  unfold TimeLeft.tenths
  (repeat' split) <;> omega

/-- The code that a READ gives for a timer is one that it may give. -/
theorem readCode_readsAs (x : ReadTimer) : x.ReadsAs x.readCode := by
  refine ⟨fun h => by rw [h]; rfl, fun y hy => ?_⟩
  obtain rfl : x = some y := hy
  exact ⟨y.tenths_exact, y.tenths_bounds⟩

/-! ### The settings by their numbers (R169) -/

/-- The settings before HALT_3 in the order of their numbers. -/
def Settings.beforeHalts (t : Settings) : List Nat :=
  [t.sLead, t.runUp, t.cueWindow, t.douse, t.stall, t.rounding] ++ t.lamp.a.listed ++ t.lamp.b.listed
    ++ [t.showLevel, t.intermissionLevel, t.breakLevel, t.aisleMin, t.showRamp, t.endRamp]

theorem listed_eq (t : Settings) : t.listed = t.beforeHalts ++ t.halts.toList := rfl

theorem beforeHalts_length (t : Settings) : t.beforeHalts.length = 32 := rfl

theorem beforeHalts_value (t : Settings) {i : Nat} (h : 1 ≤ i) (h' : i ≤ 32) :
    t.beforeHalts[i - 1]? = some (t.value i) := by
  interval_cases i <;> rfl

theorem value_halt (t : Settings) (j : Nat) : t.value (j + 33) = t.halts[j]?.getD 0 := by
  have hnone : lampSetting (j + 33) = none := by
    rw [lampSetting, if_neg (by omega), if_neg (by omega)]
  simp [Settings.value, hnone]

/-- The values of the settings stand in the list in the order of their numbers. -/
theorem listed_value (t : Settings) {i : Nat} (h : 1 ≤ i) (h' : i ≤ 45) : t.listed[i - 1]? = some (t.value i) := by
  rw [listed_eq]
  by_cases hhalt : i ≤ 32
  · rw [List.getElem?_append_left (by rw [beforeHalts_length]; omega), beforeHalts_value t h hhalt]
  · obtain ⟨j, rfl⟩ : ∃ j, i = j + 33 := ⟨i - 33, by omega⟩
    have hj : j < 13 := by omega
    rw [List.getElem?_append_right (by rw [beforeHalts_length]; omega), beforeHalts_length, value_halt]
    simp [hj]

theorem listed_length (t : Settings) : t.listed.length = 45 := by
  rw [listed_eq, List.length_append, beforeHalts_length, Vector.length_toList]

/-- The limits of the settings stand in the list in the order of their numbers. -/
theorem limits_range (t : Settings) {i : Nat} (h : 1 ≤ i) (h' : i ≤ 45) : t.limits[i - 1]? = some (t.range i) := by
  interval_cases i <;> rfl

end Sys2Proof.Machine
end

section
/-! The item tables of READ (R32), each as the list of its items. -/

namespace Sys2Proof.Machine

open Sys2Proof

/-- A table of items is a list: item 1 is its first, and there is no item 0 and none past its end. -/
def ListsItems (table : Nat → Option Nat) (items : List Nat) : Prop :=
  table 0 = none ∧ ∀ i, table (i + 1) = items[i]?

theorem ListsItems.outside {table : Nat → Option Nat} {items : List Nat} (h : ListsItems table items) {item : Nat}
    (hitem : item = 0 ∨ items.length < item) : table item = none := by
  obtain ⟨hzero, hsucc⟩ := h
  cases item with
  | zero => exact hzero
  | succ i => exact (hsucc i).trans (List.getElem?_eq_none (by omega))

/-- The items of a channel: with no ramp running its step is marked absent and no time is left (R137). -/
theorem lightItem_lists (x : Light) :
    ListsItems (lightItem x)
      ([modes.idxOf x.mode, x.level, x.target] ++
        match x.step with
        | none => [16777216, 0]
        | some d => [d, (max x.level x.target - min x.level x.target + d - 1) / d]) := by
  have hleft : (if x.target ≤ x.level then x.level - x.target else x.target - x.level) =
      max x.level x.target - min x.level x.target := by split <;> omega
  refine ⟨rfl, fun i => ?_⟩
  match i with
  | 0 => exact congrArg some x.mode.code_eq
  | 1 | 2 => rfl
  | 3 => cases hstep : x.step <;> simp [lightItem, hstep, codeAndNumber, flag]
  | 4 => cases hstep : x.step <;> simp [lightItem, hstep, hleft, divUp]
  | i + 5 => cases hstep : x.step <;> simp [lightItem]

/-- The items of a lamp (R123). -/
theorem lampItem_lists (x : Lamp) :
    ListsItems (lampItem x)
      [lampStates.idxOf x.state, modes.idxOf x.mode, bit x.rectifierClosed * 16777216 + x.iset, x.amperes, x.volts, x.f,
        x.stock, x.fed, bit x.highLimit + 2 * bit x.lowLimit + 4 * bit x.rodOut + 8 * bit x.rodValid, x.attempt,
        x.trimIntervals * 16777216 + x.trimConverge, x.warmTimer.readCode] := by
  refine ⟨rfl, fun i => ?_⟩
  match i with
  | 0 => exact congrArg some x.state.code_eq
  | 1 => exact congrArg some x.mode.code_eq
  | 8 => exact congrArg some (flagSet_four ..)
  | 10 => exact congrArg some (fourChars_ends ..)
  | 2 | 3 | 4 | 5 | 6 | 7 | 9 | 11 => rfl
  | i + 12 => rfl

/-- The items of a projector (R87, R155). -/
theorem projectorItem_lists (s : State) (p : Side) :
    ListsItems (projectorItem s p)
      [projectorStates.idxOf (s.proj.get p).state, (s.proj.get p).f, (s.proj.get p).rate,
        (s.boundReel p).elim 0 Reel.number, bit (s.proj.get p).startPending, (s.proj.get p).marks,
        bit (s.proj.get p).windowOpen, bit (decide ((s.proj.get p).filmLoss = .closed)),
        bit (decide ((s.proj.get p).gate = .closed)), (s.proj.get p).stall] := by
  refine ⟨rfl, fun i => ?_⟩
  match i with
  | 0 => exact congrArg some (s.proj.get p).state.code_eq
  | 7 | 8 => exact congrArg some (contactCode_eq _)
  | 1 | 2 | 3 | 4 | 5 | 6 | 9 => rfl
  | i + 10 => rfl

/-- The items of the fire unit (R150). -/
theorem fireItem_lists (u : FireUnit) :
    ListsItems (fireItem u)
      ([fireStates.idxOf u.state, bit (decide (u.link = .opened))]
        ++ [u.a, u.b, u.observation1, u.observation2].map (fun x => shutterStates.idxOf x.state)
        ++ [u.stations]) := by
  refine ⟨rfl, fun i => ?_⟩
  match i with
  | 0 => exact congrArg some u.state.code_eq
  | 1 => exact congrArg some (linkCode_eq u.link)
  | 2 | 3 | 4 | 5 => exact congrArg some (ShutterState.code_eq _)
  | 6 => rfl
  | i + 7 => rfl

theorem outgoing_code (s : State) :
    (match s.outgoing with | none => 0 | some .a => 1 | some .b => 2) =
      if s.onScreen .a then 1 else if s.onScreen .b then 2 else 0 := by
  unfold State.outgoing
  by_cases ha : s.onScreen .a = true
  · simp [ha]
  · by_cases hb : s.onScreen .b = true <;> simp [ha, hb]

theorem motorLead_eq (r : Reel) (t : Settings) : motorLead r t = (r.leader * 10 + 23) / 24 + t.runUp := rfl

theorem rodNeed_eq (r : Reel) (x : LampSettings) :
    rodNeed r x =
      min (((r.endFrame - r.leader) * ((x.inom * x.burn + 15) / 16) + 23) / 24 + x.reserve * 1000) 999999 := rfl

/-- The items of AUTOMATION: the motor lead and the rod need are those of the incoming record (R87, R94). -/
theorem automationItem_lists (s : State) :
    ListsItems (automationItem s)
      ([automationStates.idxOf s.seq.automation, if s.onScreen .a then 1 else if s.onScreen .b then 2 else 0,
          bit s.seq.strikeTaken + 2 * bit s.seq.motorTaken + 4 * bit s.seq.swapReached + 8 * bit s.seq.swapDue,
          (s.seq.douse.get .a).readCode * 65536 + (s.seq.douse.get .b).readCode,
          countdownStates.idxOf s.seq.countdown.state,
          if s.seq.countdown.state = .ordered then s.seq.countdown.t.getD 0 else 0,
          if s.seq.countdown.state = .none then 0 else s.seq.countdown.n.getD 0,
          bit s.seq.countdown.overrun + 2 * bit s.seq.countdown.unordered + 4 * bit s.seq.countdown.inexact
            + 8 * bit s.seq.countdown.saturated] ++
        match s.incomingReel with
        | none => [0, 0]
        | some r =>
          [(r.leader * 10 + 23) / 24 + s.store.working.runUp,
            min (((r.endFrame - r.leader) * (((s.store.working.lamp.get r.projector).inom
                * (s.store.working.lamp.get r.projector).burn + 15) / 16) + 23) / 24
              + (s.store.working.lamp.get r.projector).reserve * 1000) 999999]) := by
  simp only [← motorLead_eq, ← rodNeed_eq]
  refine ⟨rfl, fun i => ?_⟩
  match i with
  | 0 => exact congrArg some s.seq.automation.code_eq
  | 1 => exact congrArg some (outgoing_code s)
  | 2 | 7 => exact congrArg some (flagSet_four ..)
  | 4 => exact congrArg some s.seq.countdown.state.code_eq
  | 3 | 5 | 6 => rfl
  | 8 | 9 => cases hreel : s.incomingReel <;> simp [automationItem, hreel]
  | i + 10 => cases hreel : s.incomingReel <;> simp [automationItem]

/-- The next record for a projector is the first that is neither SHOWN nor SKIPPED (R43). -/
theorem nextFor_eq (records : List Reel) (p : Side) :
    nextFor records p =
      (records.filter fun r =>
        decide (r.status ≠ .shown) && decide (r.status ≠ .skipped) && decide (r.projector = p)).head? := by
  have hremains (r : Reel) : r.remains = (decide (r.status ≠ .shown) && decide (r.status ≠ .skipped)) := by
    unfold Reel.remains; cases r.status <;> rfl
  rw [nextFor, remainingShow, List.find?_filter, List.head?_filter]
  simp only [hremains, Bool.decide_and, Bool.decide_eq_true]

/-- The record bound to a projector is the first at one of the three bound statuses (R44). -/
theorem boundTo_eq (records : List Reel) (p : Side) :
    boundTo records p =
      (records.filter fun r =>
        decide (r.projector = p) && [RecordStatus.bound, .running, .showing].contains r.status).head? := by
  have hbound (r : Reel) : r.isBound = [RecordStatus.bound, .running, .showing].contains r.status := by
    unfold Reel.isBound; cases r.status <;> rfl
  rw [boundTo, List.head?_filter]
  simp only [hbound]

theorem elim_number (x : Option Reel) : x.elim 0 Reel.number = (x.map Reel.number).getD 0 := by cases x <;> rfl

/-- The items of the reel list (R58). -/
theorem reelsItem_lists (x : ReelList) :
    ListsItems (reelsItem x)
      ([x.records.length, x.code, x.faultReel]
        ++ [Side.a, Side.b].map (fun p =>
          ((x.records.filter fun r =>
              decide (r.status ≠ .shown) && decide (r.status ≠ .skipped) && decide (r.projector = p)).head?.map
                Reel.number).getD 0)
        ++ [Side.a, Side.b].map (fun p =>
          ((x.records.filter fun r =>
              decide (r.projector = p) && [RecordStatus.bound, .running, .showing].contains r.status).head?.map
                Reel.number).getD 0)) := by
  simp only [← nextFor_eq, ← boundTo_eq, ← elim_number]
  refine ⟨rfl, fun i => ?_⟩
  match i with
  | 0 | 1 | 2 | 3 | 4 | 5 | 6 => rfl
  | i + 7 => rfl

/-- The time left of a save as READ gives it: 0 with none under way (R178). -/
def Store.saveTenths (x : Store) : Nat := x.save.elim 0 fun j => j.timer.tenths

theorem saveTenths_readsAs {x : Store} {j : SaveJob} (h : x.save = some j) :
    ReadTimer.ReadsAs (some j.timer) x.saveTenths := by
  have hread := readCode_readsAs (some j.timer)
  rwa [show x.saveTenths = ReadTimer.readCode (some j.timer) by simp [Store.saveTenths, ReadTimer.readCode, h]]

/-- The items of the presets (R178). -/
theorem presetsItem_lists (x : Store) :
    ListsItems (presetsItem x) [x.startChannel, x.save.elim 0 SaveJob.channel, x.saveTenths, bit x.rebuilt] := by
  refine ⟨rfl, fun i => ?_⟩
  match i with
  | 0 | 1 | 2 | 3 => rfl
  | i + 4 => rfl

theorem listed_getD (t : Settings) {i : Nat} (h : 1 ≤ i) (h' : i ≤ 45) : t.listed.getD (i - 1) 0 = t.value i := by
  rw [List.getD_eq_getElem?_getD, listed_value t h h', Option.getD_some]

/-- The items of a setting: its working value and that of each channel (R178). -/
theorem settingItem_lists (x : Store) {i : Nat} (h : 1 ≤ i) (h' : i ≤ 45) :
    ListsItems (settingItem x i)
      ([x.working, Settings.factory, x.channel1, x.channel2, x.channel3].map fun t => t.listed.getD (i - 1) 0) := by
  simp only [listed_getD _ h h']
  refine ⟨rfl, fun j => ?_⟩
  match j with
  | 0 | 1 | 2 | 3 | 4 => rfl
  | j + 5 => rfl

end Sys2Proof.Machine
end

section
/-! The four inquiries (R31, R32, R58, R162). -/

namespace Sys2Proof.Machine

open Sys2Proof

/-! ### INQUIRE (R30, R31) -/

/-- A target has a function record, with these five parts (R30). -/
structure HasRecord (s : State) (t : Target) (available mode low high value : Nat) : Prop where
  present : targetPresent t = true
  available : targetModes t = available
  mode : targetMode s t = mode
  low : targetMinimum s t = low
  high : targetMaximum s t = high
  value : targetValue s t = value

/-- The four parts of a function record, the present flag and the modes packed in the first (R31, R183). -/
theorem HasRecord.parts {s : State} {t : Target} {available mode low high value : Nat}
    (h : HasRecord s t available mode low high value) :
    functionPart s t 1 = some (16777216 + available * 65536 + mode * 256) ∧ functionPart s t 2 = some low
      ∧ functionPart s t 3 = some high ∧ functionPart s t 4 = some value := by
  obtain ⟨hpresent, rfl, rfl, rfl, rfl, rfl⟩ := h
  have hpack : fourChars 1 (targetModes t) (targetMode s t) 0 =
      16777216 + targetModes t * 65536 + targetMode s t * 256 := by unfold fourChars; omega
  simp [functionPart, hpresent, hpack]

/-- A target without a function record reads as zeros (R31). -/
theorem functionPart_of_not_present {t : Target} {part : Nat} (s : State) (h : targetPresent t = false)
    (hleast : 1 ≤ part) (hmost : part ≤ 4) : functionPart s t part = some 0 := by
  interval_cases part <;> simp [functionPart, h]

theorem functionPart_outside {part : Nat} (s : State) (t : Target) (h : part = 0 ∨ 5 ≤ part) :
    functionPart s t part = none := by
  obtain rfl | h := h
  · rfl
  · obtain ⟨i, rfl⟩ : ∃ i, part = i + 5 := ⟨part - 5, by omega⟩
    rfl

theorem settingExists_iff (i : Nat) : settingExists i = true ↔ 1 ≤ i ∧ i ≤ 45 := by
  rw [settingExists, Bool.and_eq_true, decide_eq_true_eq, decide_eq_true_eq, settingCount]

theorem not_present_of_none {t : Target}
    (h : t = .noTarget ∨ (∃ c, t = .unknown c) ∨ ∃ i, t = .setting i ∧ ¬(1 ≤ i ∧ i ≤ 45)) :
    targetPresent t = false := by
  obtain rfl | ⟨c, rfl⟩ | ⟨i, rfl, hi⟩ := h
  · rfl
  · rfl
  · exact Bool.eq_false_iff.2 fun hexists => hi ((settingExists_iff i).1 hexists)

theorem shuttersUp_eq (u : FireUnit) :
    shuttersUp u = ([u.a, u.b, u.observation1, u.observation2].filter fun x => decide (x.state = .up)).length := by
  simp only [← List.countP_eq_length_filter, List.countP_cons, List.countP_nil, shuttersUp, flag, Nat.zero_add]
  omega

/-- The record of a setting: the limits and the value that stand in its place in the lists (R30, R169). -/
theorem hasRecord_setting {s : State} {i low high value : Nat} (h : 1 ≤ i)
    (hlimits : s.store.working.limits[i - 1]? = some (low, high))
    (hlisted : s.store.working.listed[i - 1]? = some value) : HasRecord s (.setting i) 0 3 low high value := by
  have h' : i ≤ 45 := by
    have hlt := (List.getElem?_eq_some_iff.1 hlisted).1
    rw [listed_length] at hlt
    omega
  rw [limits_range _ h h', Option.some.injEq] at hlimits
  rw [listed_value _ h h', Option.some.injEq] at hlisted
  exact ⟨(settingExists_iff i).2 ⟨h, h'⟩, rfl, rfl, congrArg Prod.fst hlimits, congrArg Prod.snd hlimits, hlisted⟩

section
variable {n : Station} {s : State} {t : Target}

theorem exec_inquire_some {part d : Nat} (hadmits : s.admits n .inquire t = true) (h : functionPart s t part = some d) :
    exec (.inquire n t part) s = .next (s.answered n .inquire .done d) := by
  have hwork : inquireWork t part s = answerDone s d := by rw [inquireWork, h]
  refine (takeRequest_admits (inquireWork t part) hadmits).trans ?_
  rw [hwork, queueAnswer_done]

theorem exec_inquire_none {part : Nat} (hadmits : s.admits n .inquire t = true) (h : functionPart s t part = none) :
    exec (.inquire n t part) s = .next (s.answered n .inquire .refusedRange 1) := by
  have hwork : inquireWork t part s = answerRefused s .refusedRange 1 := by rw [inquireWork, h]
  refine (takeRequest_admits (inquireWork t part) hadmits).trans ?_
  rw [hwork, queueAnswer_refused]

/-- INQUIRE answers the four parts of a function record. -/
theorem exec_inquire_record {available mode low high value : Nat} (hadmits : s.admits n .inquire t = true)
    (h : HasRecord s t available mode low high value) :
    exec (.inquire n t 1) s = .next (s.answered n .inquire .done (16777216 + available * 65536 + mode * 256))
      ∧ exec (.inquire n t 2) s = .next (s.answered n .inquire .done low)
      ∧ exec (.inquire n t 3) s = .next (s.answered n .inquire .done high)
      ∧ exec (.inquire n t 4) s = .next (s.answered n .inquire .done value) := by
  obtain ⟨hmodes, hlow, hhigh, hvalue⟩ := h.parts
  exact ⟨exec_inquire_some hadmits hmodes, exec_inquire_some hadmits hlow, exec_inquire_some hadmits hhigh,
    exec_inquire_some hadmits hvalue⟩

/-! ### READ (R32) -/

theorem exec_read_some {item d : Nat} (hadmits : s.admits n .read t = true) (h : targetItem s t item = some d) :
    exec (.read n t item) s = .next (s.answered n .read .done d) := by
  have hwork : readWork t item s = answerDone s d := by rw [readWork, h]
  refine (takeRequest_admits (readWork t item) hadmits).trans ?_
  rw [hwork, queueAnswer_done]

theorem exec_read_none {item : Nat} (hadmits : s.admits n .read t = true) (h : targetItem s t item = none) :
    exec (.read n t item) s = .next (s.answered n .read .refusedRange 1) := by
  have hwork : readWork t item s = answerRefused s .refusedRange 1 := by rw [readWork, h]
  refine (takeRequest_admits (readWork t item) hadmits).trans ?_
  rw [hwork, queueAnswer_refused]

/-- READ answers the items of a target's list, and refuses a number outside it. -/
theorem exec_read_items {items : List Nat} (hadmits : s.admits n .read t = true)
    (h : ListsItems (targetItem s t) items) :
    (∀ i d, items[i]? = some d → exec (.read n t (i + 1)) s = .next (s.answered n .read .done d))
      ∧ ∀ item, item = 0 ∨ items.length < item →
          exec (.read n t item) s = .next (s.answered n .read .refusedRange 1) :=
  ⟨fun i _ hi => exec_read_some hadmits ((h.2 i).trans hi), fun _ hitem => exec_read_none hadmits (h.outside hitem)⟩

/-- A target that READ is admitted for is one it takes (R23). -/
theorem present_of_admits_read (hadmits : s.admits n .read t = true) : targetPresent t = true := by
  simp only [State.admits, State.passes, groupOf, takesTarget, Bool.and_eq_true] at hadmits
  obtain ⟨-, -, hpresent⟩ := hadmits
  exact hpresent

/-! ### READ_REEL (R58) -/

section
variable {front back : List Reel} {r : Reel}

theorem findReel_append (h : ∀ y ∈ front, y.number ≠ r.number) :
    findReel (front ++ r :: back) r.number = some r := by
  have hfront : front.find? (fun y => y.number == r.number) = none := by simpa using h
  rw [findReel, List.find?_append, hfront]
  simp

theorem positionOf_append (h : ∀ y ∈ front, y.number ≠ r.number) :
    positionOf (front ++ r :: back) r.number = front.length + 1 := by
  have hfront : front.findIdx? (fun y => y.number == r.number) = none := by simpa using h
  rw [positionOf, List.findIdx?_append, hfront]
  simp [List.findIdx?_cons]

end

theorem namedReel_none {reel : Nat} (h : s.NamesNone reel) : namedReel s reel = none := by
  unfold namedReel
  split
  · obtain h | h | h := h
    · omega
    · omega
    · exact h
  · rfl

/-- The packing of a record's summary (R183). -/
theorem reelSummary_eq (records : List Reel) (r : Reel) :
    reelSummary records r =
      (positionOf records r.number % 32 + 32 * bit r.measuredEnd.isSome + 64 * (r.effectiveEnd / 65536 % 2)) * 16777216
        + (recordStatuses.idxOf r.status + 8 * bit (decide (r.projector = .b)) + 16 * bit r.last
            + 32 * bit r.intermission + 64 * bit r.cue.isSome + 128 * bit r.cueTaken) * 65536
        + r.effectiveEnd % 65536 := by
  rw [reelSummary, fourChars_low, RecordStatus.code_eq, sideBit_eq]
  rfl

theorem exec_readReel_some {reel : Nat} {r : Reel} (hadmits : s.admits n .readReel .reels = true)
    (h : namedReel s reel = some r) :
    exec (.readReel n .reels reel) s = .next (s.answered n .readReel .done (reelSummary s.reels.records r)) := by
  have hwork : readReelWork reel s = answerDone s (reelSummary s.reels.records r) := by rw [readReelWork, h]
  refine (takeRequest_admits (readReelWork reel) hadmits).trans ?_
  rw [hwork, queueAnswer_done]

theorem exec_readReel_none {reel : Nat} (hadmits : s.admits n .readReel .reels = true)
    (h : namedReel s reel = none) :
    exec (.readReel n .reels reel) s = .next (s.answered n .readReel .refusedRange 1) := by
  have hwork : readReelWork reel s = answerRefused s .refusedRange 1 := by rw [readReelWork, h]
  refine (takeRequest_admits (readReelWork reel) hadmits).trans ?_
  rw [hwork, queueAnswer_refused]

/-! ### READ_CONDITIONS (R162) -/

theorem number_ne_zero (k : Condition) : k.number ≠ 0 := Nat.succ_ne_zero _

theorem conditionOf_number (k : Condition) : conditionOf k.number = some k := by cases k <;> rfl

theorem conditionOf_none {number : Nat} (h : 16 ≤ number) : conditionOf number = none := by
  rw [conditionOf, if_neg (by omega), List.getElem?_eq_none]
  simp only [allConditions, List.length_cons, List.length_nil]
  omega

theorem readConditionsWork_zero (part : Nat) (s : State) :
    readConditionsWork 0 part s =
      answerDone s (conditionSet (fun k => (s.record k).accrued) * 65536 + conditionSet s.current) := rfl

theorem readConditionsWork_one (k : Condition) (s : State) :
    readConditionsWork k.number 1 s = answerDone s (conditionPart1 s k) := by
  simp [readConditionsWork, number_ne_zero, conditionOf_number]

theorem readConditionsWork_two (k : Condition) (s : State) :
    readConditionsWork k.number 2 s = answerDone s (conditionPart2 s k) := by
  simp [readConditionsWork, number_ne_zero, conditionOf_number]

theorem readConditionsWork_other {part : Nat} (hone : part ≠ 1) (htwo : part ≠ 2) (k : Condition) (s : State) :
    readConditionsWork k.number part s = answerRefused s .refusedRange 2 := by
  simp [readConditionsWork, number_ne_zero, conditionOf_number]

theorem readConditionsWork_outside {number : Nat} (h : 16 ≤ number) (part : Nat) (s : State) :
    readConditionsWork number part s = answerRefused s .refusedRange 1 := by
  rw [readConditionsWork, if_neg (by omega), conditionOf_none h]

theorem conditionPart1_eq (s : State) (k : Condition) :
    conditionPart1 s k =
      (bit (s.record k).accrued + 2 * bit (s.current k) + 4 * bit (s.record k).shown.t.isSome) * 16777216
        + detailUnits.idxOf (s.record k).shown.unit * 65536 + (s.record k).shown.t.getD 0 := by
  rw [conditionPart1, fourChars_pair, flagSet_three, DetailUnit.code_eq]

theorem conditionPart2_eq (s : State) (k : Condition) :
    conditionPart2 s k = bit (s.record k).shown.f.isSome * 16777216 + (s.record k).shown.f.getD 0 := by
  rw [conditionPart2, fourChars_triple, flag_eq]

end

/-! ### The statement -/

/-- Settles O19: each inquiry looks up what its target's table gives, and its answer is that or a refusal. -/
theorem inquiriesOnlyAnswer : Obligations.InquiriesOnlyAnswer := by
  unfold Obligations.InquiriesOnlyAnswer
  intro n s
  refine ⟨fun t part hadmits => ⟨fun hnone hleast hmost => ?_, fun hpart => ?_, fun av mode low high value h => ?_⟩,
    ⟨fun l => (s.lamp.get l).warmTimer.readCode, fun l => (s.seq.douse.get l).readCode, s.store.saveTenths,
      fun l => ⟨readCode_readsAs _, readCode_readsAs _⟩, fun h => ?_, fun j hj => ?_,
      fun t items hadmits hitems => ?_⟩,
    fun reel hadmits => ⟨fun front r back e hleast hmost hrecords hnumber hfront he => ?_, fun hnone => ?_⟩,
    fun condition part hadmits => ?_⟩
  · exact exec_inquire_some hadmits (functionPart_of_not_present s (not_present_of_none hnone) hleast hmost)
  · exact exec_inquire_none hadmits (functionPart_outside s t hpart)
  · refine exec_inquire_record hadmits ?_
    obtain ⟨rfl, rfl, rfl, rfl, rfl, rfl⟩ | ⟨rfl, rfl, rfl, rfl, rfl, rfl⟩ | ⟨l, rfl, rfl, rfl, rfl, rfl, rfl⟩
      | ⟨rfl, rfl, h⟩ := h
    · exact ⟨rfl, rfl, Mode.code_eq _, rfl, rfl, rfl⟩
    · exact ⟨rfl, rfl, Mode.code_eq _, rfl, rfl, rfl⟩
    · exact ⟨rfl, rfl, Mode.code_eq _, rfl, rfl, rfl⟩
    · obtain ⟨p, rfl, rfl, rfl, rfl⟩ | ⟨rfl, rfl, rfl, rfl⟩ | ⟨rfl, rfl, rfl, rfl⟩ | ⟨rfl, rfl, rfl, rfl⟩
        | ⟨rfl, rfl, rfl, rfl⟩ | ⟨i, rfl, hi, hlimits, hlisted⟩ := h
      · exact ⟨rfl, rfl, rfl, rfl, rfl, rfl⟩
      · exact ⟨rfl, rfl, rfl, rfl, rfl, shuttersUp_eq _⟩
      · exact ⟨rfl, rfl, rfl, rfl, rfl, Automation.code_eq _⟩
      · exact ⟨rfl, rfl, rfl, rfl, rfl, rfl⟩
      · exact ⟨rfl, rfl, rfl, rfl, rfl, rfl⟩
      · exact hasRecord_setting hi hlimits hlisted
  · simp [Store.saveTenths, h]
  · exact saveTenths_readsAs hj
  · subst hitems
    refine exec_read_items hadmits ?_
    have hpresent := present_of_admits_read hadmits
    cases t with
    | house =>
      simp only [if_true]
      exact lightItem_lists s.lights.house
    | aisle =>
      simp only [reduceCtorEq, if_false]
      exact lightItem_lists s.lights.aisle
    | arc l => exact lampItem_lists _
    | proj p => exact projectorItem_lists s p
    | shutters => exact fireItem_lists _
    | automation => exact automationItem_lists s
    | reels => exact reelsItem_lists _
    | presets => exact presetsItem_lists _
    | setting i =>
      obtain ⟨hi, hi'⟩ := (settingExists_iff i).1 hpresent
      exact settingItem_lists s.store hi hi'
    | noTarget | unknown => cases hpresent
  · subst hnumber he
    have hnamed : namedReel s r.number = some r := by
      rw [namedReel, if_pos ⟨hleast, hmost⟩, hrecords, findReel_append hfront]
    rw [exec_readReel_some hadmits hnamed, reelSummary_eq, hrecords, positionOf_append hfront]
    rfl
  · exact exec_readReel_none hadmits (namedReel_none hnone)
  · have hexec : exec (.readConditions n .noTarget condition part) s =
        .next (queueAnswer n Kind.readConditions.code (readConditionsWork condition part s)) :=
      takeRequest_admits (readConditionsWork condition part) hadmits
    rw [hexec]
    refine ⟨?_, fun k d hk hd => ?_, fun houtside => ?_⟩
    · rintro rfl
      rw [readConditionsWork_zero, queueAnswer_done, conditionSet_eq_sum, conditionSet_eq_sum]
    · subst hk
      have hshown : d = (s.record k).shown := hd
      refine ⟨?_, ?_, fun hone htwo => ?_⟩
      · rintro rfl
        rw [readConditionsWork_one, queueAnswer_done, conditionPart1_eq, hshown]
      · rintro rfl
        rw [readConditionsWork_two, queueAnswer_done, conditionPart2_eq, hshown]
      · rw [readConditionsWork_other hone htwo, queueAnswer_refused]
    · rw [readConditionsWork_outside houtside, queueAnswer_refused]

end Sys2Proof.Machine
end

section
/-! The reel list by what is entered on its records, by what the format checks look at, and by the statuses of the bound
records (R41 to R45, R54). -/

namespace Sys2Proof.Machine

open Sys2Proof

/-! ### A record but for its progress through the show -/

/-- A record as it was entered: without its status, its cue-taken flag and its learned end. -/
def Reel.entered (r : Reel) : Reel := { r with status := .waiting, cueTaken := false, measuredEnd := none }

/-- A record as the format checks see it: as it was entered, and whether it remains in the show (R43, R54). -/
def Reel.checked (r : Reel) : Reel := { r.entered with status := if r.remains then .waiting else .shown }

@[simp] theorem Reel.checked_remains (r : Reel) : r.checked.remains = r.remains := by
  unfold Reel.checked; cases h : r.remains <;> simp [Reel.remains]

@[simp] theorem Reel.checked_entered (r : Reel) : r.checked.entered = r.entered := rfl

theorem map_entered_of_checked {l l' : List Reel} (h : l'.map Reel.checked = l.map Reel.checked) :
    l'.map Reel.entered = l.map Reel.entered := by
  simpa [Function.comp_def] using congrArg (List.map Reel.entered) h

/-! ### The format checks look at nothing else (R54) -/

theorem remainingShow_checked (records : List Reel) :
    remainingShow (records.map Reel.checked) = (remainingShow records).map Reel.checked := by
  simp [remainingShow, List.filter_map, Function.comp_def]

theorem linkedPairs_checked (records : List Reel) :
    linkedPairs (records.map Reel.checked) = (linkedPairs records).map (Prod.map Reel.checked Reel.checked) := by
  simp only [linkedPairs, remainingShow_checked, ← List.map_tail, List.zip_map, List.filter_map]
  rfl

theorem formatCheck_checked (t : Settings) (records : List Reel) :
    formatCheck t (records.map Reel.checked) = formatCheck t records := by
  have hsame (x : Reel × Reel) : (Prod.map Reel.checked Reel.checked x).1.projector = x.1.projector
      ∧ (Prod.map Reel.checked Reel.checked x).2.projector = x.2.projector := ⟨rfl, rfl⟩
  have hlong (r : Reel) : longEnough r.checked = longEnough r := rfl
  have hstrike (x : Reel × Reel) : strikeLeadFits t (Prod.map Reel.checked Reel.checked x).1 = strikeLeadFits t x.1 := rfl
  have hmotor (x : Reel × Reel) : motorLeadFits t (Prod.map Reel.checked Reel.checked x).2 = motorLeadFits t x.2 := rfl
  have hcue (r : Reel) : cueFits r.checked = cueFits r := rfl
  unfold formatCheck
  simp only [remainingShow_checked, linkedPairs_checked, List.isEmpty_map, List.find?_map, Function.comp_def, hsame,
    hlong, hstrike, hmotor, hcue]
  split
  · rfl
  · cases (linkedPairs records).find? fun x => decide (x.1.projector = x.2.projector) with
    | some x => rfl
    | none =>
      cases (remainingShow records).find? fun r => !longEnough r with
      | some r => rfl
      | none =>
        cases (linkedPairs records).find? fun x => !strikeLeadFits t x.1 with
        | some x => rfl
        | none =>
          cases (linkedPairs records).find? fun x => !motorLeadFits t x.2 with
          | some x => rfl
          | none => cases (remainingShow records).find? fun r => !cueFits r <;> rfl

theorem formatCheck_congr {l l' : List Reel} (t : Settings) (h : l'.map Reel.checked = l.map Reel.checked) :
    formatCheck t l' = formatCheck t l := by
  rw [← formatCheck_checked, h, formatCheck_checked]

/-- The settings that the checks look at: S_LEAD, RUNUP and either WARM (R54, R170). -/
theorem formatCheck_settings {t u : Settings} (hlead : u.sLead = t.sLead) (hrun : u.runUp = t.runUp)
    (hwarm : ∀ l, (u.lamp.get l).warm = (t.lamp.get l).warm) (records : List Reel) :
    formatCheck u records = formatCheck t records := by
  have hstrike : strikeLeadFits u = strikeLeadFits t := funext fun r => by simp [strikeLeadFits, hlead]
  have hmotor : motorLeadFits u = motorLeadFits t := funext fun r => by
    unfold motorLeadFits motorLead; rw [hlead, hrun, hwarm]
  simp only [formatCheck, hstrike, hmotor]

/-! ### The statuses of bound records (R44, R45) -/

/-- The statuses of bound records (R44). -/
def RecordStatus.binds : RecordStatus → Bool
  | .bound | .running | .showing => true
  | _ => false

/-- A record at this status remains in the show (R43). -/
def RecordStatus.remains : RecordStatus → Bool
  | .shown | .skipped => false
  | _ => true

theorem Reel.isBound_eq (r : Reel) : r.isBound = r.status.binds := by
  unfold Reel.isBound RecordStatus.binds; cases r.status <;> rfl

theorem Reel.remains_eq (r : Reel) : r.remains = r.status.remains := by
  unfold Reel.remains RecordStatus.remains; cases r.status <;> rfl

theorem boundBecome_eq (records : List Reel) (p : Side) (st : RecordStatus) :
    boundBecome records p st = records.map (Reel.become p st) := rfl

@[simp] theorem Reel.become_entered (p : Side) (st : RecordStatus) (r : Reel) :
    (r.become p st).entered = r.entered := by
  unfold Reel.become; split <;> rfl

/-- A status under which a record remains in the show hides the change from the format checks. -/
theorem Reel.become_checked {st : RecordStatus} (hst : st.remains = true) (p : Side) (r : Reel) :
    (r.become p st).checked = r.checked := by
  unfold Reel.become
  split
  · rename_i h
    rw [Bool.and_eq_true, Reel.isBound_eq] at h
    have hr : r.status.remains = true := by
      generalize r.status = x at h
      cases x <;> first | rfl | cases h.2
    simp [Reel.checked, Reel.entered, Reel.remains_eq, hst, hr]
  · rfl

theorem boundBecome_entered (records : List Reel) (p : Side) (st : RecordStatus) :
    (boundBecome records p st).map Reel.entered = records.map Reel.entered := by
  simp [boundBecome_eq, Function.comp_def]

theorem boundBecome_checked {st : RecordStatus} (hst : st.remains = true) (records : List Reel) (p : Side) :
    (boundBecome records p st).map Reel.checked = records.map Reel.checked := by
  simp [boundBecome_eq, Function.comp_def, Reel.become_checked hst]

/-- The statuses of the records bound to the projector itself. -/
theorem boundStatuses_become (records : List Reel) (p : Side) (st : RecordStatus) :
    boundStatuses (boundBecome records p st) p =
      if st.binds then (boundStatuses records p).map fun _ => st else [] := by
  have htest (r : Reel) : (decide ((r.become p st).projector = p) && (r.become p st).isBound) =
      (st.binds && (decide (r.projector = p) && r.isBound)) := by
    by_cases h : (decide (r.projector = p) && r.isBound) = true
    · have hp := (Bool.and_eq_true _ _ ▸ h).1
      simp_all [Reel.become, Reel.isBound_eq]
    · rw [Reel.become, if_neg h, Bool.eq_false_iff.2 h, Bool.and_false]
  rw [boundStatuses, boundBecome_eq, List.filter_map, Function.comp_def]
  simp only [htest]
  cases st.binds
  · simp
  · simp only [Bool.true_and, boundStatuses, List.map_map, if_true]
    exact List.map_congr_left fun r hr => by simp [Reel.become, (List.mem_filter.1 hr).2]

/-- The statuses of the records bound to the other projector. -/
theorem boundStatuses_become_of_ne {p q : Side} (h : p ≠ q) (records : List Reel) (st : RecordStatus) :
    boundStatuses (boundBecome records p st) q = boundStatuses records q := by
  have htest (r : Reel) : (decide ((r.become p st).projector = q) && (r.become p st).isBound) =
      (decide (r.projector = q) && r.isBound) := by
    by_cases hr : r.projector = q
    · rw [Reel.become_of_ne st (hr ▸ h.symm)]
    · simp [Reel.become_projector, hr]
  rw [boundStatuses, boundBecome_eq, List.filter_map, Function.comp_def]
  simp only [htest, boundStatuses, List.map_map]
  refine List.map_congr_left fun r hr => ?_
  have hq := (List.mem_filter.1 hr).2
  rw [Bool.and_eq_true, decide_eq_true_eq] at hq
  rw [Function.comp, Reel.become_of_ne st (hq.1 ▸ h.symm)]

/-- A change of records that keeps projector and status keeps the bound statuses. -/
theorem boundStatuses_map {f : Reel → Reel} (hp : ∀ r, (f r).projector = r.projector)
    (hst : ∀ r, (f r).status = r.status) (records : List Reel) (p : Side) :
    boundStatuses (records.map f) p = boundStatuses records p := by
  simp [boundStatuses, List.filter_map, Function.comp_def, hp, hst, Reel.isBound_eq]

end Sys2Proof.Machine
end

section
/-! How the reel list moves with the projectors: each operation of the booth changes statuses, cue-taken flags and learned
ends alone, keeps the bound records those that the projectors' states call for, and keeps the format code true (R44, R45,
R55). -/

namespace Sys2Proof.Machine

open Sys2Proof

/-- Each projector has exactly the bound record that its state calls for (R44, R45). -/
def State.Agrees (s : State) : Prop :=
  ∀ p, boundStatuses s.reels.records p = (s.proj.get p).state.recordStatus.toList

/-- What an operation that edits nothing does to the list. -/
structure ListMoves (s t : State) : Prop where
  entered : t.reels.records.map Reel.entered = s.reels.records.map Reel.entered
  agrees : s.Agrees → t.Agrees
  format : s.FormatSafe → t.FormatSafe

namespace ListMoves

variable {s t u : State}

theorem refl (s : State) : ListMoves s s := ⟨rfl, id, id⟩

theorem trans (h : ListMoves s t) (h' : ListMoves t u) : ListMoves s u :=
  ⟨h'.entered.trans h.entered, h'.agrees ∘ h.agrees, h'.format ∘ h.format⟩

/-- Where the checks see the same records and settings and OFF stays, the code stays true. -/
theorem of_checked (hchecked : t.reels.records.map Reel.checked = s.reels.records.map Reel.checked)
    (hcode : t.reels.code = s.reels.code) (hfault : t.reels.faultReel = s.reels.faultReel)
    (hsettings : formatCheck t.store.working s.reels.records = formatCheck s.store.working s.reels.records)
    (hoff : s.seq.automation = .off → t.seq.automation = .off) (hagrees : s.Agrees → t.Agrees) : ListMoves s t where
  entered := map_entered_of_checked hchecked
  agrees := hagrees
  format h := by
    obtain ⟨htrue, hzero⟩ := h
    rw [State.FormatSafe, hcode, hfault, formatCheck_congr _ hchecked, hsettings]
    exact ⟨htrue, hoff ∘ hzero⟩

/-- The list stands, and each projector calls for what it did. -/
theorem of_reels (hreels : t.reels = s.reels)
    (hstate : ∀ p, (t.proj.get p).state.recordStatus = (s.proj.get p).state.recordStatus)
    (hsettings : t.store.working = s.store.working) (hoff : s.seq.automation = .off → t.seq.automation = .off) :
    ListMoves s t :=
  of_checked (by rw [hreels]) (by rw [hreels]) (by rw [hreels]) (by rw [hsettings]) hoff fun h p => by
    rw [hreels, hstate]; exact h p

theorem of_eq (hreels : t.reels = s.reels) (hproj : t.proj = s.proj) (hsettings : t.store.working = s.store.working)
    (hoff : s.seq.automation = .off → t.seq.automation = .off) : ListMoves s t :=
  of_reels hreels (fun p => by rw [hproj]) hsettings hoff

/-- A projector changes its state, and its bound record takes the status that the new state calls for (R45). -/
theorem become {p : Side} {st : RecordStatus} (hst : st.remains = true)
    (hreels : t.reels = { s.reels with records := boundBecome s.reels.records p st })
    (hstate : (t.proj.get p).state.recordStatus =
      if st.binds then (s.proj.get p).state.recordStatus.map fun _ => st else none)
    (hother : (t.proj.get p.other).state = (s.proj.get p.other).state)
    (hsettings : t.store.working = s.store.working) (hoff : s.seq.automation = .off → t.seq.automation = .off) :
    ListMoves s t :=
  of_checked (by rw [hreels]; exact boundBecome_checked hst ..) (by rw [hreels]) (by rw [hreels]) (by rw [hsettings]) hoff
    fun h q => by
      rw [hreels]
      obtain rfl | hq := eq_or_ne p q
      · rw [boundStatuses_become, h p, hstate]
        split <;> cases (s.proj.get p).state.recordStatus <;> rfl
      · rw [boundStatuses_become_of_ne hq, Side.eq_other_of_ne hq.symm, hother]
        exact h p.other

theorem onProj {p : Side} {g : Projector → Projector}
    (h : (g (s.proj.get p)).state.recordStatus = (s.proj.get p).state.recordStatus) : ListMoves s (s.onProj p g) :=
  of_reels rfl (Both.forall_set
    (P := fun q (y : Projector) => y.state.recordStatus = (s.proj.get q).state.recordStatus) h fun _ => rfl) rfl id

theorem onSeq {g : Sequencer → Sequencer} (h : s.seq.automation = .off → (g s.seq).automation = .off) :
    ListMoves s (s.onSeq g) := of_eq rfl rfl rfl h

theorem onLamp (s : State) (l : Side) (g : Lamp → Lamp) : ListMoves s (s.onLamp l g) := of_eq rfl rfl rfl id

end ListMoves

/-! ### The shared operations -/

theorem raiseCondition_moves (k : Condition) (d : Detail) (s : State) : ListMoves s (raiseCondition k d s) :=
  .of_eq (by simp) (by simp) (by simp) fun h => by rw [raiseCondition_automation, automationAfter, h]; simp

theorem settleWithholding_moves (s : State) : ListMoves s (settleWithholding s) :=
  .of_eq (by simp) (by simp) (by simp) (by simp)

theorem clearStart_moves (p : Side) (s : State) : ListMoves s (clearStart p s) :=
  (ListMoves.onProj rfl).trans (settleWithholding_moves _)

theorem automationOff_moves (s : State) : ListMoves s (automationOff s) :=
  ((ListMoves.onProj rfl).trans (.onProj rfl)).trans (.onSeq fun _ => rfl)

theorem setBoundStatus_reels (p : Side) (st : RecordStatus) (s : State) :
    (setBoundStatus p st s).reels = { s.reels with records := boundBecome s.reels.records p st } := rfl

/-- A projector put in another state, and then its record at the status that state calls for. -/
theorem onProj_setBoundStatus_moves {p : Side} {g : Projector → Projector} {st : RecordStatus} {s : State}
    (hst : st.remains = true)
    (h : (g (s.proj.get p)).state.recordStatus =
      if st.binds then (s.proj.get p).state.recordStatus.map fun _ => st else none) :
    ListMoves s (setBoundStatus p st (s.onProj p g)) :=
  .become hst rfl (by simpa using h) (by simp) rfl id

/-- A projector that moves has a bound record (R44, R59). -/
theorem ProjectorState.recordStatus_moving {x : ProjectorState} (h : x.moving = true) (st : RecordStatus) :
    x.recordStatus.map (fun _ => st) = some st := by
  cases x <;> first | rfl | cases h

theorem markShown_format (p : Side) (s : State) : (markShown p s).FormatSafe := by
  have heval (u : State) :
      ((evaluateFormat u).reels.code, (evaluateFormat u).reels.faultReel) =
        formatCheck (evaluateFormat u).store.working (evaluateFormat u).reels.records := rfl
  unfold markShown
  dsimp only
  split
  · exact ⟨by simpa using heval (setBoundStatus p .shown s), fun _ => rfl⟩
  · rename_i h
    exact ⟨heval _, fun hcode => by simpa [hcode] using h⟩

theorem markShown_records (p : Side) (s : State) :
    (markShown p s).reels.records = boundBecome s.reels.records p .shown := by
  unfold markShown; dsimp only; split <;> simp [setBoundStatus_reels]

theorem markShown_state (p q : Side) (s : State) :
    ((markShown p s).proj.get q).state = (s.proj.get q).state := by
  unfold markShown; dsimp only
  split
  · cases q <;> simp [automationOff, Both.get, Both.set, Projector.withoutStart]
  · simp

/-- The record of a projector put in a state that calls for none becomes SHOWN, and the format is evaluated anew. -/
theorem onProj_markShown_moves {p : Side} {g : Projector → Projector} {s : State}
    (h : (g (s.proj.get p)).state.recordStatus = none) : ListMoves s (markShown p (s.onProj p g)) where
  entered := by rw [markShown_records]; exact boundBecome_entered ..
  agrees hs q := by
    rw [markShown_records, markShown_state]
    obtain rfl | hq := eq_or_ne p q
    · simp [boundStatuses_become, RecordStatus.binds, h]
    · simpa [boundStatuses_become_of_ne hq, Both.get_set_ne _ _ hq] using hs q
  format _ := markShown_format ..

/-! ### The screen -/

/-- Leaving the screen for RUNOUT keeps the record SHOWING (R45, R78). -/
theorem leaveScreen_runout_moves {p : Side} {s : State} (h : s.onScreen p = true) :
    ListMoves s (leaveScreen p .runout s) :=
  ((ListMoves.onProj (by rw [(onScreen_iff s p).1 h]; rfl)).trans (.onSeq id)).trans (settleWithholding_moves _)

theorem darkenScreen_moves {p : Side} {s : State} (h : s.onScreen p = true) : ListMoves s (darkenScreen p s) :=
  .become (p := p) (st := .running) rfl (by rw [darkenScreen, setBoundStatus_reels]; simp)
    (by simp [darkenScreen, leaveScreen, Projector.offScreen, (onScreen_iff s p).1 h]; rfl)
    (by simp [darkenScreen, leaveScreen]) (by simp) (by simp)

theorem enterScreen_moves {p : Side} {s : State} (h : (s.proj.get p).state = .running) :
    ListMoves s (enterScreen p s) := by
  obtain ⟨hp, hother, hreels, hseq, -, -, -, -, -, hstore⟩ := enterScreen_opened p s
  refine .become (p := p) (st := .showing) rfl hreels ?_ (by rw [hother]; rfl) (by rw [hstore]) (by rw [hseq]; exact id)
  rw [hp, h]; rfl

theorem ready_running {p : Side} {s : State} (h : s.ready p = true) : (s.proj.get p).state = .running := by
  simp only [State.ready, Bool.and_eq_true, decide_eq_true_eq] at h
  exact h.1

theorem lampToDark_moves (l : Side) (g : Lamp → Lamp) (s : State) : ListMoves s (lampToDark l g s) :=
  ((ListMoves.onLamp s l _).trans (.onSeq id)).trans (clearStart_moves l _)

theorem lampToDark_onScreen (l p : Side) (g : Lamp → Lamp) (s : State) :
    (lampToDark l g s).onScreen p = s.onScreen p := by
  simp only [State.onScreen, lampToDark_projState]

theorem extinguishLamp_moves (l : Side) (s : State) : ListMoves s (extinguishLamp l s) := by
  unfold extinguishLamp
  dsimp only
  (repeat' split)
  · exact .refl s
  · exact (lampToDark_moves ..).trans (darkenScreen_moves (by rwa [lampToDark_onScreen]))
  · exact lampToDark_moves ..

theorem startDouse_moves (l : Side) (m : Moment) (s : State) : ListMoves s (startDouse l m s) := by
  unfold startDouse
  (repeat' split)
  · exact lampToDark_moves ..
  · exact .onSeq id
  · exact .refl s

theorem swapScreens_moves {i o : Side} {s : State} (m : Moment) (hi : (s.proj.get i).state = .running)
    (ho : s.onScreen o = true) : ListMoves s (swapScreens i o m s) := by
  have hne : o ≠ i := by
    rintro rfl
    rw [onScreen_iff, hi] at ho
    cases ho
  have hrunning : ((leaveScreen o .runout s).proj.get i).state = .running := by
    rw [leaveScreen_eq]
    simp only [Both.get_set_ne _ _ hne, hi]
  exact ((leaveScreen_runout_moves ho).trans (enterScreen_moves hrunning)).trans (startDouse_moves ..)

theorem loseArc_moves (l : Side) (m : Moment) (s : State) : ListMoves s (loseArc l m s) := by
  have hdark := lampToDark_moves l (fun x => { x with lowCurrent := 10 }) s
  unfold loseArc
  dsimp only
  refine ListMoves.trans ?_ (raiseCondition_moves ..)
  (repeat' split)
  · rename_i hscreen hready
    exact hdark.trans (swapScreens_moves _ (ready_running hready.2) (by rwa [lampToDark_onScreen]))
  · exact hdark.trans (darkenScreen_moves (by rwa [lampToDark_onScreen]))
  · exact hdark

/-! ### The projectors -/

theorem stopProjector_moves {p : Side} {s : State} (h : (s.proj.get p).state.moving = true) :
    ListMoves s (stopProjector p s) := by
  have hstopped : ListMoves s (setBoundStatus p .bound (s.onProj p Projector.rethreaded)) :=
    onProj_setBoundStatus_moves rfl (ProjectorState.recordStatus_moving h .bound).symm
  exact (hstopped.trans (.onSeq id)).trans (settleWithholding_moves _)

theorem failStart_moves {p : Side} {s : State} (h : (s.proj.get p).state.moving = true) : ListMoves s (failStart p s) :=
  (stopProjector_moves h).trans (raiseCondition_moves ..)

theorem startMotor_moves {p : Side} {s : State} (m : Moment)
    (h : (s.proj.get p).state = .threaded ∨ (s.proj.get p).state = .inching) : ListMoves s (startMotor p m s) :=
  .onProj (by obtain h | h := h <;> rw [h] <;> rfl)

theorem startAllowed_state {p : Side} {s : State} (h : s.startAllowed p = true) :
    (s.proj.get p).state = .threaded ∨ (s.proj.get p).state = .inching := by
  simp only [State.startAllowed, Bool.and_eq_true, Bool.or_eq_true, decide_eq_true_eq] at h
  exact h.1

theorem askStart_moves (p : Side) (m : Moment) (s : State) : ListMoves s (askStart p m s) := by
  unfold askStart
  split
  · exact startMotor_moves m (startAllowed_state ‹_›)
  · exact .refl s

theorem reachSpeed_moves {p : Side} {s : State} (h : (s.proj.get p).state = .starting) : ListMoves s (reachSpeed p s) :=
  onProj_setBoundStatus_moves rfl (by rw [h]; rfl)

theorem tailOut_moves (p : Side) (s : State) : ListMoves s (tailOut p s) := by
  have hout : ListMoves s (markShown p (s.onProj p Projector.tailedOut)) := onProj_markShown_moves rfl
  have hdue : ListMoves s (markShown p ((s.onProj p Projector.tailedOut).onSeq fun q => { q with swapDue := false })) :=
    (ListMoves.onSeq (s := s) (g := fun q => { q with swapDue := false }) id).trans
      (onProj_markShown_moves (g := Projector.tailedOut) rfl)
  unfold tailOut
  dsimp only
  refine ListMoves.trans ?_ (settleWithholding_moves _)
  split
  · exact hdue
  · exact hout

theorem giveTarget_moves (c : Channel) (percent tenths : Nat) (s : State) : ListMoves s (giveTarget c percent tenths s) :=
  .of_eq rfl rfl rfl id

theorem breakFilm_moves (p : Side) (s : State) : ListMoves s (breakFilm p s) := by
  have hbroken : ListMoves s (setBoundStatus p .interrupted (s.onProj p Projector.filmBroken)) :=
    onProj_setBoundStatus_moves rfl rfl
  have hsettled := (hbroken.trans (.onSeq (g := fun q => { q with swapDue := false }) id)).trans
    (settleWithholding_moves _)
  unfold breakFilm
  dsimp only
  refine ListMoves.trans ?_ (raiseCondition_moves ..)
  split
  · exact hsettled.trans (giveTarget_moves ..)
  · exact hsettled

theorem judgeFilmLoss_moves (p : Side) (s : State) : ListMoves s (judgeFilmLoss p s) := by
  unfold judgeFilmLoss
  (repeat' split)
  all_goals first | exact tailOut_moves .. | exact breakFilm_moves .. | exact .refl s

theorem gateTrip_moves {p : Side} {s : State} (h : s.onScreen p = true) : ListMoves s (gateTrip p s) :=
  (darkenScreen_moves h).trans (raiseCondition_moves ..)

/-! ### The entry to DROPPED and STOP_ALL -/

/-- A stop of whatever moves (R85, R147). -/
theorem stopIfMoving_moves (p : Side) (s : State) :
    ListMoves s (if (s.proj.get p).state.moving then stopProjector p s else s) := by
  split
  · exact stopProjector_moves ‹_›
  · exact .refl s

theorem fireStop_moves (p : Side) (s : State) : ListMoves s (fireStop p s) := by
  refine (stopIfMoving_moves p s).trans ?_
  unfold fireStop
  exact .onProj rfl

theorem emergencyStop_moves (p : Side) (s : State) : ListMoves s (emergencyStop p s) := by
  refine (stopIfMoving_moves p s).trans ?_
  unfold emergencyStop
  exact .onProj rfl

theorem fireExtinguish_moves (l : Side) (s : State) : ListMoves s (fireExtinguish l s) :=
  (extinguishLamp_moves l s).trans (.onSeq id)

theorem halted_moves (s : State) : ListMoves s (s.onSeq fun q => { q with automation := q.automation.halt }) :=
  .onSeq fun h => by rw [h]; rfl

theorem dropFire_moves (u : DetailUnit) (m : Moment) (s : State) : ListMoves s (dropFire u m s) := by
  unfold dropFire enterDropped
  dsimp only
  split
  · exact .refl s
  · refine ListMoves.trans ?_ (raiseCondition_moves ..)
    refine ListMoves.trans ?_ (settleWithholding_moves _)
    refine ListMoves.trans ?_ (halted_moves _)
    have hpanic (v : State) : ListMoves v (panicLights v) := .of_eq rfl rfl rfl id
    refine ListMoves.trans ?_ (hpanic _)
    refine ListMoves.trans ?_ ((fireExtinguish_moves .a _).trans (fireExtinguish_moves .b _))
    refine ListMoves.trans ?_ ((fireStop_moves .a _).trans (fireStop_moves .b _))
    exact .of_eq rfl rfl rfl id

end Sys2Proof.Machine
end

section
/-! How the reel list moves in the events of the booth and at a period boundary. -/

namespace Sys2Proof.Machine

open Sys2Proof

/-! ### Projectors (chapter 4) -/

theorem finishInch_moves {p : Side} {s : State} (h : (s.proj.get p).state = .inching) : ListMoves s (finishInch p s) :=
  .onProj (by rw [h]; rfl)

theorem endInch_moves (p : Side) (s : State) : ListMoves s (endInch p s) := by
  unfold endInch
  split
  · rename_i h; exact finishInch_moves h.1
  · exact .refl s

theorem countPulse_moves (p : Side) (s : State) : ListMoves s (countPulse p s) :=
  (ListMoves.onProj rfl).trans (endInch_moves p _)

theorem expireInch_moves (p : Side) (s : State) : ListMoves s (expireInch p s) := by
  unfold expireInch
  split
  · rename_i h; exact failStart_moves (by rw [h.1]; rfl)
  · exact .refl s

theorem endRunUp_moves (p : Side) (s : State) : ListMoves s (endRunUp p s) := by
  unfold endRunUp
  split
  · rename_i h; exact reachSpeed_moves h.1
  · exact .refl s

theorem expireRunUp_moves (p : Side) (s : State) : ListMoves s (expireRunUp p s) := by
  unfold expireRunUp
  split
  · rename_i h
    split
    · exact reachSpeed_moves h.1
    · exact failStart_moves (by rw [h.1]; rfl)
  · exact .refl s

theorem moveFilmLoss_moves (p : Side) (position : Contact) (s : State) : ListMoves s (moveFilmLoss p position s) := by
  have hmoved : ListMoves s (s.onProj p fun x => { x with filmLoss := position }) := .onProj rfl
  unfold moveFilmLoss
  dsimp only
  split
  · exact hmoved.trans (judgeFilmLoss_moves ..)
  · exact hmoved

theorem moveGate_moves (p : Side) (position : Contact) (s : State) : ListMoves s (moveGate p position s) := by
  have hmoved : ListMoves s (s.onProj p fun x => { x with gate := position }) := .onProj rfl
  unfold moveGate
  dsimp only
  split
  · rename_i h; exact hmoved.trans (gateTrip_moves h.2)
  · exact hmoved

theorem expireStall_moves (p : Side) (s : State) : ListMoves s (expireStall p s) := by
  unfold expireStall
  split
  · rename_i h; exact gateTrip_moves h.1
  · exact .refl s

theorem judgeStanding_moves (p : Side) (s : State) : ListMoves s (judgeStanding p s) := by
  have hcleared : ListMoves s (s.onProj p fun x => { x with lossCheck := false }) := .onProj rfl
  unfold judgeStanding
  dsimp only
  split
  · exact hcleared.trans (judgeFilmLoss_moves ..)
  · exact hcleared

theorem tickInch_moves (p : Side) (s : State) : ListMoves s (tickInch p s) := by
  unfold tickInch
  split
  · exact expireInch_moves ..
  · exact .onProj rfl

theorem tickRunUp_moves (p : Side) (s : State) : ListMoves s (tickRunUp p s) := by
  unfold tickRunUp
  (repeat' split)
  · exact endRunUp_moves ..
  · exact expireRunUp_moves ..
  · exact .onProj rfl

theorem projectorWork_moves (p : Side) (s : State) : ListMoves s (projectorWork p s) :=
  ((judgeStanding_moves p s).trans (tickInch_moves p _)).trans (tickRunUp_moves p _)

theorem gateWork_moves (p : Side) (s : State) : ListMoves s (gateWork p s) := by
  unfold gateWork
  dsimp only
  generalize (if (s.proj.get p).rate < stallRate then (s.proj.get p).stall + 1 else 0) = count
  split
  · split
    · exact gateTrip_moves ‹_›
    · exact .onProj rfl
  · exact .refl s

/-! ### Lamps (chapter 6) -/

theorem failAttempt_moves (l : Side) (amperes : Nat) (m : Moment) (s : State) :
    ListMoves s (failAttempt l amperes m s) := by
  unfold failAttempt failStrike
  dsimp only
  split
  · exact .of_eq rfl rfl rfl id
  · refine ListMoves.trans ?_ (raiseCondition_moves ..)
    exact (ListMoves.onLamp s l _).trans (lampToDark_moves ..)

theorem expireAttempt_moves (l : Side) (amperes : Nat) (m : Moment) (s : State) :
    ListMoves s (expireAttempt l amperes m s) := by
  unfold expireAttempt
  (repeat' split)
  · exact .of_eq rfl rfl rfl id
  · exact failAttempt_moves ..
  · exact .refl s

theorem tickAttempt_moves (l : Side) (amperes : Nat) (s : State) : ListMoves s (tickAttempt l amperes s) := by
  unfold tickAttempt
  (repeat' split)
  · exact .of_eq (by simp) (by simp) (by simp) (by simp)
  · exact expireAttempt_moves ..
  · exact .onLamp ..
  · exact .refl s

theorem lampWork_moves (l : Side) (amperes : Nat) (s : State) : ListMoves s (lampWork l amperes s) := by
  unfold lampWork firstReading
  (repeat' split)
  all_goals first | exact tickAttempt_moves .. | exact .of_eq (by simp) (by simp) (by simp) (by simp)

theorem expireArc_moves (l : Side) (amperes : Nat) (m : Moment) (s : State) :
    ListMoves s (expireArc l amperes m s) := by
  unfold expireArc
  split
  · exact (ListMoves.onLamp s l _).trans (loseArc_moves ..)
  · exact .refl s

theorem arcWatch_moves (l : Side) (amperes : Nat) (s : State) : ListMoves s (arcWatch l amperes s) := by
  unfold arcWatch
  split
  · split
    · exact expireArc_moves ..
    · exact .onLamp ..
  · exact .refl s

/-- A manual rate bears on no format check. -/
theorem formatCheck_manualRate (t : Settings) (l : Side) (rate : Nat) (records : List Reel) :
    formatCheck { t with lamp := t.lamp.set l { t.lamp.get l with manualRate := rate } } records =
      formatCheck t records := by
  refine formatCheck_settings ?_ ?_ (fun k => ?_) _
  · rfl
  · rfl
  · cases l <;> cases k <;> rfl

theorem convergeTrim_moves (l : Side) (rate : Nat) (s : State) : ListMoves s (convergeTrim l rate s) :=
  .of_checked rfl rfl rfl (formatCheck_manualRate s.store.working l rate _) id id

theorem failTrim_moves (l : Side) (s : State) : ListMoves s (failTrim l s) :=
  (ListMoves.onLamp s l _).trans (raiseCondition_moves ..)

theorem countTrim_moves (l : Side) (inBand : Bool) (s : State) : ListMoves s (countTrim l inBand s) := by
  unfold countTrim
  dsimp only
  split
  · split
    · exact convergeTrim_moves ..
    · split
      · exact failTrim_moves ..
      · exact .onLamp ..
  · exact .refl s

theorem feedInterval_moves (l : Side) (volts amperes : Nat) (m : Moment) (s : State) :
    ListMoves s (feedInterval l volts amperes m s) := by
  unfold feedInterval feedOnce
  split
  · refine ListMoves.trans ?_ (.onLamp _ l _)
    refine ListMoves.trans ?_ (.onLamp _ l _)
    exact (ListMoves.onLamp s l _).trans (countTrim_moves ..)
  · exact .refl s

theorem tickFeed_moves (l : Side) (volts amperes : Nat) (s : State) : ListMoves s (tickFeed l volts amperes s) := by
  unfold tickFeed
  split
  · exact feedInterval_moves ..
  · exact .onLamp ..

/-! ### Shutters, the link and the store (chapters 8 and 10) -/

theorem jammed_moves (q : Port) (s : State) : ListMoves s (raiseJam q (s.onShutter q Shutter.jammed)) := by
  have hjammed : ListMoves s (s.onShutter q Shutter.jammed) := .of_eq rfl rfl rfl id
  exact hjammed.trans (raiseCondition_moves ..)

theorem expireFall_moves (q : Port) (s : State) : ListMoves s (expireFall q s) := by
  unfold expireFall
  split
  · exact jammed_moves ..
  · exact .refl s

theorem expireRaise_moves (q : Port) (s : State) : ListMoves s (expireRaise q s) := by
  unfold expireRaise
  split
  · exact jammed_moves ..
  · exact .refl s

theorem tickShutter_moves (q : Port) (s : State) : ListMoves s (tickShutter q s) := by
  unfold tickShutter
  (repeat' split)
  · exact expireFall_moves ..
  · exact expireRaise_moves ..
  · exact .of_eq rfl rfl rfl id

theorem darkenPort_moves (q : Port) (s : State) : ListMoves s (darkenPort q s) := by
  unfold darkenPort
  (repeat' split)
  · exact .refl s
  · exact darkenScreen_moves ‹_›
  · exact .refl s

theorem loseLatch_moves (q : Port) (m : Moment) (s : State) : ListMoves s (loseLatch q m s) := by
  unfold loseLatch
  split
  · refine ListMoves.trans ?_ (raiseCondition_moves ..)
    refine ListMoves.trans ?_ (darkenPort_moves ..)
    exact .of_eq rfl rfl rfl id
  · exact .refl s

theorem openLink_moves (m : Moment) (s : State) : ListMoves s (openLink m s) := by
  refine ListMoves.trans ?_ (dropFire_moves ..)
  exact .of_eq rfl rfl rfl id

theorem judgeLink_moves (s : State) : ListMoves s (judgeLink s) := .of_eq (by simp) (by simp) (by simp) (by simp)

theorem finishSave_working (s : State) : (finishSave s).store.working = s.store.working := by
  unfold finishSave
  (repeat' split)
  · exact Store.write_working ..
  · rfl
  · rfl

theorem finishSave_moves (s : State) : ListMoves s (finishSave s) :=
  .of_eq (by simp) (by simp) (finishSave_working s) (by simp)

theorem tickSave_moves (s : State) : ListMoves s (tickSave s) :=
  .of_eq (by simp) (by simp) (tickSave_working s) (by simp)

/-! ### The changeover sequencer (chapters 4 and 5) -/

theorem expireDouse_moves (l : Side) (s : State) : ListMoves s (expireDouse l s) := by
  have hstopped : ListMoves s (s.onSeq fun q => { q with douse := q.douse.set l none }) := .onSeq id
  unfold expireDouse
  dsimp only
  (repeat' split)
  · exact hstopped
  · exact hstopped.trans (extinguishLamp_moves ..)
  · exact .refl s

theorem tickDouse_moves (l : Side) (s : State) : ListMoves s (tickDouse l s) := by
  unfold tickDouse
  split
  · exact expireDouse_moves ..
  · exact .onSeq id

/-- A projector that the swap point finds ready is RUNNING (R77). -/
theorem incomingReady_running {s : State} {i : Side} (h : s.incomingReady = some i) :
    (s.proj.get i).state = .running := by
  unfold State.incomingReady at h
  (repeat' split at h) <;> cases h
  rename_i hready
  exact ready_running hready.2

theorem automaticFade_moves (percent tenths : Nat) (s : State) : ListMoves s (automaticFade percent tenths s) :=
  .of_eq (by simp) (by simp) (by simp) (by simp)

theorem takeEnding_moves {o : Side} {s : State} (r : Reel) (m : Moment) (ho : s.onScreen o = true) :
    ListMoves s (takeEnding o r m s) := by
  have hended (percent tenths : Nat) : ListMoves s (startDouse o m (automaticFade percent tenths (leaveScreen o .runout s))) :=
    ((leaveScreen_runout_moves ho).trans (automaticFade_moves ..)).trans (startDouse_moves ..)
  unfold takeEnding
  (repeat' split)
  · exact hended ..
  · exact (hended ..).trans (automationOff_moves _)
  · exact swapScreens_moves m (incomingReady_running ‹_›) ho
  · exact (ListMoves.onSeq (s := s) (g := fun q => { q with swapDue := q.swapDue || s.incomingReel.isSome }) id).trans
      (raiseCondition_moves ..)

theorem reachSwapPoint_moves (m : Moment) (s : State) : ListMoves s (reachSwapPoint m s) := by
  unfold reachSwapPoint
  split
  · rename_i o r ho _
    split
    · exact .refl s
    · refine ListMoves.trans (t := s.onSeq fun q => { q with swapReached := true }) (.onSeq id) ?_
      exact takeEnding_moves r m (outgoing_onScreen ho)
  · exact .refl s

theorem swapPointTest_moves (m : Moment) (s : State) : ListMoves s (swapPointTest m s) := by
  unfold swapPointTest
  split
  · exact reachSwapPoint_moves ..
  · exact .refl s

theorem lateSwapTest_moves (m : Moment) (s : State) : ListMoves s (lateSwapTest m s) := by
  unfold lateSwapTest
  split
  · split
    · rename_i o i ho hi
      exact swapScreens_moves m (incomingReady_running hi) (outgoing_onScreen ho)
    · exact .refl s
  · exact .refl s

theorem withholdStrike_moves (w : Withholding) (d : Detail) (s : State) : ListMoves s (withholdStrike w d s) := by
  unfold withholdStrike
  split
  · exact .refl s
  · exact (ListMoves.onSeq (s := s) (g := fun q => { q with withholding := some w }) id).trans (raiseCondition_moves ..)

theorem automaticStrike_moves (l : Side) (m : Moment) (s : State) : ListMoves s (automaticStrike l m s) :=
  .of_eq (by simp) (by simp) (by simp) (by simp)

theorem strikeIncoming_moves (o : Side) (r : Reel) (m : Moment) (s : State) :
    ListMoves s (strikeIncoming o r m s) := by
  unfold strikeIncoming
  split
  · exact (automaticStrike_moves r.projector m s).trans (.onSeq id)
  · exact withholdStrike_moves ..

theorem startIncoming_moves (r : Reel) (m : Moment) (s : State) : ListMoves s (startIncoming r m s) :=
  (askStart_moves r.projector m s).trans (.onSeq id)

theorem unawareTest_moves {o : Side} {lead : Nat} {act : State → State} {s : State} (h : ListMoves s (act s)) :
    ListMoves s (unawareTest o lead act s) := by
  unfold unawareTest raiseUnordered
  (repeat' split)
  · exact .refl s
  · refine ListMoves.trans ?_ (raiseCondition_moves ..)
    exact .onSeq id
  · exact h
  · exact .refl s

theorem strikeTest_moves (m : Moment) (s : State) : ListMoves s (strikeTest m s) := by
  unfold strikeTest
  (repeat' split)
  · exact .refl s
  · exact unawareTest_moves (strikeIncoming_moves ..)
  · exact .refl s

theorem motorTest_moves (m : Moment) (s : State) : ListMoves s (motorTest m s) := by
  unfold motorTest
  split
  · exact .refl s
  · exact unawareTest_moves (startIncoming_moves ..)

theorem leadTests_moves (evaluated : Option Side) (s : State) : ListMoves s (leadTests evaluated s) := by
  have hstrike : ListMoves s (if s.outgoing = evaluated then strikeTest .atBoundary s else s) := by
    split
    · exact strikeTest_moves ..
    · exact .refl s
  unfold leadTests
  dsimp only
  generalize (if s.outgoing = evaluated then strikeTest .atBoundary s else s) = u at hstrike
  refine hstrike.trans ?_
  split
  · exact motorTest_moves ..
  · exact .refl _

theorem sequencerTests_moves (s : State) : ListMoves s (sequencerTests s) :=
  ((swapPointTest_moves _ s).trans (lateSwapTest_moves ..)).trans (leadTests_moves ..)

theorem showStartStrike_moves (p : Side) (m : Moment) (s : State) : ListMoves s (showStartStrike p m s) := by
  unfold showStartStrike
  (repeat' split)
  · exact .refl s
  · exact automaticStrike_moves ..
  · exact withholdStrike_moves ..
  · exact .refl s

theorem showStartFadeAndMotor_moves (p : Side) (m : Moment) (s : State) :
    ListMoves s (showStartFadeAndMotor p m s) := by
  unfold showStartFadeAndMotor
  split
  · refine ListMoves.trans ?_ (askStart_moves ..)
    exact (automaticFade_moves ..).trans (.onProj rfl)
  · exact .refl s

theorem openAllowed_running {p : Side} {s : State} (h : s.openAllowed p = true) : (s.proj.get p).state = .running := by
  simp only [State.openAllowed, Bool.and_eq_true] at h
  exact ready_running h.1

theorem showStartOpen_moves (p : Side) (s : State) : ListMoves s (showStartOpen p s) := by
  unfold showStartOpen
  (repeat' split)
  · exact .refl s
  · rename_i h; exact enterScreen_moves (openAllowed_running h.2.2)
  · exact .refl s

theorem showStartSteps_moves (p : Side) (s : State) : ListMoves s (showStartSteps p s) :=
  ((showStartStrike_moves p _ s).trans (showStartFadeAndMotor_moves p _ _)).trans (showStartOpen_moves p _)

/-- A change of records that neither the checks nor the statuses see. -/
theorem mapRecords_moves {f : Reel → Reel} (hchecked : ∀ r, (f r).checked = r.checked)
    (hprojector : ∀ r, (f r).projector = r.projector) (hstatus : ∀ r, (f r).status = r.status) (s : State) :
    ListMoves s (s.onReels fun x => { x with records := x.records.map f }) :=
  .of_checked (by simp [Function.comp_def, hchecked]) rfl rfl rfl id fun h p =>
    (boundStatuses_map hprojector hstatus ..).trans (h p)

theorem takeHouseCue_moves (r : Reel) (c : HouseCue) (s : State) : ListMoves s (takeHouseCue r c s) := by
  refine ListMoves.trans (mapRecords_moves ?_ ?_ ?_ s) (automaticFade_moves ..) <;> intro y <;> split <;> rfl

theorem judgeHouseCue_moves (s : State) : ListMoves s (judgeHouseCue s) := by
  unfold judgeHouseCue
  (repeat' split)
  · exact .refl s
  · exact takeHouseCue_moves ..
  · exact .refl s
  · exact .refl s

theorem learnEnd_moves (p : Side) (s : State) : ListMoves s (learnEnd p s) := by
  refine mapRecords_moves ?_ ?_ ?_ s <;> intro y <;> split <;> rfl

theorem setMarks_moves (p : Side) (n : Nat) (s : State) : ListMoves s (setMarks p n s) := .onProj rfl

theorem applyMotorCue_moves (m : Moment) (s : State) : ListMoves s (applyMotorCue m s) := by
  unfold applyMotorCue
  split
  · exact .refl s
  · exact startIncoming_moves ..

theorem countMotorCue_moves (p : Side) (m : Moment) (s : State) : ListMoves s (countMotorCue p m s) := by
  unfold countMotorCue
  dsimp only
  split
  · exact (setMarks_moves ..).trans (applyMotorCue_moves ..)
  · exact setMarks_moves ..

theorem countChangeoverCue_moves (p : Side) (m : Moment) (s : State) : ListMoves s (countChangeoverCue p m s) := by
  unfold countChangeoverCue
  dsimp only
  split
  · exact setMarks_moves ..
  · exact (setMarks_moves ..).trans (learnEnd_moves ..)
  · exact ((setMarks_moves ..).trans (learnEnd_moves ..)).trans (reachSwapPoint_moves ..)

theorem judgeMark_moves (p : Side) (m : Moment) (s : State) : ListMoves s (judgeMark p m s) := by
  unfold judgeMark
  (repeat' split)
  · exact raiseCondition_moves ..
  · exact countMotorCue_moves ..
  · exact countChangeoverCue_moves ..
  · exact .refl s

/-! ### A boundary (R1, R73) -/

theorem ownWork_moves (r : Readings) (s : State) : ListMoves s (ownWork r s) := by
  unfold ownWork
  dsimp only
  refine ListMoves.trans ?_ ((tickDouse_moves .a _).trans (tickDouse_moves .b _))
  refine ListMoves.trans ?_ ((judgeLink_moves _).trans (tickSave_moves _))
  refine ListMoves.trans ?_ ((tickShutter_moves .observation1 _).trans (tickShutter_moves .observation2 _))
  refine ListMoves.trans ?_ ((tickShutter_moves .a _).trans (tickShutter_moves .b _))
  refine ListMoves.trans ?_ ((tickFeed_moves .a ..).trans (tickFeed_moves .b ..))
  refine ListMoves.trans ?_ ((arcWatch_moves .a ..).trans (arcWatch_moves .b ..))
  refine ListMoves.trans ?_ ((gateWork_moves .a _).trans (gateWork_moves .b _))
  refine ListMoves.trans ?_ ((lampWork_moves .a ..).trans (lampWork_moves .b ..))
  refine ListMoves.trans ?_ ((projectorWork_moves .a _).trans (projectorWork_moves .b _))
  exact (ListMoves.onProj rfl).trans (.onProj rfl)

theorem judgeWindow_moves (s : State) : ListMoves s (judgeWindow s) := by
  unfold judgeWindow
  (repeat' split)
  · exact .refl s
  · exact .onProj rfl
  · exact .refl s

theorem evaluatedWork_moves (s : State) : ListMoves s (evaluatedWork s) := by
  refine ListMoves.trans ?_ (sequencerTests_moves _)
  refine ListMoves.trans ?_ ((judgeWindow_moves _).trans (judgeHouseCue_moves _))
  exact .of_eq (by simp) (by simp) (by simp) (by simp)

theorem boundary_moves (r : Readings) (s : State) : ListMoves s (boundary r s) := by
  have hstepped : ListMoves s (rampStep (ownWork r s)) :=
    (ownWork_moves r s).trans (.of_eq (by simp) (by simp) (by simp) (by simp))
  rw [boundary_eq]
  refine ListMoves.trans ?_ ((showStartSteps_moves .a _).trans (showStartSteps_moves .b _))
  split
  · exact hstepped.trans (.of_eq (by simp) (by simp) (by simp) (by simp))
  · exact hstepped.trans (evaluatedWork_moves _)

/-- Every event of the booth but power-on and the line's own moves the list with the projectors. -/
theorem exec_event_moves {c : Instr} {s t : State} (hr : requestOf c = none) (hl : isLineRow c = false)
    (he : exec c s = .next t) : ListMoves s t := by
  cases c
  all_goals first | (cases hr; done) | (cases hl; done) | obtain rfl := Host.Outcome.next.inj he
  case saveTimerExpiry => exact finishSave_moves s
  case tachometerPulse => exact countPulse_moves ..
  case inchDone => exact endInch_moves ..
  case inchTimerExpiry => exact expireInch_moves ..
  case runUpDone => exact endRunUp_moves ..
  case runUpTimerExpiry => exact expireRunUp_moves ..
  case cueMark => exact judgeMark_moves ..
  case swapPoint => exact swapPointTest_moves ..
  case lateSwap => exact lateSwapTest_moves ..
  case strikeTest => exact strikeTest_moves ..
  case motorTest => exact motorTest_moves ..
  case showStartStrike => exact showStartStrike_moves ..
  case showStartFadeAndMotor => exact showStartFadeAndMotor_moves ..
  case showStartOpen => exact showStartOpen_moves ..
  case houseCueReached => exact judgeHouseCue_moves ..
  case douseTimerExpiry => exact expireDouse_moves ..
  case attemptTimerExpiry => exact expireAttempt_moves ..
  case arcLoss => exact expireArc_moves ..
  case feedInterval => exact feedInterval_moves ..
  case highClampAdjust => split <;> first | exact .onLamp .. | exact .refl s
  case lowClampAdjust => split <;> first | exact .onLamp .. | exact .refl s
  case trimConverged => split <;> first | exact convergeTrim_moves .. | exact .refl s
  case trimFailed => split <;> first | exact failTrim_moves .. | exact .refl s
  case filmLossSwitch => exact moveFilmLoss_moves ..
  case gateThermalOpen => exact moveGate_moves ..
  case stallTrip => exact expireStall_moves ..
  case fireLinkOpen => exact openLink_moves ..
  case fallTimerExpiry => exact expireFall_moves ..
  case raiseTimerExpiry => exact expireRaise_moves ..
  case shutterLatchLetGo => exact loseLatch_moves ..
  case settlingTimerExpiry | arcEstablished | waitTimerExpiry | warmTimerExpiry | fireLinkIntact | shutterDownSwitch
    | shutterUpSwitch => exact .of_eq (by simp) (by simp) (by simp) (by simp)

end Sys2Proof.Machine
end

section
/-! An invariant of the booth that looks at none of the line, the rotation and the queue of commands is kept by every step
once the works of the requests, the events, the boundary, power-on and a raise keep it. -/

namespace Sys2Proof.Machine

open Sys2Proof

/-- What the booth does keeps `P`, and `P` looks at nothing else. -/
structure KeptByBooth (P : State → Prop) : Prop where
  line : ∀ {s t : State}, t = { s with line := t.line, rotation := t.rotation, pending := t.pending } → P s → P t
  raise : ∀ (k : Condition) (d : Detail) {s : State}, P s → P (raiseCondition k d s)
  work : ∀ (c : Instr) {s : State}, P s → P (rowWork c s).1
  event : ∀ {c : Instr} {s t : State}, requestOf c = none → isLineRow c = false → exec c s = .next t → P s → P t
  boundary : ∀ (r : Readings) {s : State}, P s → P (boundary r s)
  powerUp : ∀ (x : PowerOnSensed) {s : State}, P s → P (powerUp x s)

namespace KeptByBooth

variable {P : State → Prop} {s : State}

theorem judged {work : State → Judged} (hw : P s → P (work s).1) (n : Station) (k : Kind) (t : Target)
    (hs : P s) : P (judge n k t work s).1 := by
  unfold judge
  (repeat' split) <;> first | exact hw hs | exact hs

theorem handled (h : KeptByBooth P) (n : Station) (e : Entry) (hs : P s) : P (handleEntry n e s).1 := by
  have hwork (k : Kind) (t : Target) (d : List Nat) : P s → P (workOf n k t d s).1 := by
    obtain ⟨c, -, hc⟩ | hc := workOf_eq_rowWork n k t d <;> rw [hc]
    · exact h.work c
    · exact id
  unfold handleEntry serveEntry
  (repeat' split)
  · exact hs
  · exact hs
  · exact judged (hwork _ _ _) _ _ _ hs

theorem answered (h : KeptByBooth P) {x : Judged} (n : Station) (kind : Nat) (hx : P x.1) : P (queueAnswer n kind x) :=
  h.line rfl hx

theorem lost (h : KeptByBooth P) (n : Station) (hs : P s) : P (loseForStation n s) :=
  h.raise _ _ (h.line rfl hs)

theorem answeredPriority (h : KeptByBooth P) {x : Judged} (n : Station) (kind : Nat) (hx : P x.1) :
    P (queuePriorityAnswer n kind x) := by
  unfold queuePriorityAnswer
  split
  · exact h.answered n kind hx
  · exact h.lost n hx

theorem taken (h : KeptByBooth P) {work : State → Judged} {n : Station} {k : Kind} {t : Target} {u : State}
    (hw : P s → P (work s).1) (hs : P s) (he : takeAs n k t work s = .next u) : P u := by
  have hj := judged hw n k t hs
  unfold takeAs takePriority takeRequest at he
  split at he <;> injection he with he <;> subst he <;> split
  · exact hs
  · exact h.answeredPriority _ _ hj
  · exact h.answered _ _ hj
  · exact hs

theorem arrived (h : KeptByBooth P) (e : Entry) (hs : P s) : P (arrive e s) := by
  have hjoined : P (s.onStation e.station fun x => x.withQueue (x.queue ++ [e])) := h.line rfl hs
  unfold arrive joinQueue
  dsimp only
  (repeat' split)
  · exact h.line rfl hs
  · exact h.raise _ _ hjoined
  · exact hjoined
  · exact h.lost _ hs

theorem takenNext (h : KeptByBooth P) (hs : P s) : P (takeNext s) := by
  unfold takeNext takeFrom
  (repeat' split) <;> try exact hs
  exact h.answered _ _ (h.handled _ _ (h.line (s := s) rfl hs))

theorem takenPriority (h : KeptByBooth P) (hs : P s) : P (takePriorityNext s) := by
  unfold takePriorityNext
  split
  · exact hs
  · exact h.answeredPriority _ _ (h.handled _ _ (h.line (s := s) rfl hs))

theorem lineRow (h : KeptByBooth P) {c : Instr} {t : State} (hl : isLineRow c = true) (he : exec c s = .next t)
    (hs : P s) : P t := by
  cases c
  case powerOn x => exact Host.Outcome.next.inj he ▸ h.powerUp x hs
  case linePeriodBoundary r => exact Host.Outcome.next.inj he ▸ h.boundary r hs
  case requestSlot n slot =>
    obtain rfl := Host.Outcome.next.inj he
    split
    · exact hs
    · exact h.arrived _ hs
  case lineBreak =>
    obtain rfl := Host.Outcome.next.inj he
    unfold breakLine
    split
    · exact hs
    · exact h.raise _ _ (h.line rfl hs)
  case lineBreakEnd => exact Host.Outcome.next.inj he ▸ h.line rfl hs
  case takeEntry => exact Host.Outcome.next.inj he ▸ h.takenNext hs
  case takePriorityEntry => exact Host.Outcome.next.inj he ▸ h.takenPriority hs
  all_goals nomatch hl

/-- Every step keeps what the booth keeps. -/
theorem step (h : KeptByBooth P) {t : State} (hs : P s) (hstep : Machine.step s = .next t) : P t := by
  unfold Machine.step at hstep
  split at hstep
  · injection hstep with hstep
    exact hstep ▸ hs
  · rename_i c rest _
    have hrest : P { s with pending := rest } := h.line rfl hs
    cases hreq : requestOf c with
    | some x =>
      obtain ⟨n, k, target⟩ := x
      rw [exec_eq_takeAs hreq] at hstep
      exact h.taken (h.work c) hrest hstep
    | none =>
      cases hline : isLineRow c with
      | true => exact h.lineRow hline hstep hrest
      | false => exact h.event hreq hline hstep hrest

end KeptByBooth

end Sys2Proof.Machine
end

section
/-! Every step keeps the reel list in agreement with the projectors, and the format code true (R41, R42, R44, R45, R54,
R55). -/

namespace Sys2Proof.Machine

open Sys2Proof

/-! ### A sound list -/

/-- The list alone: at most 24 records, distinct numbers, fields in range (R41, R42). -/
structure SoundList (records : List Reel) : Prop where
  length : records.length ≤ listDepth
  nodup : (records.map Reel.number).Nodup
  range : ∀ r ∈ records, r.inRange = true

theorem listSafe_iff (s : State) : s.ListSafe ↔ SoundList s.reels.records ∧ s.Agrees := by
  constructor
  · rintro ⟨hlength, hnodup, hrange, ha, hb⟩
    exact ⟨⟨hlength, hnodup, List.all_eq_true.1 hrange⟩, fun p => by cases p <;> assumption⟩
  · rintro ⟨⟨hlength, hnodup, hrange⟩, hagrees⟩
    exact ⟨hlength, hnodup, List.all_eq_true.2 hrange, hagrees .a, hagrees .b⟩

namespace SoundList

variable {l l' : List Reel}

theorem of_entered (h : l'.map Reel.entered = l.map Reel.entered) (hl : SoundList l) : SoundList l' where
  length := by
    have hlength := congrArg List.length h
    rw [List.length_map, List.length_map] at hlength
    exact hlength ▸ hl.length
  nodup := by
    have hnumbers := congrArg (List.map Reel.number) h
    rw [List.map_map, List.map_map] at hnumbers
    exact (hnumbers : l'.map Reel.number = l.map Reel.number) ▸ hl.nodup
  range r hr := by
    obtain ⟨x, hx, hxr⟩ := List.mem_map.1 (h ▸ List.mem_map_of_mem (f := Reel.entered) hr)
    have hsame : x.entered.inRange = r.entered.inRange := congrArg Reel.inRange hxr
    exact hsame.symm.trans (hl.range x hx)

theorem sublist (h : l'.Sublist l) (hl : SoundList l) : SoundList l' :=
  ⟨h.length_le.trans hl.length, hl.nodup.sublist (h.map _), fun r hr => hl.range r (h.subset hr)⟩

/-- A record of a new number in range joins a list with room, at any place. -/
theorem join {front back : List Reel} {r : Reel} (hl : SoundList (front ++ back))
    (hroom : (front ++ back).length < listDepth) (hnew : ∀ y ∈ front ++ back, y.number ≠ r.number)
    (hr : r.inRange = true) : SoundList (front ++ r :: back) where
  length := by simp only [List.length_append, List.length_cons] at hroom ⊢; omega
  nodup := by
    refine (List.perm_middle.map Reel.number).nodup_iff.2 (List.nodup_cons.2 ⟨fun hmem => ?_, hl.nodup⟩)
    obtain ⟨y, hy, hnumber⟩ := List.mem_map.1 hmem
    exact hnew y hy hnumber
  range y hy := by
    obtain rfl | hy := List.mem_cons.1 (List.perm_middle.mem_iff.1 hy)
    · exact hr
    · exact hl.range y hy

/-- A named record stands alone under its number. -/
theorem split {n : Nat} {r : Reel} (hl : SoundList l) (hfound : findReel l n = some r) :
    r.number = n ∧ ∃ front back, l = front ++ r :: back ∧ ∀ y ∈ front ++ back, y.number ≠ n := by
  obtain ⟨hnumber, front, back, rfl, hfront⟩ := List.find?_eq_some_iff_append.1 hfound
  have hn : r.number = n := by simpa using hnumber
  have hnodup := (List.perm_middle.map Reel.number).nodup_iff.1 hl.nodup
  refine ⟨hn, front, back, rfl, fun y hy he => (List.nodup_cons.1 hnodup).1 ?_⟩
  exact List.mem_map.2 ⟨y, hy, he.trans hn.symm⟩

end SoundList

theorem boundStatuses_append (l l' : List Reel) (p : Side) :
    boundStatuses (l ++ l') p = boundStatuses l p ++ boundStatuses l' p := by
  simp [boundStatuses]

theorem boundStatuses_cons_of_free {r : Reel} {p : Side} (h : r.projector = p → r.isBound = false) (l : List Reel) :
    boundStatuses (r :: l) p = boundStatuses l p := by
  rw [boundStatuses, List.filter_cons_of_neg (by simpa using h)]; rfl

theorem boundStatuses_cons_of_bound {r : Reel} (h : r.isBound = true) (l : List Reel) :
    boundStatuses (r :: l) r.projector = r.status :: boundStatuses l r.projector := by
  rw [boundStatuses, List.filter_cons_of_pos (by simpa using h)]; rfl

theorem boundStatuses_middle_of_free {r : Reel} {p : Side} (h : r.projector = p → r.isBound = false)
    (front back : List Reel) : boundStatuses (front ++ r :: back) p = boundStatuses (front ++ back) p := by
  rw [boundStatuses_append, boundStatuses_append, boundStatuses_cons_of_free h]

theorem boundStatuses_of_none_bound {l : List Reel} (h : ∀ r ∈ l, r.isBound = false) (p : Side) :
    boundStatuses l p = [] := by
  have hfilter : l.filter (fun r => decide (r.projector = p) && r.isBound) = [] :=
    List.filter_eq_nil_iff.2 fun r hr => by simp [h r hr]
  rw [boundStatuses, hfilter]; rfl

theorem ListMoves.listSafe {s t : State} (h : ListMoves s t) (hs : s.ListSafe) : t.ListSafe := by
  rw [listSafe_iff] at hs ⊢
  exact ⟨hs.1.of_entered h.entered, h.agrees hs.2⟩

/-- A change at the records of one number is one at the record that bears it. -/
theorem map_at_number {front back : List Reel} {r : Reel} {f : Reel → Reel}
    (h : ∀ y ∈ front ++ back, y.number ≠ r.number) :
    (front ++ r :: back).map (fun y => if y.number = r.number then f y else y) = front ++ f r :: back := by
  have hkept {l : List Reel} (hl : ∀ y ∈ l, y.number ≠ r.number) :
      l.map (fun y => if y.number = r.number then f y else y) = l :=
    (List.map_congr_left fun y hy => if_neg (hl y hy)).trans (List.map_id _)
  rw [List.map_append, List.map_cons, if_pos rfl, hkept fun y hy => h y (List.mem_append_left _ hy),
    hkept fun y hy => h y (List.mem_append_right _ hy)]

/-! ### The settings (R170, R175) -/

theorem applySettings_working (t : Settings) (s : State) : (applySettings t s).store.working = t := by
  unfold applySettings; dsimp only; (repeat' split) <;> rfl

/-- The format evaluated on a list whose records stand, where its code lets automation stand (R55). -/
theorem evaluateFormat_moves {s t : State} (hrecords : t.reels.records = s.reels.records) (hproj : t.proj = s.proj)
    (hcode : (formatCheck t.store.working t.reels.records).1 ≠ 0 → t.seq.automation = .off) :
    ListMoves s (evaluateFormat t) where
  entered := by simp [hrecords]
  agrees h := by simpa [State.Agrees, hrecords, hproj] using h
  format _ := ⟨rfl, hcode⟩

/-- A setting that does not make the list evaluate the format leaves what the checks look at (R170). -/
theorem formatCheck_change {n : Nat} (h : formatEvaluating n = false) (t : Settings) (v : Nat) (records : List Reel) :
    formatCheck (t.change n v) records = formatCheck t records := by
  have hn : n ≠ 1 ∧ n ≠ 2 ∧ n ≠ 15 ∧ n ≠ 25 := by simpa [formatEvaluating] using h
  have hwarm (x : LampSettings) {k : Nat} (hk : k ≠ 9) : (x.change k v).warm = x.warm := by
    unfold LampSettings.change; split <;> first | rfl | exact absurd rfl hk
  unfold Settings.change
  split
  · rename_i l k hlamp
    have hk : k ≠ 9 := by
      unfold lampSetting at hlamp
      (repeat' split at hlamp) <;> cases hlamp <;> omega
    refine formatCheck_settings ?_ ?_ (fun m => ?_) records
    · rfl
    · rfl
    · cases l <;> cases m <;> first | exact hwarm _ hk | rfl
  · split
    · exact absurd rfl hn.1
    · exact absurd rfl hn.2.1
    all_goals first | rfl | (split <;> rfl)

theorem changeSettingWork_moves (n value : Nat) (s : State) : ListMoves s (changeSettingWork n value s).1 := by
  unfold changeSettingWork
  dsimp only
  split
  · rw [settingReply_fst]; exact .refl s
  · split
    · exact .refl s
    · rename_i htrial
      rw [settingReply_fst]
      split
      · rename_i heval
        refine evaluateFormat_moves (by simp) (by simp) fun hcode => ?_
        have hbearing : formatBearing n = true := by
          simp only [formatEvaluating, formatBearing, List.contains_iff_mem, List.mem_cons, List.not_mem_nil,
            or_false] at heval ⊢
          omega
        rw [applySettings_working, (applySettings_frame _ s).2.2.1] at hcode
        rw [(applySettings_frame _ s).2.2.2.2.1]
        by_contra hoff
        exact htrial ⟨hoff, hbearing, hcode⟩
      · rename_i heval
        refine .of_checked (by simp) (by simp) (by simp) ?_ (by simp) fun h => by simpa [State.Agrees] using h
        rw [applySettings_working]
        exact formatCheck_change (Bool.eq_false_iff.2 heval) ..

theorem setValueArcWork_moves (l : Side) (rate : Nat) (s : State) : ListMoves s (setValueArcWork l rate s).1 := by
  unfold setValueArcWork
  dsimp only
  split
  · exact .of_checked rfl rfl rfl (formatCheck_manualRate s.store.working l _ _) id id
  · exact .refl s

theorem loadPresetWork_moves (n : Nat) (s : State) : ListMoves s (loadPresetWork n s).1 := by
  unfold loadPresetWork
  dsimp only
  (repeat' split)
  · exact .refl s
  · exact .refl s
  · exact .refl s
  · rename_i hoff
    exact evaluateFormat_moves (by simp) (by simp) fun _ => by simpa using (not_or.1 hoff).2

/-! ### The other works that edit nothing -/

theorem unloadWork_moves (p : Side) (s : State) : ListMoves s (unloadWork p s).1 := by
  unfold unloadWork
  split
  · rename_i h
    have hunloaded : ListMoves s (setBoundStatus p .waiting (s.onProj p Projector.unloaded)) :=
      onProj_setBoundStatus_moves rfl rfl
    exact hunloaded.trans (settleWithholding_moves _)
  · rename_i h
    exact (ListMoves.onProj (g := Projector.unloaded) (by rw [h]; rfl)).trans (settleWithholding_moves _)
  · rename_i h
    exact (ListMoves.onProj (g := Projector.unloaded) (by rw [h]; rfl)).trans (settleWithholding_moves _)
  · exact .refl s

theorem inchWork_moves (frames : Nat) (p : Side) (s : State) : ListMoves s (inchWork frames p s).1 := by
  unfold inchWork
  (repeat' split)
  · exact .refl s
  · rename_i h; exact .onProj (g := fun x => x.inching frames .between) (by rw [h.1]; rfl)
  · exact .refl s

theorem startWork_moves (p : Side) (s : State) : ListMoves s (startWork p s).1 := by
  unfold startWork
  split
  · exact startMotor_moves _ (startAllowed_state ‹_›)
  · exact .refl s

theorem stopWork_moves (p : Side) (s : State) : ListMoves s (stopWork p s).1 := by
  unfold stopWork
  (repeat' split)
  · exact stopProjector_moves ‹_›
  · exact clearStart_moves ..
  · exact .refl s

theorem openWork_moves (p : Side) (s : State) : ListMoves s (openWork p s).1 := by
  unfold openWork
  split
  · exact enterScreen_moves (openAllowed_running ‹_›)
  · exact .refl s

theorem swapWork_moves (p : Side) (s : State) : ListMoves s (swapWork p s).1 := by
  unfold swapWork
  split
  · rename_i h; exact swapScreens_moves _ (ready_running h.1) h.2
  · exact .refl s

theorem engageWork_moves (s : State) : ListMoves s (engageWork s).1 := by
  unfold engageWork
  (repeat' split)
  · exact .refl s
  · exact .refl s
  · exact .refl s
  · rename_i hcode _
    exact ⟨rfl, id, fun h => ⟨h.1, fun hne => absurd hne hcode⟩⟩

theorem resumeWork_moves (s : State) : ListMoves s (resumeWork s).1 := by
  unfold resumeWork
  split
  · rename_i hhalted
    refine ⟨rfl, id, fun h => ⟨h.1, fun hne => ?_⟩⟩
    rw [h.2 hne] at hhalted
    cases hhalted.1
  · exact .refl s

theorem startShowWork_moves (s : State) : ListMoves s (startShowWork s).1 := by
  unfold startShowWork
  (repeat' split)
  · exact .refl s
  · exact .onProj (g := fun x => { x with startPending := true }) rfl
  · exact .refl s

theorem disengageWork_moves (s : State) : ListMoves s (disengageWork s).1 := by
  unfold disengageWork
  split
  · exact .refl s
  · exact automationOff_moves s

theorem stopAllWork_moves (s : State) : ListMoves s (stopAllWork s).1 := by
  have hstopped := ((((emergencyStop_moves .a s).trans (emergencyStop_moves .b _)).trans (halted_moves _)).trans
    (settleWithholding_moves _))
  unfold stopAllWork
  dsimp only
  split
  · exact hstopped.trans (.of_eq rfl rfl rfl id)
  · exact hstopped

theorem alertWork_moves (n : Station) (s : State) : ListMoves s (alertWork n s).1 := by
  have halert : ListMoves s (setFireState .alert s) := .of_eq rfl rfl rfl id
  unfold alertWork
  split
  · exact halert.trans (raiseCondition_moves ..)
  · exact .refl s
  · exact .refl s

/-- A work on a lamp, whatever the target. -/
theorem onArc_moves {work : Side → State → Judged} {s : State} (h : ∀ l, ListMoves s (work l s).1) (t : Target) :
    ListMoves s (onArc t work s).1 := by
  unfold onArc; split
  · exact h _
  · exact .refl s

/-- A work on a projector, whatever the target. -/
theorem onProjector_moves {work : Side → State → Judged} {s : State} (h : ∀ p, ListMoves s (work p s).1) (t : Target) :
    ListMoves s (onProjector t work s).1 := by
  unfold onProjector; split
  · exact h _
  · exact .refl s

/-- The rows that edit the list, bind a record of it by its number, or empty it. -/
def isListRow : Instr → Bool
  | .load .. | .add .. | .insert .. | .remove .. | .reelCue .. | .clearList .. | .repeatShow .. | .skipReel ..
  | .generalReset .. => true
  | _ => false

/-- Every other request moves the list with the projectors. -/
theorem rowWork_moves {c : Instr} (h : isListRow c = false) (s : State) : ListMoves s (rowWork c s).1 := by
  have hkept {t : State} (hreels : t.reels = s.reels) (hproj : t.proj = s.proj) (hstore : t.store = s.store)
      (hseq : t.seq = s.seq) : ListMoves s t := .of_eq hreels hproj (by rw [hstore]) (by rw [hseq]; exact id)
  cases c
  case load | add | insert | remove | reelCue | clearList | repeatShow | skipReel | generalReset => nomatch h
  case setMode =>
    change ListMoves s (setModeWork _ _ s).1
    unfold setModeWork setLightMode setArcMode
    (repeat' split) <;> exact hkept rfl rfl rfl rfl
  case setValueHouse =>
    change ListMoves s (setValueLightWork _ _ _ s).1
    unfold setValueLightWork
    (repeat' split) <;> exact hkept rfl rfl rfl rfl
  case setValueArc => exact setValueArcWork_moves ..
  case setValueSetting =>
    change ListMoves s (setValueSettingWork _ _ s).1
    unfold setValueSettingWork
    split
    · exact setValueArcWork_moves ..
    · exact changeSettingWork_moves ..
  case setTarget =>
    change ListMoves s (setTargetWork _ _ _ s).1
    unfold setTargetWork setTargetLight
    (repeat' split) <;> exact hkept rfl rfl rfl rfl
  case strike =>
    refine onArc_moves (fun l => ?_) _
    unfold strikeWork
    split
    · exact .of_eq (by simp) (by simp) (by simp) (by simp)
    · exact .refl s
  case extinguish => exact onArc_moves (fun l => extinguishLamp_moves l s) _
  case newRod =>
    refine onArc_moves (fun l => ?_) _
    unfold newRodWork
    (repeat' split) <;> exact hkept rfl rfl rfl rfl
  case unload => exact onProjector_moves (fun p => unloadWork_moves p s) _
  case inch => exact onProjector_moves (fun p => inchWork_moves _ p s) _
  case start => exact onProjector_moves (fun p => startWork_moves p s) _
  case stop => exact onProjector_moves (fun p => stopWork_moves p s) _
  case openDowser => exact onProjector_moves (fun p => openWork_moves p s) _
  case swap => exact onProjector_moves (fun p => swapWork_moves p s) _
  case engage => exact engageWork_moves s
  case disengage => exact disengageWork_moves s
  case startShow => exact startShowWork_moves s
  case resume => exact resumeWork_moves s
  case stopAll => exact stopAllWork_moves s
  case alert n _ => exact alertWork_moves n s
  case drop => exact dropFire_moves ..
  case loadPreset => exact loadPresetWork_moves ..
  case inquire =>
    change ListMoves s (inquireWork _ _ s).1
    unfold inquireWork
    split <;> exact .refl s
  case read =>
    change ListMoves s (readWork _ _ s).1
    unfold readWork
    split <;> exact .refl s
  case readReel =>
    change ListMoves s (readReelWork _ s).1
    unfold readReelWork
    split <;> exact .refl s
  case readConditions =>
    change ListMoves s (readConditionsWork _ _ s).1
    unfold readConditionsWork
    (repeat' split) <;> exact .refl s
  case clearConditions =>
    change ListMoves s (clearConditionsWork _ s).1
    unfold clearConditionsWork
    (repeat' split) <;> exact hkept rfl rfl rfl rfl
  case lockStation =>
    change ListMoves s (lockWork _ s).1
    unfold lockWork
    (repeat' split) <;> exact hkept rfl rfl rfl rfl
  case unlockStation =>
    change ListMoves s (unlockWork _ s).1
    unfold unlockWork
    (repeat' split) <;> exact hkept rfl rfl rfl rfl
  case fireClear =>
    change ListMoves s (fireClearWork s).1
    unfold fireClearWork
    (repeat' split) <;> exact hkept rfl rfl rfl rfl
  case fireAck =>
    change ListMoves s (fireAckWork s).1
    unfold fireAckWork
    (repeat' split) <;> exact hkept rfl rfl rfl rfl
  case raise =>
    change ListMoves s (raiseWork _ s).1
    unfold raiseWork
    (repeat' split) <;> exact hkept rfl rfl rfl rfl
  case savePreset =>
    change ListMoves s (savePresetWork _ s).1
    unfold savePresetWork
    (repeat' split) <;> exact .of_eq rfl rfl rfl id
  all_goals exact .refl s

end Sys2Proof.Machine
end

section
/-! The requests on the list itself: LOAD, the seven edits and GENERAL_RESET (R46, R48 to R53, R177). -/

namespace Sys2Proof.Machine

open Sys2Proof

/-! ### What the requests look up -/

theorem findReel_of_namedReel {s : State} {n : Nat} {r : Reel} (h : namedReel s n = some r) :
    findReel s.reels.records n = some r := by
  unfold namedReel at h
  split at h
  · exact h
  · cases h

theorem loadAllowed_iff {s : State} {p : Side} {r : Reel} :
    s.loadAllowed p r = true ↔ (s.proj.get p).state = .idle ∧ r.projector = p
      ∧ (r.status = .waiting ∨ r.status = .interrupted)
      ∧ (s.seq.automation = .engaged → (nextFor s.reels.records p).map Reel.number = some r.number) := by
  simp [State.loadAllowed, and_assoc, imp_iff_not_or]

theorem listFree_iff {s : State} :
    s.listFree = true ↔ s.seq.automation = .off ∧ ∀ r ∈ s.reels.records, r.isBound = false := by
  simp [State.listFree]

theorem findReel_isSome_iff {records : List Reel} {n : Nat} :
    (findReel records n).isSome = true ↔ ∃ r ∈ records, r.number = n := by
  simp [findReel, List.find?_isSome]

theorem ofCode_isNone_iff {n : Nat} : (Side.ofCode n).isNone = true ↔ n ≠ 1 ∧ n ≠ 2 := by
  unfold Side.ofCode; split <;> simp_all

/-- The first of five faults in turn, where the order number skips one before the last. -/
theorem firstFault_iff {a b c d e : Prop} [Decidable a] [Decidable b] [Decidable c] [Decidable d] [Decidable e]
    (first k : Nat) :
    (if a then some first else if b then some (first + 1) else if c then some (first + 2)
      else if d then some (first + 3) else if e then some (first + 5) else none) = some k
      ↔ a ∧ k = first ∨ ¬a ∧ b ∧ k = first + 1 ∨ ¬a ∧ ¬b ∧ c ∧ k = first + 2
        ∨ ¬a ∧ ¬b ∧ ¬c ∧ d ∧ k = first + 3 ∨ ¬a ∧ ¬b ∧ ¬c ∧ ¬d ∧ e ∧ k = first + 5 := by
  split
  · simp_all [eq_comm]
  · split
    · simp_all [eq_comm]
    · split
      · simp_all [eq_comm]
      · split
        · simp_all [eq_comm]
        · split <;> simp_all [eq_comm]

/-- The first refused field of a reel entry (R49). -/
theorem entryFault_eq_some_iff {s : State} {x : ReelEntry} {first k : Nat} :
    entryFault first s.reels.records x = some k ↔ s.EntryFault x first k := by
  simp only [entryFault, findReel_isSome_iff, ofCode_isNone_iff]
  rw [firstFault_iff]
  simp only [maxF, not_lt (b := x.leader), and_assoc, State.EntryFault]

theorem entryFault_eq_none_iff {s : State} {x : ReelEntry} {first : Nat} :
    entryFault first s.reels.records x = none ↔ s.EntryGood x := by
  simp only [entryFault, findReel_isSome_iff, ofCode_isNone_iff]
  constructor
  · intro h
    repeat' split at h
    case isFalse hreel hside hend hleader hboth =>
      push Not at hreel hend
      exact ⟨hreel.1, hreel.2.1, hreel.2.2, by tauto, hend.1, hend.2, not_lt.1 hleader, hboth⟩
    all_goals cases h
  · rintro ⟨hleast, hmost, hnew, hside, hend, hend', hleader, hboth⟩
    have hold : ¬∃ r ∈ s.reels.records, r.number = x.reel := fun ⟨r, hr, h⟩ => hnew r hr h
    rw [if_neg fun h => by obtain h | h | h := h <;> first | omega | exact hold h, if_neg (by omega),
      if_neg (by unfold maxF; omega), if_neg (by omega), if_neg hboth]

theorem enteredReel_inRange {s : State} {x : ReelEntry} (h : s.EntryGood x) : (enteredReel x).inRange = true := by
  obtain ⟨hleast, hmost, -, -, hend, hend', hleader, hboth⟩ := h
  have hnot : (x.last && x.intermission) = false := by simpa using hboth
  simp [enteredReel, newReel, Reel.inRange, maxF, hleast, hmost, hend, hend', hleader, hnot]

/-! ### The list that an edit leaves -/

theorem insertBefore_eq {front back : List Reel} {r : Reel} (h : ∀ y ∈ front, y.number ≠ r.number) (x : Reel) :
    insertBefore (front ++ r :: back) r.number x = front ++ x :: r :: back := by
  have hfront : ∀ y ∈ front, (y.number != r.number) = true := by simpa using h
  simp [insertBefore, List.takeWhile_append_of_pos hfront, List.dropWhile_append_of_pos hfront]

theorem filter_number {front back : List Reel} {r : Reel} (h : ∀ y ∈ front ++ back, y.number ≠ r.number) :
    (front ++ r :: back).filter (fun y => y.number != r.number) = front ++ back := by
  rw [List.filter_append, List.filter_cons_of_neg (by simp), ← List.filter_append, List.filter_eq_self]
  simpa using h

@[simp] theorem Reel.repeated_isBound (r : Reel) : r.repeated.isBound = r.isBound := by
  unfold Reel.repeated Reel.isBound; cases r.status <;> rfl

namespace SoundList

variable {l : List Reel}

theorem nil : SoundList [] := ⟨Nat.zero_le _, List.nodup_nil, fun _ h => nomatch h⟩

/-- A change at some records that keeps their numbers and ranges. -/
theorem map {f : Reel → Reel} (hnumber : ∀ r, (f r).number = r.number) (hrange : ∀ r, (f r).inRange = r.inRange)
    (hl : SoundList l) : SoundList (l.map f) where
  length := by simpa using hl.length
  nodup := by
    have hsame : (l.map f).map Reel.number = l.map Reel.number := by simp [Function.comp_def, hnumber]
    exact hsame ▸ hl.nodup
  range r hr := by
    obtain ⟨x, hx, rfl⟩ := List.mem_map.1 hr
    exact (hrange x).trans (hl.range x hx)

end SoundList

/-- A record at another status that binds no more than the one before leaves the bound statuses. -/
theorem boundStatuses_become_free {front back : List Reel} {r : Reel} {f : Reel → Reel}
    (hfree : r.isBound = false) (hfree' : (f r).isBound = false) (h : ∀ y ∈ front ++ back, y.number ≠ r.number)
    (p : Side) :
    boundStatuses ((front ++ r :: back).map fun y => if y.number = r.number then f y else y) p
      = boundStatuses (front ++ r :: back) p := by
  rw [map_at_number h, boundStatuses_middle_of_free fun _ => hfree', boundStatuses_middle_of_free fun _ => hfree]

/-! ### LOAD (R46) -/

/-- The binding of a record to its IDLE projector. -/
theorem bindReel_moves {s t : State} {r : Reel} {p : Side} (hs : SoundList s.reels.records)
    (hfound : findReel s.reels.records r.number = some r) (hp : r.projector = p)
    (hst : r.status = .waiting ∨ r.status = .interrupted) (hidle : (s.proj.get p).state = .idle)
    (hreels : t.reels = (setReelStatus r.number .bound s).reels) (hstate : (t.proj.get p).state = .threaded)
    (hother : (t.proj.get p.other).state = (s.proj.get p.other).state) (hstore : t.store = s.store)
    (hseq : t.seq.automation = s.seq.automation) : ListMoves s t := by
  obtain ⟨-, front, back, hrecords, halone⟩ := hs.split hfound
  have hfree : r.isBound = false := by obtain h | h := hst <;> rw [Reel.isBound_eq, h] <;> rfl
  have hbound : t.reels.records = front ++ { r with status := .bound } :: back := by
    rw [hreels]; show s.reels.records.map _ = _; rw [hrecords]; exact map_at_number halone
  refine .of_checked ?_ (by rw [hreels]; rfl) (by rw [hreels]; rfl) (by rw [hstore]) (by rw [hseq]; exact id)
    fun hagrees q => ?_
  · have hchecked : ({ r with status := .bound } : Reel).checked = r.checked := by
      obtain h | h := hst <;> simp [Reel.checked, Reel.entered, Reel.remains, h]
    rw [hbound, hrecords, List.map_append, List.map_append, List.map_cons, List.map_cons, hchecked]
  · have hbefore := hagrees q
    rw [hrecords, boundStatuses_middle_of_free fun _ => hfree] at hbefore
    rw [hbound]
    obtain rfl | hq := eq_or_ne p q
    · rw [hidle, boundStatuses_append] at hbefore
      obtain ⟨hfront, hback⟩ := List.append_eq_nil_iff.1 hbefore
      subst hp
      rw [hstate, boundStatuses_append, hfront,
        boundStatuses_cons_of_bound (r := { r with status := .bound }) rfl back, hback]
      rfl
    · rw [Side.eq_other_of_ne hq.symm] at hbefore ⊢
      rw [hother, boundStatuses_middle_of_free (r := { r with status := .bound })
        fun h => absurd (hp.symm.trans h) (Side.ne_other p), hbefore]

theorem loadWork_moves (reel f0 : Nat) (p : Side) {s : State} (hs : SoundList s.reels.records) :
    ListMoves s (loadWork reel f0 p s).1 := by
  unfold loadWork
  split
  · exact .refl s
  · rename_i r hnamed
    dsimp only
    (repeat' split)
    · exact .refl s
    · rename_i hallowed
      obtain ⟨hidle, hp, hst, -⟩ := loadAllowed_iff.1 hallowed
      have hfound := findReel_of_namedReel hnamed
      obtain ⟨rfl, -⟩ := hs.split hfound
      refine ListMoves.trans ?_ (settleWithholding_moves _)
      exact bindReel_moves hs hfound hp hst hidle rfl (by simp [setReelStatus, Projector.threaded])
        (by simp [setReelStatus]) rfl rfl
    · exact .refl s

/-! ### The edits (R48) -/

theorem commitEdit_done {records : List Reel} {s : State}
    (h : s.seq.automation = .off ∨ (formatCheck s.store.working records).1 = 0) :
    commitEdit records s =
      answerDone { s with
        reels :=
          { records := records, code := (formatCheck s.store.working records).1
            faultReel := (formatCheck s.store.working records).2 } } (formatCheck s.store.working records).1 := by
  rw [commitEdit, if_neg (by tauto)]
  rfl

theorem commitEdit_refused {records : List Reel} {s : State} (hauto : s.seq.automation ≠ .off)
    (hcode : (formatCheck s.store.working records).1 ≠ 0) :
    commitEdit records s = answerRefused s .refusedState (formatCheck s.store.working records).1 := by
  rw [commitEdit, if_pos ⟨hauto, hcode⟩]

/-- Whatever list an edit leaves, the format code is true of it. -/
theorem commitEdit_formatSafe {s : State} (records : List Reel) (hs : s.FormatSafe) :
    (commitEdit records s).1.FormatSafe := by
  by_cases h : s.seq.automation = .off ∨ (formatCheck s.store.working records).1 = 0
  · rw [commitEdit_done h]
    exact ⟨rfl, h.resolve_right⟩
  · obtain ⟨hauto, hcode⟩ := not_or.1 h
    rw [commitEdit_refused hauto hcode]
    exact hs

/-- An edit whose list is sound and binds what the one before did keeps the list in agreement. -/
theorem commitEdit_listSafe {s : State} {records : List Reel} (hs : s.ListSafe) (hsound : SoundList records)
    (hbound : ∀ p, boundStatuses records p = boundStatuses s.reels.records p) : (commitEdit records s).1.ListSafe := by
  by_cases h : s.seq.automation = .off ∨ (formatCheck s.store.working records).1 = 0
  · rw [commitEdit_done h, listSafe_iff]
    exact ⟨hsound, fun p => (hbound p).trans ((listSafe_iff s).1 hs |>.2 p)⟩
  · obtain ⟨hauto, hcode⟩ := not_or.1 h
    rw [commitEdit_refused hauto hcode]
    exact hs

section
variable {s : State}

theorem addWork_listSafe (x : ReelEntry) (hs : s.ListSafe) : (addWork x s).1.ListSafe := by
  obtain ⟨hsound, -⟩ := (listSafe_iff s).1 hs
  unfold addWork
  split
  · exact hs
  · rename_i hgood
    have hgood := entryFault_eq_none_iff.1 hgood
    split
    · exact hs
    · rename_i hroom
      refine commitEdit_listSafe hs (.join (back := []) ?_ ?_ ?_ (enteredReel_inRange hgood)) fun p => ?_
      · simpa using hsound
      · simpa using hroom
      · rw [List.append_nil]; exact hgood.2.2.1
      · rw [boundStatuses_middle_of_free fun _ => rfl, List.append_nil]

theorem insertWork_listSafe (before : Nat) (x : ReelEntry) (hs : s.ListSafe) : (insertWork before x s).1.ListSafe := by
  obtain ⟨hsound, -⟩ := (listSafe_iff s).1 hs
  have hparts := List.takeWhile_append_dropWhile (p := fun y : Reel => y.number != before) (l := s.reels.records)
  unfold insertWork
  split
  · exact hs
  · split
    · exact hs
    · rename_i hgood
      have hgood := entryFault_eq_none_iff.1 hgood
      split
      · exact hs
      · split
        · exact hs
        · rename_i hroom
          refine commitEdit_listSafe hs (.join ?_ ?_ ?_ (enteredReel_inRange hgood)) fun p => ?_
          · rwa [hparts]
          · rw [hparts]; exact not_le.1 hroom
          · rw [hparts]; exact hgood.2.2.1
          · rw [insertBefore, boundStatuses_middle_of_free fun _ => rfl, hparts]

theorem removeWork_listSafe (reel : Nat) (hs : s.ListSafe) : (removeWork reel s).1.ListSafe := by
  obtain ⟨hsound, -⟩ := (listSafe_iff s).1 hs
  unfold removeWork
  split
  · exact hs
  · rename_i r hnamed
    split
    · exact hs
    · rename_i hfree
      obtain ⟨rfl, front, back, hrecords, halone⟩ := hsound.split (findReel_of_namedReel hnamed)
      refine commitEdit_listSafe hs (hsound.sublist List.filter_sublist) fun p => ?_
      rw [hrecords, filter_number halone, boundStatuses_middle_of_free fun _ => by simpa using (not_or.1 hfree).2]

theorem reelCueWork_listSafe (reel action point level ramp : Nat) (hs : s.ListSafe) :
    (reelCueWork reel action point level ramp s).1.ListSafe := by
  obtain ⟨hsound, -⟩ := (listSafe_iff s).1 hs
  unfold reelCueWork
  (repeat' split)
  · exact hs
  · exact hs
  · exact hs
  · refine commitEdit_listSafe hs (hsound.map (fun r => ?_) fun r => ?_) fun p =>
      boundStatuses_map (fun r => ?_) (fun r => ?_) _ p
    all_goals split <;> rfl

theorem clearListWork_listSafe (hs : s.ListSafe) : (clearListWork s).1.ListSafe := by
  unfold clearListWork
  split
  · rename_i hfree
    exact commitEdit_listSafe hs .nil fun p => (boundStatuses_of_none_bound (listFree_iff.1 hfree).2 p).symm
  · exact hs

theorem repeatShowWork_listSafe (hs : s.ListSafe) : (repeatShowWork s).1.ListSafe := by
  unfold repeatShowWork
  split
  · rename_i hfree
    obtain ⟨-, hfree⟩ := listFree_iff.1 hfree
    refine commitEdit_listSafe hs (((listSafe_iff s).1 hs).1.map (fun _ => rfl) fun _ => rfl) fun p => ?_
    rw [boundStatuses_of_none_bound hfree, boundStatuses_of_none_bound fun r hr => ?_]
    obtain ⟨x, hx, rfl⟩ := List.mem_map.1 hr
    exact (Reel.repeated_isBound x).trans (hfree x hx)
  · exact hs

theorem skipReelWork_listSafe (reel : Nat) (hs : s.ListSafe) : (skipReelWork reel s).1.ListSafe := by
  obtain ⟨hsound, -⟩ := (listSafe_iff s).1 hs
  unfold skipReelWork
  split
  · exact hs
  · rename_i r hnamed
    split
    · exact hs
    · rename_i hst
      obtain ⟨rfl, front, back, hrecords, halone⟩ := hsound.split (findReel_of_namedReel hnamed)
      refine commitEdit_listSafe hs (hsound.map (fun r => ?_) fun r => ?_) fun p => ?_
      · split <;> rfl
      · split <;> rfl
      · rw [hrecords]
        exact boundStatuses_become_free (by rw [Reel.isBound_eq, not_not.1 hst]; rfl) rfl halone p

/-! ### The cleared list -/

/-- A booth with an empty list and no film threaded. -/
theorem listSafe_of_cleared (hreels : s.reels = { records := [], code := 1, faultReel := 0 })
    (hidle : ∀ p, (s.proj.get p).state = .idle) : s.ListSafe :=
  (listSafe_iff s).2 ⟨by rw [hreels]; exact .nil, fun p => by rw [hreels, hidle]; rfl⟩

theorem formatSafe_of_cleared (hreels : s.reels = { records := [], code := 1, faultReel := 0 })
    (hoff : s.seq.automation = .off) : s.FormatSafe :=
  ⟨by rw [hreels]; rfl, fun _ => hoff⟩

theorem resetBlocks_cleared (s : State) : (resetBlocks s).reels = { records := [], code := 1, faultReel := 0 }
    ∧ (∀ p, ((resetBlocks s).proj.get p).state = .idle) ∧ (resetBlocks s).seq.automation = .off :=
  ⟨rfl, fun p => by cases p <;> rfl, rfl⟩

theorem powerUp_cleared (x : PowerOnSensed) (s : State) :
    (powerUp x s).reels = { records := [], code := 1, faultReel := 0 }
      ∧ (∀ p, ((powerUp x s).proj.get p).state = .idle) ∧ (powerUp x s).seq.automation = .off := by
  rw [powerUp_eq]
  exact ⟨rfl, fun p => by cases p <;> rfl, rfl⟩

theorem generalResetWork_listSafe (hs : s.ListSafe) : (generalResetWork s).1.ListSafe := by
  obtain ⟨hreels, hidle, -⟩ := resetBlocks_cleared s
  unfold generalResetWork
  (repeat' split)
  · exact hs
  · exact hs
  · exact listSafe_of_cleared hreels hidle

theorem generalResetWork_formatSafe (hs : s.FormatSafe) : (generalResetWork s).1.FormatSafe := by
  obtain ⟨hreels, -, hoff⟩ := resetBlocks_cleared s
  unfold generalResetWork
  (repeat' split)
  · exact hs
  · exact hs
  · exact formatSafe_of_cleared hreels hoff

end

/-! ### Every request -/

theorem onProjector_keeps {P : State → Prop} {work : Side → State → Judged} {s : State} (h : ∀ p, P (work p s).1)
    (hs : P s) (t : Target) : P (onProjector t work s).1 := by
  unfold onProjector; split
  · exact h _
  · exact hs

theorem rowWork_listSafe (c : Instr) {s : State} (hs : s.ListSafe) : (rowWork c s).1.ListSafe := by
  cases h : isListRow c with
  | false => exact (rowWork_moves h s).listSafe hs
  | true =>
    cases c
    case load =>
      exact onProjector_keeps (P := State.ListSafe)
        (fun p => (loadWork_moves _ _ p ((listSafe_iff s).1 hs).1).listSafe hs) hs _
    case add => exact addWork_listSafe _ hs
    case insert => exact insertWork_listSafe _ _ hs
    case remove => exact removeWork_listSafe _ hs
    case reelCue => exact reelCueWork_listSafe _ _ _ _ _ hs
    case clearList => exact clearListWork_listSafe hs
    case repeatShow => exact repeatShowWork_listSafe hs
    case skipReel => exact skipReelWork_listSafe _ hs
    case generalReset => exact generalResetWork_listSafe hs
    all_goals nomatch h

theorem rowWork_formatSafe (c : Instr) {s : State} (hs : s.ListSafe) (hf : s.FormatSafe) :
    (rowWork c s).1.FormatSafe := by
  cases h : isListRow c with
  | false => exact (rowWork_moves h s).format hf
  | true =>
    have hcommit records := commitEdit_formatSafe records hf
    cases c
    case load =>
      exact onProjector_keeps (P := State.FormatSafe)
        (fun p => (loadWork_moves _ _ p ((listSafe_iff s).1 hs).1).format hf) hf _
    case add =>
      change (addWork _ s).1.FormatSafe
      unfold addWork
      (repeat' split) <;> first | exact hf | exact hcommit _
    case insert =>
      change (insertWork _ _ s).1.FormatSafe
      unfold insertWork
      (repeat' split) <;> first | exact hf | exact hcommit _
    case remove =>
      change (removeWork _ s).1.FormatSafe
      unfold removeWork
      (repeat' split) <;> first | exact hf | exact hcommit _
    case reelCue =>
      change (reelCueWork _ _ _ _ _ s).1.FormatSafe
      unfold reelCueWork
      (repeat' split) <;> first | exact hf | exact hcommit _
    case clearList =>
      change (clearListWork s).1.FormatSafe
      unfold clearListWork
      split <;> first | exact hf | exact hcommit _
    case repeatShow =>
      change (repeatShowWork s).1.FormatSafe
      unfold repeatShowWork
      split <;> first | exact hf | exact hcommit _
    case skipReel =>
      change (skipReelWork _ s).1.FormatSafe
      unfold skipReelWork
      (repeat' split) <;> first | exact hf | exact hcommit _
    case generalReset => exact generalResetWork_formatSafe hf
    all_goals nomatch h

/-! ### The statements -/

theorem keptByBooth_listSafe : KeptByBooth State.ListSafe where
  line h hs := by rw [h]; exact hs
  raise k d _ hs := (raiseCondition_moves k d _).listSafe hs
  work c _ hs := rowWork_listSafe c hs
  event hr hl he hs := (exec_event_moves hr hl he).listSafe hs
  boundary r _ hs := (boundary_moves r _).listSafe hs
  powerUp x s _ := by
    obtain ⟨hreels, hidle, -⟩ := powerUp_cleared x s
    exact listSafe_of_cleared hreels hidle

theorem keptByBooth_formatSafe : KeptByBooth fun s => s.ListSafe ∧ s.FormatSafe where
  line h hs := by rw [h]; exact hs
  raise k d _ hs := ⟨(raiseCondition_moves k d _).listSafe hs.1, (raiseCondition_moves k d _).format hs.2⟩
  work c _ hs := ⟨rowWork_listSafe c hs.1, rowWork_formatSafe c hs.1 hs.2⟩
  event hr hl he hs := ⟨(exec_event_moves hr hl he).listSafe hs.1, (exec_event_moves hr hl he).format hs.2⟩
  boundary r _ hs := ⟨(boundary_moves r _).listSafe hs.1, (boundary_moves r _).format hs.2⟩
  powerUp x s _ := by
    obtain ⟨hreels, hidle, hoff⟩ := powerUp_cleared x s
    exact ⟨listSafe_of_cleared hreels hidle, formatSafe_of_cleared hreels hoff⟩

/-- Settles O58: each operation of the booth moves the bound records with the projectors, and each edit leaves a sound list
that binds what the list before it did. -/
theorem stepKeepsListSafe : Obligations.StepKeepsListSafe := by
  unfold Obligations.StepKeepsListSafe
  exact fun _ _ hs hstep => keptByBooth_listSafe.step hs hstep

/-- Settles O59: the list is evaluated wherever the checks may see another one, and a code other than 0 meets automation
OFF. -/
theorem stepKeepsFormatSafe : Obligations.StepKeepsFormatSafe := by
  unfold Obligations.StepKeepsFormatSafe
  exact fun _ _ hlist hs hstep => (keptByBooth_formatSafe.step ⟨hlist, hs⟩ hstep).2

end Sys2Proof.Machine
end

section
/-! Every step keeps each projector's F, RATE, count window and marks in range (R59, R60, R69). -/

namespace Sys2Proof.Machine

open Sys2Proof

/-- Both projectors' counts are in range. -/
def State.CountersSafe (s : State) : Prop := ∀ p, (s.proj.get p).InRange

namespace State.CountersSafe

variable {s t : State}

theorem of_proj (h : t.proj = s.proj) (hs : s.CountersSafe) : t.CountersSafe := fun p => h ▸ hs p

/-- Whatever keeps the counts keeps them in range. -/
theorem of_counts (h : CountsKept s t) (hs : s.CountersSafe) : t.CountersSafe := fun p => by
  obtain ⟨hf, hrate, hwindow, hmarks⟩ := hs p
  rw [Projector.InRange, (h p).f, (h p).rate, (h p).window, (h p).marks]
  exact ⟨hf, hrate, hwindow, hmarks⟩

theorem onProj {p : Side} {g : Projector → Projector} (h : (s.proj.get p).InRange → (g (s.proj.get p)).InRange)
    (hs : s.CountersSafe) : (s.onProj p g).CountersSafe :=
  Both.forall_set (P := fun _ => Projector.InRange) (h (hs p)) hs

end State.CountersSafe

/-! ### One projector -/

section
variable {x : Projector}

theorem Projector.pulsed_inRange (h : x.InRange) : x.pulsed.InRange := by
  obtain ⟨hf, hrate, hwindow, hmarks⟩ := h
  refine ⟨?_, hrate, hwindow, hmarks⟩
  show (if x.state = .idle then x.f else min (x.f + 1) maxF) ≤ maxF
  split
  · exact hf
  · exact Nat.min_le_right ..

theorem Projector.rateCounted_inRange (h : x.InRange) : x.rateCounted.InRange := by
  obtain ⟨hf, -, -, hmarks⟩ := h
  refine ⟨hf, Nat.min_le_right .., ?_, hmarks⟩
  show ((x.window ++ [x.pulses]).drop _).length ≤ ratePeriods
  rw [List.length_drop]
  omega

theorem Projector.threaded_inRange {f0 : Nat} (hf0 : f0 ≤ maxF) (h : x.InRange) : (x.threaded f0).InRange :=
  ⟨hf0, h.2.1, h.2.2.1, Nat.zero_le _⟩

theorem Projector.unloaded_inRange (h : x.InRange) : x.unloaded.InRange :=
  ⟨Nat.zero_le _, h.2.1, h.2.2.1, Nat.zero_le _⟩

theorem Projector.generalReset_inRange (h : x.InRange) : x.generalReset.InRange :=
  ⟨Nat.zero_le _, h.2.1, h.2.2.1, Nat.zero_le _⟩

theorem Projector.powerOn_inRange (filmLoss gate : Contact) : (Projector.powerOn filmLoss gate).InRange :=
  ⟨Nat.zero_le _, Nat.zero_le _, Nat.zero_le _, Nat.zero_le _⟩

end

/-! ### What keeps the counts -/

section
variable {s : State}

theorem CountsKept.refl (s : State) : CountsKept s s := fun _ => .refl _

theorem CountsKept.of_proj {t : State} (h : t.proj = s.proj) : CountsKept s t := (ScreenKept.of_proj h).counts

theorem CountsKept.onProj {p : Side} {g : Projector → Projector} (h : (s.proj.get p).CountKept (g (s.proj.get p))) :
    CountsKept s (s.onProj p g) :=
  Both.forall_set (P := fun q => (s.proj.get q).CountKept) h fun _ => .refl _

theorem moveFilmLoss_counts (p : Side) (position : Contact) (s : State) : CountsKept s (moveFilmLoss p position s) := by
  have hmoved : CountsKept s (s.onProj p fun x => { x with filmLoss := position }) :=
    .onProj ⟨rfl, rfl, rfl, rfl, rfl, id⟩
  unfold moveFilmLoss
  dsimp only
  split
  · exact hmoved.trans (judgeFilmLoss_calm ..).counts
  · exact hmoved

theorem moveGate_counts (p : Side) (position : Contact) (s : State) : CountsKept s (moveGate p position s) := by
  have hmoved : CountsKept s (s.onProj p fun x => { x with gate := position }) :=
    .onProj ⟨rfl, rfl, rfl, rfl, rfl, id⟩
  unfold moveGate
  dsimp only
  split
  · exact hmoved.trans (gateTrip_calm ..).counts
  · exact hmoved

theorem expireStall_counts (p : Side) (s : State) : CountsKept s (expireStall p s) := by
  unfold expireStall
  split
  · exact (gateTrip_calm ..).counts
  · exact .refl s

theorem endInch_counts (p : Side) (s : State) : CountsKept s (endInch p s) := by
  unfold endInch
  split
  · exact .onProj ⟨rfl, rfl, rfl, rfl, rfl, id⟩
  · exact .refl s

theorem expireArc_counts (l : Side) (amperes : Nat) (m : Moment) (s : State) :
    CountsKept s (expireArc l amperes m s) := by
  unfold expireArc
  split
  · exact (onLamp_calm s l _).counts.trans (loseArc_counts _ _ _)
  · exact .refl s

theorem darkenPort_counts (q : Port) (s : State) : CountsKept s (darkenPort q s) := by
  unfold darkenPort
  (repeat' split)
  · exact .refl s
  · exact (darkenScreen_calm ..).counts
  · exact .refl s

theorem loseLatch_counts (q : Port) (m : Moment) (s : State) : CountsKept s (loseLatch q m s) := by
  unfold loseLatch
  split
  · refine CountsKept.trans ?_ (raiseCondition_calm ..).counts
    refine CountsKept.trans ?_ (darkenPort_counts _ _)
    exact .of_proj rfl
  · exact .refl s

theorem fireStop_counts (p : Side) (s : State) : CountsKept s (fireStop p s) := by
  have hstopped : CountsKept s (if (s.proj.get p).state.moving then stopProjector p s else s) := by
    split
    · exact (stopProjector_calm p s).counts
    · exact .refl s
  unfold fireStop
  exact hstopped.trans (.onProj ⟨rfl, rfl, rfl, rfl, rfl, fun _ => rfl⟩)

theorem emergencyStop_counts (p : Side) (s : State) : CountsKept s (emergencyStop p s) := by
  have hstopped : CountsKept s (if (s.proj.get p).state.moving then stopProjector p s else s) := by
    split
    · exact (stopProjector_calm p s).counts
    · exact .refl s
  unfold emergencyStop
  exact hstopped.trans (.onProj ⟨rfl, rfl, rfl, rfl, rfl, fun _ => rfl⟩)

theorem dropFire_counts (u : DetailUnit) (m : Moment) (s : State) : CountsKept s (dropFire u m s) := by
  have hput (l : Side) (x : State) : CountsKept x (fireExtinguish l x) :=
    (extinguishLamp_calm l x).counts.trans (CountsKept.of_proj rfl)
  have hlights (x : State) : CountsKept x (panicLights x) := .of_proj (by simp)
  have hhalted (x : State) : CountsKept x (x.onSeq fun q => { q with automation := q.automation.halt }) := .of_proj rfl
  unfold dropFire enterDropped
  split
  · exact .refl s
  · refine CountsKept.trans ?_ (raiseCondition_calm ..).counts
    refine CountsKept.trans ?_ (settleWithholding_calm _).counts
    refine CountsKept.trans ?_ (hhalted _)
    refine CountsKept.trans ?_ (((hput .a _).trans (hput .b _)).trans (hlights _))
    refine CountsKept.trans ?_ ((fireStop_counts .a _).trans (fireStop_counts .b _))
    exact .of_proj rfl

theorem reachSwapPoint_counts (m : Moment) (s : State) : CountsKept s (reachSwapPoint m s) := by
  unfold reachSwapPoint
  split
  · rename_i o r ho _
    split
    · exact .refl s
    · have hreached : CountsKept s (s.onSeq fun q => { q with swapReached := true }) := .of_proj rfl
      refine hreached.trans ?_
      obtain h | ⟨h, -⟩ := takeEnding_cases (s := s.onSeq fun q => { q with swapReached := true }) r m
        (outgoing_onScreen ho)
      · exact h.counts
      · exact h
  · exact .refl s

theorem swapPointTest_counts (m : Moment) (s : State) : CountsKept s (swapPointTest m s) := by
  obtain h | ⟨-, -, h, -⟩ := swapPointTest_cases m s
  · exact h.counts
  · exact h

theorem lateSwapTest_counts (m : Moment) (s : State) : CountsKept s (lateSwapTest m s) := by
  obtain h | ⟨-, -, h, -⟩ := lateSwapTest_cases m s
  · rw [h]; exact .refl s
  · exact h

theorem showStartOpen_counts (p : Side) (s : State) : CountsKept s (showStartOpen p s) := by
  unfold showStartOpen
  (repeat' split)
  · exact .refl s
  · exact enterScreen_counts p s
  · exact .refl s

theorem startIncoming_counts (r : Reel) (m : Moment) (s : State) : CountsKept s (startIncoming r m s) :=
  (askStart_calm r.projector m s).counts.trans (.of_proj rfl)

/-! ### Cue marks (R69) -/

theorem setMarks_counters {p : Side} {n : Nat} (hn : n ≤ 2) (hs : s.CountersSafe) : (setMarks p n s).CountersSafe :=
  hs.onProj fun h => ⟨h.1, h.2.1, h.2.2.1, hn⟩

theorem judgeMark_counters (p : Side) (m : Moment) (hs : s.CountersSafe) : (judgeMark p m s).CountersSafe := by
  have hone : (setMarks p 1 s).CountersSafe := setMarks_counters (by decide) hs
  have hmarked : (setMarks p 2 s).CountersSafe := setMarks_counters (by decide) hs
  have htwo : (learnEnd p (setMarks p 2 s)).CountersSafe := hmarked.of_proj (by simp)
  unfold judgeMark
  split
  · split
    · exact hs.of_counts (raiseCondition_calm ..).counts
    · split
      · unfold countMotorCue applyMotorCue
        dsimp only
        (repeat' split)
        · exact hone
        · exact hone.of_counts (startIncoming_counts _ _ _)
        · exact hone
      · unfold countChangeoverCue
        dsimp only
        split
        · exact hmarked
        · exact htwo
        · exact htwo.of_counts (reachSwapPoint_counts _ _)
  · exact hs

/-! ### Every step -/

theorem exec_event_counters {c : Instr} {t : State} (hr : requestOf c = none) (hl : isLineRow c = false)
    (he : exec c s = .next t) (hs : s.CountersSafe) : t.CountersSafe := by
  cases c
  all_goals first | (cases hr; done) | (cases hl; done) | obtain rfl := Host.Outcome.next.inj he
  case tachometerPulse => exact (hs.onProj Projector.pulsed_inRange).of_counts (endInch_counts _ _)
  case cueMark => exact judgeMark_counters _ _ hs
  case inchDone => exact hs.of_counts (endInch_counts _ _)
  case inchTimerExpiry => exact hs.of_counts (expireInch_calm ..).counts
  case runUpDone => exact hs.of_counts (endRunUp_calm ..).counts
  case runUpTimerExpiry => exact hs.of_counts (expireRunUp_calm ..).counts
  case swapPoint => exact hs.of_counts (swapPointTest_counts _ _)
  case lateSwap => exact hs.of_counts (lateSwapTest_counts _ _)
  case strikeTest => exact hs.of_counts (ScreenKept.counts (strikeTest_screen _ _))
  case motorTest => exact hs.of_counts (ScreenKept.counts (motorTest_screen _ _))
  case showStartStrike => exact hs.of_counts (showStartStrike_calm ..).counts
  case showStartFadeAndMotor => exact hs.of_counts (showStartFadeAndMotor_calm ..).counts
  case showStartOpen => exact hs.of_counts (showStartOpen_counts _ _)
  case douseTimerExpiry => exact hs.of_counts (expireDouse_calm ..).counts
  case attemptTimerExpiry => exact hs.of_counts (expireAttempt_calm ..).counts
  case arcLoss => exact hs.of_counts (expireArc_counts _ _ _ _)
  case filmLossSwitch => exact hs.of_counts (moveFilmLoss_counts _ _ _)
  case gateThermalOpen => exact hs.of_counts (moveGate_counts _ _ _)
  case stallTrip => exact hs.of_counts (expireStall_counts _ _)
  case fireLinkOpen =>
    have hopened : CountsKept s (s.onFire fun u => { u with link := .opened }) := .of_proj rfl
    exact hs.of_counts (hopened.trans (dropFire_counts _ _ _))
  case shutterLatchLetGo => exact hs.of_counts (loseLatch_counts _ _ _)
  case highClampAdjust | lowClampAdjust | trimConverged | trimFailed => split <;> exact hs.of_proj (by simp)
  case saveTimerExpiry | houseCueReached | feedInterval | fallTimerExpiry | raiseTimerExpiry | settlingTimerExpiry
    | arcEstablished | waitTimerExpiry | warmTimerExpiry | fireLinkIntact | shutterDownSwitch | shutterUpSwitch =>
    exact hs.of_proj (by simp)

theorem boundary_counters (r : Readings) (hs : s.CountersSafe) : (boundary r s).CountersSafe := by
  have hcounted : s.counted.CountersSafe := fun p => by rw [counted_get]; exact Projector.rateCounted_inRange (hs p)
  exact hcounted.of_counts (boundary_counts r s)

theorem onArc_keeps {P : State → Prop} {work : Side → State → Judged} (h : ∀ l, P (work l s).1) (hs : P s)
    (t : Target) : P (onArc t work s).1 := by
  unfold onArc; split
  · exact h _
  · exact hs

theorem loadWork_counters (reel f0 : Nat) (p : Side) (hs : s.CountersSafe) : (loadWork reel f0 p s).1.CountersSafe := by
  unfold loadWork
  split
  · exact hs
  · dsimp only
    (repeat' split)
    · exact hs
    · rename_i hf0 _
      have hthreaded : (s.onProj p fun x => x.threaded f0).CountersSafe :=
        hs.onProj (Projector.threaded_inRange (not_lt.1 hf0))
      exact hthreaded.of_proj (by simp [setReelStatus])
    · exact hs

theorem unloadWork_counters (p : Side) (hs : s.CountersSafe) : (unloadWork p s).1.CountersSafe := by
  have hunloaded : (s.onProj p Projector.unloaded).CountersSafe := hs.onProj Projector.unloaded_inRange
  unfold unloadWork
  split
  · exact hunloaded.of_proj (by simp)
  · exact hunloaded.of_proj (by simp)
  · exact hunloaded.of_proj (by simp)
  · exact hs

theorem stopWork_counters (p : Side) (hs : s.CountersSafe) : (stopWork p s).1.CountersSafe := by
  unfold stopWork
  (repeat' split)
  · exact hs.of_counts (stopProjector_calm ..).counts
  · exact hs.of_counts (clearStart_calm ..).counts
  · exact hs

theorem stopAllWork_counters (hs : s.CountersSafe) : (stopAllWork s).1.CountersSafe := by
  have hstopped := hs.of_counts ((emergencyStop_counts .a s).trans (emergencyStop_counts .b _))
  unfold stopAllWork
  dsimp only
  split <;> exact hstopped.of_proj (by simp)

theorem generalResetWork_counters (hs : s.CountersSafe) : (generalResetWork s).1.CountersSafe := by
  unfold generalResetWork
  (repeat' split)
  · exact hs
  · exact hs
  · exact Side.forall_of_both (P := fun p => ((resetBlocks s).proj.get p).InRange) .a
      (Projector.generalReset_inRange (hs .a)) (Projector.generalReset_inRange (hs .b))

theorem commitEdit_proj (records : List Reel) (s : State) : (commitEdit records s).1.proj = s.proj := by
  unfold commitEdit
  dsimp only
  split
  · rfl
  · simp [answerDone]

/-- The requests that bear on a projector unit. -/
def bearsOnProjectors : Instr → Bool
  | .extinguish .. | .load .. | .unload .. | .inch .. | .start .. | .stop .. | .openDowser .. | .swap .. | .disengage ..
  | .startShow .. | .generalReset .. | .stopAll .. | .drop .. => true
  | _ => false

/-- Every other request leaves both projectors as they stand. -/
theorem rowWork_proj {c : Instr} (h : bearsOnProjectors c = false) (s : State) : (rowWork c s).1.proj = s.proj := by
  cases c
  case extinguish | load | unload | inch | start | stop | openDowser | swap | disengage | startShow | generalReset
    | stopAll | drop => nomatch h
  all_goals
    simp only [rowWork, inquireWork, readWork, readReelWork, readConditionsWork, setModeWork, setLightMode, setArcMode,
      setValueLightWork, setTargetWork, setTargetLight, applyLight, setValueArcWork, setValueSettingWork,
      changeSettingWork, onArc, strikeWork, newRodWork, addWork, insertWork, removeWork, reelCueWork,
      clearListWork, repeatShowWork, skipReelWork, engageWork, resumeWork, clearConditionsWork, lockWork, unlockWork,
      alertWork, fireClearWork, fireAckWork, raiseWork, loadPresetWork, savePresetWork, setFireState]
    (repeat' split) <;>
      simp [answerDone, answerRefused, answerApplied, settingReply_fst, commitEdit_proj]

/-- Every request keeps the counts in range. -/
theorem rowWork_counters (c : Instr) (hs : s.CountersSafe) : (rowWork c s).1.CountersSafe := by
  cases h : bearsOnProjectors c with
  | false => exact hs.of_proj (rowWork_proj h s)
  | true =>
    cases c
    case extinguish => exact onArc_keeps (fun l => hs.of_counts (extinguishLamp_calm l s).counts) hs _
    case load => exact onProjector_keeps (fun p => loadWork_counters _ _ p hs) hs _
    case unload => exact onProjector_keeps (fun p => unloadWork_counters p hs) hs _
    case inch =>
      refine onProjector_keeps (fun p => ?_) hs _
      unfold inchWork
      (repeat' split)
      · exact hs
      · exact hs.onProj id
      · exact hs
    case start =>
      refine onProjector_keeps (fun p => ?_) hs _
      unfold startWork
      split
      · exact hs.of_counts (startMotor_calm ..).counts
      · exact hs
    case stop => exact onProjector_keeps (fun p => stopWork_counters p hs) hs _
    case openDowser =>
      refine onProjector_keeps (fun p => ?_) hs _
      unfold openWork
      split
      · exact hs.of_counts (enterScreen_counts p s)
      · exact hs
    case swap =>
      refine onProjector_keeps (fun p => ?_) hs _
      unfold swapWork
      split
      · exact hs.of_counts (swapScreens_counts p p.other .between s)
      · exact hs
    case disengage =>
      change (disengageWork s).1.CountersSafe
      unfold disengageWork
      split
      · exact hs
      · exact hs.of_counts (automationOff_calm s).counts
    case startShow =>
      change (startShowWork s).1.CountersSafe
      unfold startShowWork
      (repeat' split)
      · exact hs
      · exact hs.onProj id
      · exact hs
    case generalReset => exact generalResetWork_counters hs
    case stopAll => exact stopAllWork_counters hs
    case drop => exact hs.of_counts (dropFire_counts _ _ s)
    all_goals nomatch h

end

end Sys2Proof.Machine
end

section
/-! The two channels and the settings in range (R124, R126 to R128, R169, R172). -/

namespace Sys2Proof.Machine

open Sys2Proof

/-! ### One channel -/

/-- A distance parted over a time gives at least 1, and no more than the distance. -/
theorem divUp_within {d k : Nat} (hd : d ≠ 0) (hk : k ≠ 0) : Within 1 d (divUp d k) := by
  have hmul : d + k - 1 ≤ k * d := by
    obtain ⟨d, rfl⟩ := Nat.exists_eq_succ_of_ne_zero hd
    obtain ⟨k, rfl⟩ := Nat.exists_eq_succ_of_ne_zero hk
    have hexpand : k.succ * d.succ = k * d + d + k + 1 := by simp only [Nat.succ_eq_add_one]; ring
    omega
  exact ⟨(Nat.le_div_iff_mul_le (by omega)).2 (by omega), Nat.div_le_of_le_mul hmul⟩

namespace Light.InRange

variable {x : Light} {least : Nat}

theorem of_le {least' : Nat} (h : least' ≤ least) (hx : x.InRange least) : x.InRange least' := by
  obtain ⟨⟨hlow, hhigh⟩, ⟨htlow, hthigh⟩, hrest⟩ := hx
  exact ⟨⟨h.trans hlow, hhigh⟩, ⟨h.trans htlow, hthigh⟩, hrest⟩

theorem reset (h : least ≤ 1600) : Light.reset.InRange least :=
  ⟨⟨h, le_refl _⟩, ⟨h, le_refl _⟩, fun _ => rfl, fun _ hn => (nomatch hn), by decide⟩

/-- A channel standing at a level of its range. -/
theorem jump {level : Nat} (hlevel : Within least 1600 level) (hx : x.InRange least) : (x.jump level).InRange least :=
  ⟨hlevel, hlevel, fun _ => rfl, fun _ hn => (nomatch hn), hx.2.2.2.2⟩

/-- The step of a ramp is at least 1 and at most the distance (R126). -/
theorem rampTo {target tenths : Nat} (htarget : Within least 1600 target) (hx : x.InRange least) :
    (x.rampTo target tenths).InRange least := by
  obtain ⟨hlevel, -, -, -, hmode⟩ := hx
  unfold Light.rampTo
  dsimp only
  generalize hd : (if target ≤ x.level then x.level - target else target - x.level) = d
  have hfar : d ≤ 1600 := by split at hd <;> omega
  split
  · exact ⟨htarget, htarget, fun _ => rfl, fun _ hn => (nomatch hn), hmode⟩
  · rename_i hrun
    obtain ⟨htime, hd0⟩ := not_or.1 hrun
    refine ⟨hlevel, htarget, fun h => (nomatch h), fun n hn => ?_, hmode⟩
    obtain rfl : divUp d (tenths * 2) = n := by simpa using hn
    have hstep := divUp_within hd0 htime
    exact ⟨hstep.1, hstep.2.trans hfar⟩

/-- A step ends at the target or stays between level and target (R127). -/
theorem advance (hx : x.InRange least) : x.advance.InRange least := by
  obtain ⟨hlevel, htarget, hstill, hstep, hmode⟩ := hx
  unfold Light.advance
  split
  · exact ⟨hlevel, htarget, hstill, hstep, hmode⟩
  · rename_i n hn
    dsimp only
    generalize hnext : (if x.target ≤ x.level then if x.level - x.target ≤ n then x.target else x.level - n
      else if x.target - x.level ≤ n then x.target else x.level + n) = next
    have hwithin : Within least 1600 next := by (repeat' split at hnext) <;> omega
    refine ⟨hwithin, htarget, fun h => ?_, fun m hm => ?_, hmode⟩
    · by_contra hne
      rw [if_neg fun h => hne h.symm] at h
      cases h
    · split at hm
      · cases hm
      · exact hstep m (hn ▸ hm)

theorem changeMode {m : Mode} (hm : m ≠ .trim) (hx : x.InRange least) : (x.changeMode m).InRange least := by
  unfold Light.changeMode
  split
  · exact hx
  · exact ⟨hx.1, hx.1, fun _ => rfl, fun _ hn => (nomatch hn), hm⟩

/-- The aisle meets a raised AISLE_MIN (R128). -/
theorem liftTo {m : Nat} (hm : m * 16 ≤ 1600) (hx : x.InRange least) : (x.liftTo m).InRange (m * 16) := by
  obtain ⟨hlevel, htarget, hstill, hstep, hmode⟩ := hx
  unfold Light.liftTo
  dsimp only
  split
  · split
    · rename_i hrun
      exact ⟨⟨le_refl _, hm⟩, ⟨hrun.2, htarget.2⟩, fun h => absurd (h ▸ hrun.1) (by decide), hstep, hmode⟩
    · exact ⟨⟨le_refl _, hm⟩, ⟨le_refl _, hm⟩, fun _ => rfl, fun _ hn => (nomatch hn), hmode⟩
  · rename_i hlow
    split
    · exact ⟨⟨not_lt.1 hlow, hlevel.2⟩, ⟨le_refl _, hm⟩, fun h => absurd (hstill h) (by omega), hstep, hmode⟩
    · rename_i htlow
      exact ⟨⟨not_lt.1 hlow, hlevel.2⟩, ⟨not_lt.1 htlow, htarget.2⟩, hstill, hstep, hmode⟩

end Light.InRange

/-! ### The settings -/

theorem clamp_within {low high : Nat} (h : low ≤ high) (v : Nat) : Within low high (clamp low high v) := by
  unfold clamp
  constructor <;> (repeat' split) <;> omega

theorem LampSettings.factory_inRange : LampSettings.factory.InRange := by
  simp [LampSettings.InRange, LampSettings.factory, Within]

theorem Settings.factory_inRange : Settings.factory.InRange := by
  have hlamp := LampSettings.factory_inRange
  refine ⟨?_, ?_, ?_, ?_, ?_, ?_, hlamp, hlamp, ?_, ?_, ?_, ?_, ?_, ?_, ?_⟩ <;> decide

section
variable {x : LampSettings} {t : Settings}

theorem LampSettings.range_le (hx : x.InRange) (k : Nat) : (x.range k).1 ≤ (x.range k).2 := by
  obtain ⟨-, -, -, -, -, hinom, -⟩ := hx
  unfold LampSettings.range
  split <;> dsimp only <;> omega

/-- A setting changed within its range, IMIN and the manual rate following (R172). -/
theorem LampSettings.change_inRange {k v : Nat} (hx : x.InRange) (hv : Within (x.range k).1 (x.range k).2 v) :
    (x.change k v).InRange := by
  obtain ⟨hvt, hgain, hburn, hdead, hfmax, hinom, himin, hrate, hwarm, hreserve⟩ := hx
  unfold LampSettings.range at hv
  unfold LampSettings.change
  split
  case h_5 =>
    have hmax : Within 50 255 v := hv
    exact ⟨hvt, hgain, hburn, hdead, hmax, hinom, himin, ⟨Nat.zero_le _, Nat.min_le_right ..⟩, hwarm, hreserve⟩
  case h_6 =>
    have hnom : Within 40 160 v := hv
    have hmin : Within 30 v (min x.imin v) := by omega
    exact ⟨hvt, hgain, hburn, hdead, hfmax, hnom, hmin, hrate, hwarm, hreserve⟩
  all_goals refine ⟨?_, ?_, ?_, ?_, ?_, ?_, ?_, ?_, ?_, ?_⟩ <;> assumption

theorem Settings.InRange.lamp (h : t.InRange) (l : Side) : (t.lamp.get l).InRange := by
  obtain ⟨-, -, -, -, -, -, ha, hb, -⟩ := h
  cases l
  · exact ha
  · exact hb

/-- One lamp's settings replaced. -/
theorem Settings.InRange.setLamp (h : t.InRange) {l : Side} (hx : x.InRange) :
    Settings.InRange { t with lamp := t.lamp.set l x } := by
  obtain ⟨hlead, hrun, hwindow, hdouse, hstall, hround, ha, hb, hrest⟩ := h
  cases l
  · exact ⟨hlead, hrun, hwindow, hdouse, hstall, hround, hx, hb, hrest⟩
  · exact ⟨hlead, hrun, hwindow, hdouse, hstall, hround, ha, hx, hrest⟩

theorem Settings.range_le (h : t.InRange) (n : Nat) : (t.range n).1 ≤ (t.range n).2 := by
  unfold Settings.range
  split
  · exact LampSettings.range_le (h.lamp _) _
  · split <;> first | decide | (split <;> decide)

theorem Settings.clamped_within (h : t.InRange) (n v : Nat) :
    Within (t.range n).1 (t.range n).2 (t.clamped n v) :=
  clamp_within (Settings.range_le h n) v

theorem halts_set {halts : Vector Nat 13} {v : Nat} (i : Nat) (hv : v ≤ 1)
    (h : halts.toList.all (fun v => decide (v ≤ 1)) = true) :
    (halts.setIfInBounds i v).toList.all (fun v => decide (v ≤ 1)) = true := by
  rw [Vector.toList_setIfInBounds, List.all_eq_true]
  intro y hy
  obtain hy | rfl := List.mem_or_eq_of_mem_set hy
  · exact List.all_eq_true.1 h y hy
  · exact decide_eq_true hv

theorem Settings.change_inRange {n v : Nat} (h : t.InRange) (hv : Within (t.range n).1 (t.range n).2 v) :
    (t.change n v).InRange := by
  unfold Settings.range at hv
  unfold Settings.change
  split <;> rename_i hlamp
  · rw [hlamp] at hv
    exact h.setLamp (LampSettings.change_inRange (h.lamp _) hv)
  · rw [hlamp] at hv
    obtain ⟨hlead, hrun, hwindow, hdouse, hstall, hround, ha, hb, hshow, hinter, hbreak, haisle, hramp, hend,
      hhalts⟩ := h
    dsimp only at hv
    split
    case h_13 =>
      have hone : v ≤ 1 := by
        split at hv
        case h_13 => split at hv <;> exact hv.2.trans (by decide)
        all_goals exact absurd rfl ‹_›
      split
      · exact ⟨hlead, hrun, hwindow, hdouse, hstall, hround, ha, hb, hshow, hinter, hbreak, haisle, hramp, hend,
          halts_set _ hone hhalts⟩
      · exact ⟨hlead, hrun, hwindow, hdouse, hstall, hround, ha, hb, hshow, hinter, hbreak, haisle, hramp, hend,
          hhalts⟩
    all_goals refine ⟨?_, ?_, ?_, ?_, ?_, ?_, ?_, ?_, ?_, ?_, ?_, ?_, ?_, ?_, ?_⟩ <;> assumption

end

end Sys2Proof.Machine
end

section
/-! Every step keeps the store's images, both channels and the house cues in range (R41, R124, R128, R169, R173). -/

namespace Sys2Proof.Machine

open Sys2Proof

/-- The store's images and both channels are in range. -/
def State.LevelsSafe (s : State) : Prop :=
  s.store.InRange ∧ s.lights.house.InRange 0 ∧ s.lights.aisle.InRange (s.store.working.aisleMin * 16)

/-- Each house cue's level is a percentage (R41). -/
def State.CuesSafe (s : State) : Prop := ∀ r ∈ s.reels.records, r.cueInRange = true

theorem rangesSafe_iff (s : State) : s.RangesSafe ↔ s.LevelsSafe ∧ s.CuesSafe ∧ s.CountersSafe := by
  constructor
  · rintro ⟨hstore, hhouse, haisle, hcues, ha, hb⟩
    exact ⟨⟨hstore, hhouse, haisle⟩, List.all_eq_true.1 hcues, fun p => by cases p <;> assumption⟩
  · rintro ⟨⟨hstore, hhouse, haisle⟩, hcues, hcounters⟩
    exact ⟨hstore, hhouse, haisle, List.all_eq_true.2 hcues, hcounters .a, hcounters .b⟩

/-- AISLE_MIN in sixteenths lies within a channel's levels (R128, R169). -/
theorem Settings.InRange.aisleLeast {t : Settings} (h : t.InRange) : t.aisleMin * 16 ≤ 1600 := by
  obtain ⟨-, -, -, -, -, -, -, -, -, -, -, haisle, -⟩ := h
  exact Nat.mul_le_mul_right 16 (haisle.2.trans (by decide : 50 ≤ 100))

namespace State.LevelsSafe

variable {s t : State}

theorem of_eq (hlights : t.lights = s.lights) (hstore : t.store = s.store) (hs : s.LevelsSafe) : t.LevelsSafe := by
  rw [LevelsSafe, hlights, hstore]
  exact hs

theorem working (hs : s.LevelsSafe) : s.store.working.InRange := hs.1.1

theorem aisleMin (hs : s.LevelsSafe) : Within 5 50 s.store.working.aisleMin := by
  obtain ⟨-, -, -, -, -, -, -, -, -, -, -, haisle, -⟩ := hs.working
  exact haisle

/-- A channel changed within whatever range it is in. -/
theorem onLight {c : Channel} {g : Light → Light}
    (h : ∀ least, least ≤ 1600 → (s.lights.get c).InRange least → (g (s.lights.get c)).InRange least)
    (hs : s.LevelsSafe) : (s.onLight c g).LevelsSafe := by
  have hmin := hs.working.aisleLeast
  obtain ⟨hstore, hhouse, haisle⟩ := hs
  cases c
  · exact ⟨hstore, h _ (Nat.zero_le _) hhouse, haisle⟩
  · exact ⟨hstore, hhouse, h _ hmin haisle⟩

end State.LevelsSafe

section
variable {s : State}

/-! ### The channels -/

theorem giveTarget_levels {c : Channel} {percent : Nat} (tenths : Nat) (hp : percent ≤ 100) (hs : s.LevelsSafe) :
    (giveTarget c percent tenths s).LevelsSafe := by
  have haisleTarget : Within (s.store.working.aisleMin * 16) 1600 (max percent s.store.working.aisleMin * 16) := by
    have hmin := hs.aisleMin
    omega
  obtain ⟨hstore, hhouse, haisle⟩ := hs
  cases c
  · exact ⟨hstore, hhouse.rampTo ⟨Nat.zero_le _, Nat.mul_le_mul_right 16 hp⟩, haisle⟩
  · exact ⟨hstore, hhouse, haisle.rampTo haisleTarget⟩

theorem automaticFade_levels {percent : Nat} (tenths : Nat) (hp : percent ≤ 100) (hs : s.LevelsSafe) :
    (automaticFade percent tenths s).LevelsSafe := by
  unfold automaticFade
  split
  · exact giveTarget_levels tenths hp hs
  · exact hs

theorem rampStep_levels (hs : s.LevelsSafe) : (rampStep s).LevelsSafe :=
  (hs.onLight fun _ _ h => h.advance).onLight fun _ _ h => h.advance

theorem panicLights_levels (hs : s.LevelsSafe) : (panicLights s).LevelsSafe :=
  (hs.onLight fun _ h hx => hx.jump ⟨h, le_refl _⟩).onLight fun _ h hx => hx.jump ⟨h, le_refl _⟩

/-! ### The levels of the working settings -/

theorem levels_le (hs : s.LevelsSafe) :
    s.store.working.showLevel ≤ 100 ∧ s.store.working.intermissionLevel ≤ 100
      ∧ s.store.working.breakLevel ≤ 100 := by
  obtain ⟨-, -, -, -, -, -, -, -, hshow, hintermission, hbreak, -⟩ := hs.working
  exact ⟨hshow.2, hintermission.2, hbreak.2⟩

theorem breakFilm_levels (p : Side) (hs : s.LevelsSafe) : (breakFilm p s).LevelsSafe := by
  have hbroken : (settleWithholding ((setBoundStatus p .interrupted (s.onProj p Projector.filmBroken)).onSeq fun q =>
      { q with swapDue := false })).LevelsSafe := hs.of_eq (by simp) (by simp)
  unfold breakFilm
  dsimp only
  split
  · exact (giveTarget_levels (c := .house) breakTenths (levels_le hbroken).2.2 hbroken).of_eq (by simp) (by simp)
  · exact hbroken.of_eq (by simp) (by simp)

theorem judgeFilmLoss_levels (p : Side) (hs : s.LevelsSafe) : (judgeFilmLoss p s).LevelsSafe := by
  have hout : (tailOut p s).LevelsSafe := hs.of_eq (by simp) (by simp)
  unfold judgeFilmLoss
  (repeat' split) <;> first | exact hout | exact breakFilm_levels p hs | exact hs

theorem moveFilmLoss_levels (p : Side) (position : Contact) (hs : s.LevelsSafe) :
    (moveFilmLoss p position s).LevelsSafe := by
  unfold moveFilmLoss
  dsimp only
  split
  · exact judgeFilmLoss_levels p hs
  · exact hs

theorem judgeStanding_levels (p : Side) (hs : s.LevelsSafe) : (judgeStanding p s).LevelsSafe := by
  unfold judgeStanding
  dsimp only
  split
  · exact judgeFilmLoss_levels p hs
  · exact hs

theorem projectorWork_levels (p : Side) (hs : s.LevelsSafe) : (projectorWork p s).LevelsSafe :=
  (judgeStanding_levels p hs).of_eq (by simp [projectorWork]) (by simp [projectorWork])

theorem takeEnding_levels (o : Side) (r : Reel) (m : Moment) (hs : s.LevelsSafe) : (takeEnding o r m s).LevelsSafe := by
  have hleft : (leaveScreen o .runout s).LevelsSafe := hs.of_eq (by simp) (by simp)
  unfold takeEnding
  (repeat' split)
  · exact (automaticFade_levels s.store.working.showRamp (levels_le hs).2.1 hleft).of_eq (by simp [intermissionEnding])
      (by simp [intermissionEnding])
  · exact (automaticFade_levels s.store.working.endRamp (le_refl 100) hleft).of_eq (by simp [lastReelEnding])
      (by simp [lastReelEnding])
  · exact hs.of_eq (by simp) (by simp)
  · exact hs.of_eq (by simp) (by simp)

theorem reachSwapPoint_levels (m : Moment) (hs : s.LevelsSafe) : (reachSwapPoint m s).LevelsSafe := by
  unfold reachSwapPoint
  split
  · split
    · exact hs
    · exact takeEnding_levels _ _ m (s := s.onSeq fun q => { q with swapReached := true }) hs
  · exact hs

theorem swapPointTest_levels (m : Moment) (hs : s.LevelsSafe) : (swapPointTest m s).LevelsSafe := by
  unfold swapPointTest
  split
  · exact reachSwapPoint_levels m hs
  · exact hs

theorem sequencerTests_levels (hs : s.LevelsSafe) : (sequencerTests s).LevelsSafe :=
  (swapPointTest_levels .atBoundary hs).of_eq (by simp [sequencerTests]) (by simp [sequencerTests])

theorem judgeMark_levels (p : Side) (m : Moment) (hs : s.LevelsSafe) : (judgeMark p m s).LevelsSafe := by
  unfold judgeMark
  split
  · split
    · exact hs.of_eq (by simp) (by simp)
    · split
      · exact hs.of_eq (by simp) (by simp)
      · unfold countChangeoverCue
        dsimp only
        split
        · exact hs
        · exact hs
        · exact reachSwapPoint_levels m (s := learnEnd p (setMarks p 2 s)) hs
  · exact hs

theorem showStartFadeAndMotor_levels (p : Side) (m : Moment) (hs : s.LevelsSafe) :
    (showStartFadeAndMotor p m s).LevelsSafe := by
  unfold showStartFadeAndMotor
  dsimp only
  split
  · exact (automaticFade_levels s.store.working.showRamp (levels_le hs).1 hs).of_eq (by simp) (by simp)
  · exact hs

theorem showStartSteps_levels (p : Side) (hs : s.LevelsSafe) : (showStartSteps p s).LevelsSafe := by
  have hstruck : (showStartStrike p .atBoundary s).LevelsSafe := hs.of_eq (by simp) (by simp)
  exact (showStartFadeAndMotor_levels p .atBoundary hstruck).of_eq (by simp [showStartSteps]) (by simp [showStartSteps])

theorem dropFire_levels (u : DetailUnit) (m : Moment) (hs : s.LevelsSafe) : (dropFire u m s).LevelsSafe := by
  unfold dropFire
  split
  · exact hs
  · unfold enterDropped
    dsimp only
    generalize hheld : fireExtinguish .b (fireExtinguish .a (fireStop .b (fireStop .a _))) = u
    have hu : u.LevelsSafe := hs.of_eq (by simp [← hheld]) (by simp [← hheld])
    exact (panicLights_levels hu).of_eq (by simp) (by simp)

/-! ### House cues (R41, R132) -/

theorem State.CuesSafe.of_moves {t : State} (h : ListMoves s t) (hs : s.CuesSafe) : t.CuesSafe := fun r hr => by
  obtain ⟨x, hx, hxr⟩ := List.mem_map.1 (h.entered ▸ List.mem_map_of_mem (f := Reel.entered) hr)
  have hsame : x.entered.cueInRange = r.entered.cueInRange := congrArg Reel.cueInRange hxr
  exact hsame.symm.trans (hs x hx)

theorem boundReel_mem {p : Side} {r : Reel} (h : s.boundReel p = some r) : r ∈ s.reels.records :=
  List.mem_of_find?_eq_some h

theorem outgoingReel_mem {r : Reel} (h : s.outgoingReel = some r) : r ∈ s.reels.records := by
  obtain ⟨p, -, hp⟩ := Option.bind_eq_some_iff.1 h
  exact boundReel_mem hp

theorem judgeHouseCue_levels (hc : s.CuesSafe) (hs : s.LevelsSafe) : (judgeHouseCue s).LevelsSafe := by
  unfold judgeHouseCue
  split
  · exact hs
  · rename_i r hr
    split
    · rename_i c n hcue hn
      have hlevel : c.level ≤ 100 := by
        have hin := hc r (outgoingReel_mem hr)
        rw [Reel.cueInRange, hcue] at hin
        exact of_decide_eq_true hin
      split
      · exact automaticFade_levels (s := s.onReels _) c.ramp hlevel hs
      · exact hs
    · exact hs

/-! ### The store (R120, R170 to R175) -/

/-- A manual rate replaced within FMAX. -/
theorem State.LevelsSafe.manualRate {t : State} {l : Side} {rate : Nat} (hlights : t.lights = s.lights)
    (hstore : t.store = { s.store with
      working := { s.store.working with
        lamp := s.store.working.lamp.set l { s.store.working.lamp.get l with manualRate := rate } } })
    (hrate : rate ≤ (s.store.working.lamp.get l).fmax) (hs : s.LevelsSafe) : t.LevelsSafe := by
  obtain ⟨⟨hworking, hchannels⟩, hhouse, haisle⟩ := hs
  rw [State.LevelsSafe, hlights, hstore]
  refine ⟨⟨hworking.setLamp ?_, hchannels⟩, hhouse, haisle⟩
  obtain ⟨hvt, hgain, hburn, hdead, hfmax, hinom, himin, -, hwarm, hreserve⟩ := hworking.lamp l
  exact ⟨hvt, hgain, hburn, hdead, hfmax, hinom, himin, ⟨Nat.zero_le _, hrate⟩, hwarm, hreserve⟩

theorem convergeTrim_levels {l : Side} {rate : Nat} (hrate : rate ≤ (s.store.working.lamp.get l).fmax)
    (hs : s.LevelsSafe) : (convergeTrim l rate s).LevelsSafe :=
  State.LevelsSafe.manualRate (s := s) (l := l) rfl rfl hrate hs

theorem intervalFeed_le (t : LampSettings) (x : Lamp) (volts amperes : Nat) :
    (intervalFeed t x volts amperes).f ≤ t.fmax := by
  unfold intervalFeed
  split
  · exact Nat.min_le_right ..
  · unfold regulate
    dsimp only
    split <;> omega

theorem Lamp.countClamp_f (x : Lamp) (t : LampSettings) : (x.countClamp t).f = x.f := by
  unfold Lamp.countClamp Lamp.lowered Lamp.lifted
  (repeat' split) <;> rfl

theorem countTrim_levels {l : Side} {inBand : Bool} (hf : (s.lamp.get l).f ≤ (s.store.working.lamp.get l).fmax)
    (hs : s.LevelsSafe) : (countTrim l inBand s).LevelsSafe := by
  unfold countTrim
  dsimp only
  split
  · split
    · exact convergeTrim_levels hf hs
    · split
      · exact hs.of_eq (by simp) (by simp)
      · exact hs
  · exact hs

theorem feedInterval_levels (l : Side) (volts amperes : Nat) (m : Moment) (hs : s.LevelsSafe) :
    (feedInterval l volts amperes m s).LevelsSafe := by
  unfold feedInterval feedOnce
  dsimp only
  split
  · let t := s.store.working.lamp.get l
    have hread : (s.onLamp l fun x => (x.read t volts amperes).countClamp t).LevelsSafe := hs
    refine (countTrim_levels ?_ hread).of_eq rfl rfl
    simp only [State.onLamp_lamp, Both.get_set_same, Lamp.countClamp_f]
    exact intervalFeed_le ..
  · exact hs

theorem tickFeed_levels (l : Side) (volts amperes : Nat) (hs : s.LevelsSafe) : (tickFeed l volts amperes s).LevelsSafe := by
  unfold tickFeed
  split
  · exact feedInterval_levels l volts amperes .atBoundary hs
  · exact hs

theorem Store.saved_inRange {x : Store} {j : SaveJob} (hx : x.InRange) (hj : j.image.InRange)
    (hchannel : Within 1 3 j.channel) : (x.saved j).InRange := by
  obtain ⟨hworking, hone, htwo, hthree, -, -⟩ := hx
  unfold Store.saved Store.write
  split
  · exact ⟨hworking, hj, htwo, hthree, hchannel.2, fun _ h => nomatch h⟩
  · exact ⟨hworking, hone, hj, hthree, hchannel.2, fun _ h => nomatch h⟩
  · exact ⟨hworking, hone, htwo, hj, hchannel.2, fun _ h => nomatch h⟩
  · exact ⟨hworking, hone, htwo, hthree, hchannel.2, fun _ h => nomatch h⟩

theorem Store.channel_inRange {x : Store} (hx : x.InRange) (n : Nat) : (x.channel n).InRange := by
  obtain ⟨-, hone, htwo, hthree, -, -⟩ := hx
  unfold Store.channel
  split
  · exact hone
  · exact htwo
  · exact hthree
  · exact Settings.factory_inRange

theorem finishSave_levels (hs : s.LevelsSafe) : (finishSave s).LevelsSafe := by
  unfold finishSave
  split
  · rename_i j hj
    split
    · obtain ⟨hstore, hhouse, haisle⟩ := hs
      have hjob := hstore.2.2.2.2.2 j hj
      refine ⟨Store.saved_inRange hstore hjob.1 hjob.2, hhouse, ?_⟩
      have hkept : (s.store.saved j).working = s.store.working := Store.write_working ..
      show s.lights.aisle.InRange ((s.store.saved j).working.aisleMin * 16)
      rw [hkept]
      exact haisle
    · exact hs
  · exact hs

theorem tickSave_levels (hs : s.LevelsSafe) : (tickSave s).LevelsSafe := by
  unfold tickSave
  split
  · exact hs
  · rename_i j hj
    split
    · exact finishSave_levels hs
    · obtain ⟨⟨hworking, hone, htwo, hthree, hstart, hsave⟩, hhouse, haisle⟩ := hs
      refine ⟨⟨hworking, hone, htwo, hthree, hstart, fun k hk => ?_⟩, hhouse, haisle⟩
      obtain rfl := Option.some.inj hk
      exact hsave j hj

theorem applySettings_store (t : Settings) (s : State) :
    (applySettings t s).store = { s.store with working := t } := by
  unfold applySettings; dsimp only; (repeat' split) <;> rfl

theorem applySettings_lights (t : Settings) (s : State) :
    (applySettings t s).lights =
      if s.store.working.aisleMin < t.aisleMin then { s.lights with aisle := s.lights.aisle.liftTo t.aisleMin }
      else s.lights := by
  unfold applySettings; dsimp only; (repeat' split) <;> rfl

/-- The settings replaced, the aisle lifted by a raised AISLE_MIN (R128, R172). -/
theorem applySettings_levels {t : Settings} (ht : t.InRange) (hs : s.LevelsSafe) : (applySettings t s).LevelsSafe := by
  obtain ⟨⟨-, hchannels⟩, hhouse, haisle⟩ := hs
  rw [State.LevelsSafe, applySettings_store, applySettings_lights]
  split
  · exact ⟨⟨ht, hchannels⟩, hhouse, haisle.liftTo ht.aisleLeast⟩
  · rename_i hraised
    exact ⟨⟨ht, hchannels⟩, hhouse, haisle.of_le (Nat.mul_le_mul_right 16 (not_lt.1 hraised))⟩

/-! ### The requests -/

/-- The requests that bear on a channel or on the store. -/
def bearsOnLevels : Instr → Bool
  | .setMode .. | .setValueHouse .. | .setValueArc .. | .setValueSetting .. | .setTarget .. | .generalReset ..
  | .stopAll .. | .drop .. | .loadPreset .. | .savePreset .. => true
  | _ => false

theorem commitEdit_levels (records : List Reel) (s : State) :
    (commitEdit records s).1.lights = s.lights ∧ (commitEdit records s).1.store = s.store := by
  unfold commitEdit
  dsimp only
  split
  · exact ⟨rfl, rfl⟩
  · simp [answerDone]

/-- Every other request leaves the channels and the store as they stand. -/
theorem rowWork_levels_kept {c : Instr} (h : bearsOnLevels c = false) (s : State) :
    (rowWork c s).1.lights = s.lights ∧ (rowWork c s).1.store = s.store := by
  cases c
  case setMode | setValueHouse | setValueArc | setValueSetting | setTarget | generalReset | stopAll | drop | loadPreset
    | savePreset => nomatch h
  all_goals
    simp only [rowWork, inquireWork, readWork, readReelWork, readConditionsWork, onArc, strikeWork, extinguishWork,
      newRodWork, onProjector, loadWork, setReelStatus, unloadWork, inchWork, startWork, stopWork, openWork, swapWork,
      addWork, insertWork, removeWork, reelCueWork, clearListWork, repeatShowWork, skipReelWork, engageWork,
      disengageWork, startShowWork, resumeWork, clearConditionsWork, lockWork, unlockWork, alertWork, fireClearWork,
      fireAckWork, raiseWork, setFireState]
    (repeat' split) <;> simp [answerDone, answerRefused, commitEdit_levels]

theorem setModeWork_levels (t : Target) (mode : Nat) (hs : s.LevelsSafe) : (setModeWork t mode s).1.LevelsSafe := by
  have hlight (c : Channel) : (setLightMode c mode s).1.LevelsSafe := by
    unfold setLightMode
    split
    · exact hs.onLight fun _ _ h => h.changeMode (by decide)
    · exact hs.onLight fun _ _ h => h.changeMode (by decide)
    · exact hs
  unfold setModeWork
  split
  · exact hlight .house
  · exact hlight .aisle
  · unfold setArcMode
    (repeat' split) <;> exact hs
  · exact hs

theorem applyLight_levels (c : Channel) (level ramp : Nat) (hs : s.LevelsSafe) :
    (applyLight c level ramp s).1.LevelsSafe := by
  have hleast : leastLevel s.store.working c ≤ 100 := by
    cases c
    · exact Nat.zero_le _
    · exact hs.aisleMin.2.trans (by decide)
  exact giveTarget_levels _ (clamp_within hleast level).2 hs

theorem setValueLightWork_levels (c : Channel) (level ramp : Nat) (hs : s.LevelsSafe) :
    (setValueLightWork c level ramp s).1.LevelsSafe := by
  unfold setValueLightWork
  (repeat' split)
  · exact hs
  · exact applyLight_levels c level ramp hs
  · exact hs

theorem setTargetWork_levels (t : Target) (level ramp : Nat) (hs : s.LevelsSafe) :
    (setTargetWork t level ramp s).1.LevelsSafe := by
  have hlight (c : Channel) : (setTargetLight c level ramp s).1.LevelsSafe := by
    unfold setTargetLight
    (repeat' split)
    · exact hs
    · exact hs
    · exact applyLight_levels c level ramp hs
  unfold setTargetWork
  split
  · exact hlight .house
  · exact hlight .aisle
  · exact hs

theorem setValueArcWork_levels (l : Side) (rate : Nat) (hs : s.LevelsSafe) : (setValueArcWork l rate s).1.LevelsSafe := by
  unfold setValueArcWork
  dsimp only
  split
  · exact State.LevelsSafe.manualRate (s := s) (l := l) rfl rfl (clamp_within (Nat.zero_le _) rate).2 hs
  · exact hs

theorem changeSettingWork_levels (n value : Nat) (hs : s.LevelsSafe) : (changeSettingWork n value s).1.LevelsSafe := by
  have happlied := applySettings_levels
    (Settings.change_inRange hs.working (Settings.clamped_within hs.working n value)) hs
  unfold changeSettingWork
  dsimp only
  split
  · rw [settingReply_fst]; exact hs
  · split
    · exact hs
    · rw [settingReply_fst]
      split
      · exact happlied.of_eq (by simp) (by simp)
      · exact happlied

theorem setValueSettingWork_levels (n value : Nat) (hs : s.LevelsSafe) : (setValueSettingWork n value s).1.LevelsSafe := by
  unfold setValueSettingWork
  split
  · exact setValueArcWork_levels _ value hs
  · exact changeSettingWork_levels n value hs

theorem loadPresetWork_levels (n : Nat) (hs : s.LevelsSafe) : (loadPresetWork n s).1.LevelsSafe := by
  have happlied := applySettings_levels (Store.channel_inRange hs.1 n) hs
  unfold loadPresetWork
  dsimp only
  split
  · exact hs
  · rename_i hn
    (repeat' split)
    · exact hs
    · exact hs
    · obtain ⟨⟨hworking, hone, htwo, hthree, -, hsave⟩, hhouse, haisle⟩ := happlied
      exact ⟨⟨hworking, hone, htwo, hthree, not_lt.1 hn, hsave⟩, hhouse, haisle⟩

theorem savePresetWork_levels (n : Nat) (hs : s.LevelsSafe) : (savePresetWork n s).1.LevelsSafe := by
  unfold savePresetWork
  split
  · exact hs
  · rename_i hn
    split
    · exact hs
    · obtain ⟨⟨hworking, hone, htwo, hthree, hstart, -⟩, hhouse, haisle⟩ := hs
      refine ⟨⟨hworking, hone, htwo, hthree, hstart, fun j hj => ?_⟩, hhouse, haisle⟩
      obtain rfl := Option.some.inj hj
      exact ⟨hworking, show Within 1 3 n by omega⟩

theorem stopAllWork_levels (hs : s.LevelsSafe) : (stopAllWork s).1.LevelsSafe := by
  unfold stopAllWork
  dsimp only
  generalize hstopped : settleWithholding ((emergencyStop .b (emergencyStop .a s)).onSeq _) = u
  have hu : u.LevelsSafe := hs.of_eq (by simp [← hstopped]) (by simp [← hstopped])
  split
  · have hlevel := (levels_le hu).2.1
    obtain ⟨hstore, hhouse, haisle⟩ := hu
    exact ⟨hstore, hhouse.jump ⟨Nat.zero_le _, Nat.mul_le_mul_right 16 hlevel⟩, haisle⟩
  · exact hu

theorem generalResetWork_levels (hs : s.LevelsSafe) : (generalResetWork s).1.LevelsSafe := by
  have hchannel := Store.channel_inRange hs.1 s.store.startChannel
  unfold generalResetWork
  (repeat' split)
  · exact hs
  · exact hs
  · obtain ⟨⟨-, hchannels⟩, -, -⟩ := hs
    exact ⟨⟨hchannel, hchannels⟩, .reset (Nat.zero_le _), .reset hchannel.aisleLeast⟩

theorem rowWork_levels (c : Instr) (hs : s.LevelsSafe) : (rowWork c s).1.LevelsSafe := by
  cases h : bearsOnLevels c with
  | false =>
    obtain ⟨hlights, hstore⟩ := rowWork_levels_kept h s
    exact hs.of_eq hlights hstore
  | true =>
    cases c
    case setMode => exact setModeWork_levels _ _ hs
    case setValueHouse => exact setValueLightWork_levels _ _ _ hs
    case setValueArc => exact setValueArcWork_levels _ _ hs
    case setValueSetting => exact setValueSettingWork_levels _ _ hs
    case setTarget => exact setTargetWork_levels _ _ _ hs
    case generalReset => exact generalResetWork_levels hs
    case stopAll => exact stopAllWork_levels hs
    case drop => exact dropFire_levels _ _ hs
    case loadPreset => exact loadPresetWork_levels _ hs
    case savePreset => exact savePresetWork_levels _ hs
    all_goals nomatch h

/-! ### The events and a boundary -/

theorem exec_event_levels {c : Instr} {t : State} (hr : requestOf c = none) (hl : isLineRow c = false)
    (he : exec c s = .next t) (hc : s.CuesSafe) (hs : s.LevelsSafe) : t.LevelsSafe := by
  cases c
  all_goals first | (cases hr; done) | (cases hl; done) | obtain rfl := Host.Outcome.next.inj he
  case saveTimerExpiry => exact finishSave_levels hs
  case cueMark => exact judgeMark_levels _ _ hs
  case swapPoint => exact swapPointTest_levels _ hs
  case showStartFadeAndMotor => exact showStartFadeAndMotor_levels _ _ hs
  case houseCueReached => exact judgeHouseCue_levels hc hs
  case feedInterval => exact feedInterval_levels _ _ _ _ hs
  case trimConverged =>
    split
    · exact convergeTrim_levels (Nat.min_le_right ..) hs
    · exact hs
  case filmLossSwitch => exact moveFilmLoss_levels _ _ hs
  case fireLinkOpen => exact dropFire_levels _ _ (s := s.onFire fun u => { u with link := .opened }) hs
  case highClampAdjust | lowClampAdjust | trimFailed => split <;> exact hs.of_eq (by simp) (by simp)
  all_goals exact hs.of_eq (by simp) (by simp)

theorem ownWork_levels (r : Readings) (hs : s.LevelsSafe) : (ownWork r s).LevelsSafe := by
  have hcounted : s.counted.LevelsSafe := hs
  have hwatched : (arcWatch .b r.amperes.b (arcWatch .a r.amperes.a (beforeWatch r s.counted))).LevelsSafe :=
    (projectorWork_levels .b (projectorWork_levels .a hcounted)).of_eq (by simp [beforeWatch]) (by simp [beforeWatch])
  have hfed := tickFeed_levels .b r.volts.b r.amperes.b (tickFeed_levels .a r.volts.a r.amperes.a hwatched)
  rw [ownWork_eq]
  unfold afterWatch
  dsimp only
  generalize hshut : judgeLink (tickShutter .observation2 _) = u
  have hu : u.LevelsSafe := hfed.of_eq (by simp [← hshut]) (by simp [← hshut])
  exact (tickSave_levels hu).of_eq (by simp) (by simp)

theorem boundary_levels (r : Readings) (hc : s.CuesSafe) (hs : s.LevelsSafe) : (boundary r s).LevelsSafe := by
  have hcues : (judgeWindow (sendFrame (countdownStep (rampStep (ownWork r s))))).CuesSafe := by
    have hown := hc.of_moves (ownWork_moves r s)
    exact fun x hx => hown x (by simpa using hx)
  have hstepped := rampStep_levels (ownWork_levels r hs)
  rw [boundary_eq]
  refine showStartSteps_levels .b (showStartSteps_levels .a ?_)
  split
  · exact hstepped.of_eq (by simp) (by simp)
  · exact sequencerTests_levels (judgeHouseCue_levels hcues (hstepped.of_eq (by simp) (by simp)))

theorem powerUp_levels (x : PowerOnSensed) (hs : s.LevelsSafe) : (powerUp x s).LevelsSafe := by
  have hstore : (powerUp x s).store.InRange := by
    obtain ⟨hworking, hone, htwo, hthree, hstart, -⟩ := hs.1
    rw [powerUp_eq]
    show (if storeGood s.store x then s.store.loaded else Store.rebuiltAnew).InRange
    split
    · exact ⟨Store.channel_inRange hs.1 _, hone, htwo, hthree, hstart, fun _ h => nomatch h⟩
    · exact ⟨Settings.factory_inRange, Settings.factory_inRange, Settings.factory_inRange, Settings.factory_inRange,
        by decide, fun _ h => nomatch h⟩
  have hlights : (powerUp x s).lights = { house := Light.reset, aisle := Light.reset } := by rw [powerUp_eq]; rfl
  rw [State.LevelsSafe, hlights]
  exact ⟨hstore, .reset (Nat.zero_le _), .reset hstore.1.aisleLeast⟩

/-! ### The cues -/

theorem commitEdit_cues {records : List Reel} (h : ∀ r ∈ records, r.cueInRange = true) (hs : s.CuesSafe) :
    (commitEdit records s).1.CuesSafe := by
  by_cases hdone : s.seq.automation = .off ∨ (formatCheck s.store.working records).1 = 0
  · rw [commitEdit_done hdone]; exact h
  · obtain ⟨hauto, hcode⟩ := not_or.1 hdone
    rw [commitEdit_refused hauto hcode]; exact hs

theorem cueOf_inRange {action point level ramp : Nat} (h : cueFault action point level ramp = none) (r : Reel) :
    ({ r with cue := cueOf action point level ramp, cueTaken := false } : Reel).cueInRange = true := by
  by_cases haction : action = 1
  · have hlevel : level ≤ 100 := by
      unfold cueFault at h
      (repeat' split at h) <;> first | (cases h; done) | omega
    simp [cueOf, Reel.cueInRange, haction, hlevel]
  · simp [cueOf, Reel.cueInRange, haction]

/-- A change at the record of one number that leaves or brings a cue in range. -/
theorem cues_map {n : Nat} {f : Reel → Reel} (hf : ∀ r, r.cueInRange = true → (f r).cueInRange = true)
    (hs : s.CuesSafe) :
    ∀ r ∈ s.reels.records.map fun r => if r.number = n then f r else r, r.cueInRange = true := by
  intro r hr
  obtain ⟨x, hx, rfl⟩ := List.mem_map.1 hr
  split
  · exact hf x (hs x hx)
  · exact hs x hx

theorem loadWork_cues (reel f0 : Nat) (p : Side) (hs : s.CuesSafe) : (loadWork reel f0 p s).1.CuesSafe := by
  have hbound := cues_map (n := reel) (f := fun r => { r with status := .bound }) (fun _ => id) hs
  unfold loadWork
  split
  · exact hs
  · dsimp only
    (repeat' split)
    · exact hs
    · intro r hr
      refine hbound r ?_
      simpa [setReelStatus, answerDone] using hr
    · exact hs

/-- A new record has no house cue. -/
theorem enteredReel_cue (x : ReelEntry) : (enteredReel x).cueInRange = true := rfl

theorem rowWork_cues (c : Instr) (hs : s.CuesSafe) : (rowWork c s).1.CuesSafe := by
  cases h : isListRow c with
  | false => exact hs.of_moves (rowWork_moves h s)
  | true =>
    cases c
    case load => exact onProjector_keeps (fun p => loadWork_cues _ _ p hs) hs _
    case add x =>
      change (addWork x s).1.CuesSafe
      unfold addWork
      (repeat' split) <;> try exact hs
      refine commitEdit_cues (fun r hr => ?_) hs
      obtain hr | hr := List.mem_append.1 hr
      · exact hs r hr
      · exact List.mem_singleton.1 hr ▸ enteredReel_cue x
    case insert before x =>
      change (insertWork before x s).1.CuesSafe
      unfold insertWork
      (repeat' split) <;> try exact hs
      refine commitEdit_cues (fun r hr => ?_) hs
      obtain hr | hr := List.mem_append.1 hr
      · exact hs r (List.takeWhile_subset _ hr)
      · obtain rfl | hr := List.mem_cons.1 hr
        · exact enteredReel_cue x
        · exact hs r (List.dropWhile_subset _ hr)
    case remove reel =>
      change (removeWork reel s).1.CuesSafe
      unfold removeWork
      (repeat' split) <;> try exact hs
      exact commitEdit_cues (fun r hr => hs r (List.mem_filter.1 hr).1) hs
    case reelCue reel action point level ramp =>
      change (reelCueWork reel action point level ramp s).1.CuesSafe
      unfold reelCueWork
      (repeat' split) <;> try exact hs
      rename_i hgood _
      exact commitEdit_cues (cues_map (fun r _ => cueOf_inRange hgood r) hs) hs
    case clearList =>
      change (clearListWork s).1.CuesSafe
      unfold clearListWork
      split
      · exact commitEdit_cues (fun _ h => nomatch h) hs
      · exact hs
    case repeatShow =>
      change (repeatShowWork s).1.CuesSafe
      unfold repeatShowWork
      split
      · refine commitEdit_cues (fun r hr => ?_) hs
        obtain ⟨x, hx, rfl⟩ := List.mem_map.1 hr
        exact hs x hx
      · exact hs
    case skipReel reel =>
      change (skipReelWork reel s).1.CuesSafe
      unfold skipReelWork
      (repeat' split) <;> try exact hs
      exact commitEdit_cues (cues_map (fun _ => id) hs) hs
    case generalReset =>
      change (generalResetWork s).1.CuesSafe
      unfold generalResetWork
      (repeat' split) <;> try exact hs
      exact fun _ h => nomatch h
    all_goals nomatch h

end

/-! ### The statement -/

theorem keptByBooth_ranges : KeptByBooth fun s => s.LevelsSafe ∧ s.CuesSafe ∧ s.CountersSafe where
  line h hs := by rw [h]; exact hs
  raise k d s hs :=
    ⟨hs.1.of_eq (by simp) (by simp), hs.2.1.of_moves (raiseCondition_moves k d s), hs.2.2.of_proj (by simp)⟩
  work c _ hs := ⟨rowWork_levels c hs.1, rowWork_cues c hs.2.1, rowWork_counters c hs.2.2⟩
  event hr hl he hs :=
    ⟨exec_event_levels hr hl he hs.2.1 hs.1, hs.2.1.of_moves (exec_event_moves hr hl he),
      exec_event_counters hr hl he hs.2.2⟩
  boundary r s hs :=
    ⟨boundary_levels r hs.2.1 hs.1, hs.2.1.of_moves (boundary_moves r s), boundary_counters r hs.2.2⟩
  powerUp x s hs :=
    have hcues : (powerUp x s).CuesSafe := by
      rw [State.CuesSafe, (powerUp_cleared x s).1]
      exact fun _ h => nomatch h
    have hcounters : (powerUp x s).CountersSafe := by
      rw [powerUp_eq]
      exact fun p => by cases p <;> exact Projector.powerOn_inRange ..
    ⟨powerUp_levels x hs.1, hcues, hcounters⟩

/-- Settles O56: the store and the channels, the house cues, and the projectors' counts are each kept by every operation of
the booth. -/
theorem stepKeepsRangesSafe : Obligations.StepKeepsRangesSafe := by
  unfold Obligations.StepKeepsRangesSafe
  intro s t hs hstep
  exact (rangesSafe_iff t).2 (keptByBooth_ranges.step ((rangesSafe_iff s).1 hs) hstep)

end Sys2Proof.Machine
end

section
/-! LOAD, UNLOAD and STOP (R46, R47, R61, R64). -/

namespace Sys2Proof.Machine

open Sys2Proof

section
variable {s : State} {n : Station} {p : Side}

theorem settleWithholding_seq (s : State) :
    (settleWithholding s).seq = { s.seq with withholding := (settleWithholding s).seq.withholding } :=
  congrArg State.seq (settleWithholding_eq s)

theorem namedReel_some {reel : Nat} {r : Reel} (h : s.Names reel r) : namedReel s reel = some r := by
  rw [namedReel, if_pos ⟨h.1, h.2.1⟩, h.2.2]

/-! ### LOAD (R46) -/

/-- The booth right after LOAD has bound the record, before what a withholding stands on is looked at again. -/
def State.loaded (s : State) (p : Side) (reel f0 : Nat) : State :=
  (setReelStatus reel .bound (s.onProj p fun x => x.threaded f0)).onSeq fun q => { q with douse := q.douse.set p none }

theorem loadWork_named_none {reel f0 : Nat} (h : namedReel s reel = none) :
    loadWork reel f0 p s = answerRefused s .refusedRange 1 := by
  rw [loadWork, h]

theorem loadWork_beyond {reel f0 : Nat} {r : Reel} (h : namedReel s reel = some r) (hf0 : maxF < f0) :
    loadWork reel f0 p s = answerRefused s .refusedRange 2 := by
  rw [loadWork, h]; exact if_pos hf0

theorem loadWork_held {reel f0 : Nat} {r : Reel} (h : namedReel s reel = some r) (hf0 : f0 ≤ maxF)
    (hheld : s.loadAllowed p r = false) : loadWork reel f0 p s = answerRefused s .refusedState 0 := by
  rw [loadWork, h]
  exact (if_neg (not_lt.2 hf0)).trans (if_neg (Bool.eq_false_iff.1 hheld))

theorem loadWork_allowed {reel f0 : Nat} {r : Reel} (h : namedReel s reel = some r) (hf0 : f0 ≤ maxF)
    (hallowed : s.loadAllowed p r = true) :
    loadWork reel f0 p s = answerDone (settleWithholding (s.loaded p reel f0)) 0 := by
  rw [loadWork, h]
  exact (if_neg (not_lt.2 hf0)).trans (if_pos hallowed)

theorem loadAllowed_eq_false_iff {r : Reel} :
    s.loadAllowed p r = false ↔ (s.proj.get p).state ≠ .idle ∨ r.projector ≠ p
      ∨ (r.status ≠ .waiting ∧ r.status ≠ .interrupted)
      ∨ (s.seq.automation = .engaged ∧ (nextFor s.reels.records p).map Reel.number ≠ some r.number) := by
  rw [Bool.eq_false_iff, Ne, loadAllowed_iff]
  tauto

theorem exec_load {reel f0 : Nat} (hadmits : s.admits n .load (.proj p) = true) :
    exec (.load n (.proj p) reel f0) s = .next (queueAnswer n Kind.load.code (loadWork reel f0 p s)) :=
  takeRequest_admits (onProjector (.proj p) (loadWork reel f0)) hadmits

/-- Settles O27: LOAD is judged by its two fields and by the state, and threads the projector when all allow it. -/
theorem loadThreadsAndBinds : Obligations.LoadThreadsAndBinds := by
  unfold Obligations.LoadThreadsAndBinds
  intro n p reel f0 s hadmits
  rw [exec_load hadmits]
  refine ⟨fun hnone => ?_, fun r hleast hmost hfound => ⟨fun hf0 => ?_, fun hf0 hheld => ?_, ?_⟩⟩
  · rw [loadWork_named_none (namedReel_none hnone), queueAnswer_refused]
  · rw [loadWork_beyond (namedReel_some ⟨hleast, hmost, hfound⟩) hf0, queueAnswer_refused]
  · have hrefused : s.loadAllowed p r = false := loadAllowed_eq_false_iff.2 (by simpa using hheld)
    rw [loadWork_held (namedReel_some ⟨hleast, hmost, hfound⟩) hf0 hrefused, queueAnswer_refused]
  · intro hf0 hidle hp hst hnext
    have hallowed : s.loadAllowed p r = true := loadAllowed_iff.2 ⟨hidle, hp, hst, by simpa using hnext⟩
    rw [loadWork_allowed (namedReel_some ⟨hleast, hmost, hfound⟩) hf0 hallowed, queueAnswer_done]
    have hkept := settleWithholding_frame (s.loaded p reel f0)
    obtain ⟨hline, hrotation, hreels, hproj, hlamp, hlights, hfire, hcond, hstore, hpending, -⟩ := hkept
    exact ⟨_, rfl, hproj, hreels, settleWithholding_seq _, settleWithholding_only (s.loaded p reel f0),
      ⟨by rw [State.answered, State.answered, hline]; rfl, hrotation, hpending⟩, hlamp, hlights, hfire, hcond, hstore⟩

/-! ### UNLOAD (R47) -/

/-- The booth right after UNLOAD, before what a withholding stands on is looked at again. -/
def State.unloaded (s : State) (p : Side) : State :=
  if (s.proj.get p).state = .threaded then setBoundStatus p .waiting (s.onProj p Projector.unloaded)
  else s.onProj p Projector.unloaded

theorem unloadWork_done
    (h : (s.proj.get p).state = .threaded ∨ (s.proj.get p).state = .stopped ∨ (s.proj.get p).state = .broken) :
    unloadWork p s = answerDone (settleWithholding (s.unloaded p)) 0 := by
  unfold unloadWork State.unloaded
  obtain h | h | h := h <;> simp only [h] <;> rfl

theorem unloadWork_refused (h : (s.proj.get p).state = .idle ∨ (s.proj.get p).state.moving = true) :
    unloadWork p s = answerRefused s .refusedState 0 := by
  unfold unloadWork
  split
  · rename_i hst; simp [hst, ProjectorState.moving] at h
  · rename_i hst; simp [hst, ProjectorState.moving] at h
  · rename_i hst; simp [hst, ProjectorState.moving] at h
  · rfl

theorem unloaded_frame (p : Side) (s : State) :
    s.unloaded p = { s with
      proj := s.proj.set p (s.proj.get p).unloaded
      reels :=
        if (s.proj.get p).state = .threaded then { s.reels with records := boundBecome s.reels.records p .waiting }
        else s.reels } := by
  unfold State.unloaded
  split <;> rfl

/-- Settles O28: UNLOAD is carried out in three states and refused in the others. -/
theorem unloadTakesTheProjectorIdle : Obligations.UnloadTakesTheProjectorIdle := by
  unfold Obligations.UnloadTakesTheProjectorIdle
  intro n p s hadmits
  have hexec : exec (.unload n (.proj p)) s = .next (queueAnswer n Kind.unload.code (unloadWork p s)) :=
    takeRequest_admits (onProjector (.proj p) unloadWork) hadmits
  rw [hexec]
  refine ⟨fun hstands => ?_, fun hother => ?_⟩
  · rw [unloadWork_done hstands, queueAnswer_done, unloaded_frame]
    generalize hu : ({ s with proj := _, reels := _ } : State) = u
    obtain ⟨hline, hrotation, hreels, hproj, hlamp, hlights, hfire, hcond, hstore, hpending, -⟩ :=
      settleWithholding_frame u
    have hseq := settleWithholding_seq u
    have honly := settleWithholding_only u
    subst hu
    exact ⟨_, rfl, hproj, hreels, hseq, honly, ⟨by rw [State.answered, State.answered, hline], hrotation, hpending⟩,
      hlamp, hlights, hfire, hcond, hstore⟩
  · rw [unloadWork_refused hother, queueAnswer_refused]

/-! ### STOP (R64) -/

theorem stopWork_moving (h : (s.proj.get p).state.moving = true) : stopWork p s = answerDone (stopProjector p s) 0 :=
  if_pos h

theorem stopWork_threaded (h : (s.proj.get p).state = .threaded) : stopWork p s = answerDone (clearStart p s) 0 := by
  rw [stopWork, h]; rfl

theorem stopWork_refused
    (h : (s.proj.get p).state = .idle ∨ (s.proj.get p).state = .stopped ∨ (s.proj.get p).state = .broken) :
    stopWork p s = answerRefused s .refusedState 0 := by
  rw [stopWork]; obtain h | h | h := h <;> rw [h] <;> rfl

/-- Settles O30: STOP of a moving projector is the stop that R64 gives, and in THREADED it clears the start alone. -/
theorem stopReturnsToThreaded : Obligations.StopReturnsToThreaded := by
  unfold Obligations.StopReturnsToThreaded
  intro n p s hadmits
  have hexec : exec (.stop n (.proj p)) s = .next (queueAnswer n Kind.stop.code (stopWork p s)) :=
    takeRequest_admits (onProjector (.proj p) stopWork) hadmits
  rw [hexec]
  refine ⟨fun hmoving => ?_, fun hthreaded => ?_, fun hother => ?_⟩
  · rw [stopWork_moving hmoving, queueAnswer_done]
    have heq := stopProjector_eq p s
    have hproj := congrArg State.proj heq
    have hreels := congrArg State.reels heq
    have hseq := congrArg State.seq heq
    obtain ⟨hline, hrotation, hlamp, hlights, hfire, hcond, hstore, hpending, -⟩ := stopProjector_frame p s
    exact ⟨_, rfl, hproj, hreels, hseq, stopProjector_only p s, ⟨by rw [State.answered, State.answered, hline],
      hrotation, hpending⟩, hlamp, hlights, hfire, hcond, hstore⟩
  · rw [stopWork_threaded hthreaded, queueAnswer_done]
    have heq := clearStart_eq p s
    have hproj := congrArg State.proj heq
    have hseq := congrArg State.seq heq
    obtain ⟨hline, hrotation, hreels, hlamp, hlights, hfire, hcond, hstore, hpending, -⟩ := clearStart_frame p s
    exact ⟨_, rfl, hproj, hseq, clearStart_only p s, ⟨by rw [State.answered, State.answered, hline], hrotation,
      hpending⟩, hreels, hlamp, hlights, hfire, hcond, hstore⟩
  · rw [stopWork_refused hother, queueAnswer_refused]

end

end Sys2Proof.Machine
end

section
/-! The format checks by their first offender (R54), and the seven edits (R48 to R53). -/

namespace Sys2Proof.Machine

open Sys2Proof

/-! ### The first offender of a check -/

/-- `x` is the first entry of a list that is not good. -/
def FirstAt {α : Type} (l : List α) (good : α → Prop) (x : α) : Prop :=
  ∃ front back, l = front ++ x :: back ∧ (∀ y ∈ front, good y) ∧ ¬good x

theorem FirstAt.not_all {α : Type} {l : List α} {good : α → Prop} {x : α} (h : FirstAt l good x) :
    ¬∀ y ∈ l, good y := by
  obtain ⟨front, back, rfl, -, hx⟩ := h
  exact fun hall => hx (hall x (by simp))

theorem firstAt_of_find? {α : Type} {l : List α} {bad : α → Bool} {good : α → Prop}
    (hgood : ∀ x, bad x = false ↔ good x) {x : α} (h : l.find? bad = some x) : FirstAt l good x := by
  obtain ⟨hx, front, back, hl, hfront⟩ := List.find?_eq_some_iff_append.1 h
  refine ⟨front, back, hl, fun y hy => (hgood y).1 (by simpa using hfront y hy), fun hgx => ?_⟩
  rw [(hgood x).2 hgx] at hx
  cases hx

theorem all_of_find? {α : Type} {l : List α} {bad : α → Bool} {good : α → Prop}
    (hgood : ∀ x, bad x = false ↔ good x) (h : l.find? bad = none) : ∀ y ∈ l, good y := fun y hy =>
  (hgood y).1 (by simpa using List.find?_eq_none.1 h y hy)

/-! ### The checks (R54) -/

section
variable (t : Settings)

/-- The two records of a linked pair are on two projectors. -/
def Alternates (x : Reel × Reel) : Prop := x.1.projector ≠ x.2.projector

/-- Check 3. -/
def LongEnough (r : Reel) : Prop := r.leader + 240 ≤ r.endFrame

/-- Check 4. -/
def StrikeLeadFits (x : Reel × Reel) : Prop := t.sLead ≤ (x.1.endFrame - x.1.leader) * 10 / 24

/-- Check 5. -/
def MotorLeadFits (x : Reel × Reel) : Prop :=
  (x.2.leader * 10 + 23) / 24 + t.runUp + (t.lamp.get x.2.projector).warm ≤ t.sLead

/-- Check 6. -/
def CueFits (r : Reel) : Prop := ∀ c, r.cue = some c → c.point ≤ r.endFrame - r.leader

theorem alternates_iff (x : Reel × Reel) : decide (x.1.projector = x.2.projector) = false ↔ Alternates x :=
  decide_eq_false_iff_not

theorem longEnough_iff (r : Reel) : (!longEnough r) = false ↔ LongEnough r := by
  simp [longEnough, LongEnough]

theorem strikeLeadFits_iff (x : Reel × Reel) : (!strikeLeadFits t x.1) = false ↔ StrikeLeadFits t x := by
  simp [strikeLeadFits, StrikeLeadFits]

theorem motorLeadFits_iff (x : Reel × Reel) : (!motorLeadFits t x.2) = false ↔ MotorLeadFits t x := by
  rw [motorLeadFits, motorLead_eq, Bool.not_eq_false', decide_eq_true_iff, MotorLeadFits]

theorem cueFits_iff (r : Reel) : (!cueFits r) = false ↔ CueFits r := by
  unfold cueFits CueFits
  cases r.cue <;> simp

/-- What the checks come to: the first of the six that fails, at its first offender, or none (R54). -/
inductive FormatOutcome (records : List Reel) : Nat × Nat → Prop where
  | empty (h1 : remainingShow records = []) : FormatOutcome records (1, 0)
  | pair (h1 : remainingShow records ≠ []) (x : Reel × Reel) (hx : FirstAt (linkedPairs records) Alternates x) :
    FormatOutcome records (2, x.2.number)
  | short (h1 : remainingShow records ≠ []) (h2 : ∀ x ∈ linkedPairs records, Alternates x) (r : Reel)
    (hr : FirstAt (remainingShow records) LongEnough r) : FormatOutcome records (3, r.number)
  | strike (h1 : remainingShow records ≠ []) (h2 : ∀ x ∈ linkedPairs records, Alternates x)
    (h3 : ∀ r ∈ remainingShow records, LongEnough r) (x : Reel × Reel)
    (hx : FirstAt (linkedPairs records) (StrikeLeadFits t) x) : FormatOutcome records (4, x.1.number)
  | motor (h1 : remainingShow records ≠ []) (h2 : ∀ x ∈ linkedPairs records, Alternates x)
    (h3 : ∀ r ∈ remainingShow records, LongEnough r) (h4 : ∀ x ∈ linkedPairs records, StrikeLeadFits t x)
    (x : Reel × Reel) (hx : FirstAt (linkedPairs records) (MotorLeadFits t) x) : FormatOutcome records (5, x.2.number)
  | cue (h1 : remainingShow records ≠ []) (h2 : ∀ x ∈ linkedPairs records, Alternates x)
    (h3 : ∀ r ∈ remainingShow records, LongEnough r) (h4 : ∀ x ∈ linkedPairs records, StrikeLeadFits t x)
    (h5 : ∀ x ∈ linkedPairs records, MotorLeadFits t x) (r : Reel) (hr : FirstAt (remainingShow records) CueFits r) :
    FormatOutcome records (6, r.number)
  | good (h1 : remainingShow records ≠ []) (h2 : ∀ x ∈ linkedPairs records, Alternates x)
    (h3 : ∀ r ∈ remainingShow records, LongEnough r) (h4 : ∀ x ∈ linkedPairs records, StrikeLeadFits t x)
    (h5 : ∀ x ∈ linkedPairs records, MotorLeadFits t x) (h6 : ∀ r ∈ remainingShow records, CueFits r) :
    FormatOutcome records (0, 0)

theorem formatCheck_outcome (records : List Reel) : FormatOutcome t records (formatCheck t records) := by
  unfold formatCheck
  dsimp only
  split
  · rename_i hempty
    exact .empty (List.isEmpty_iff.1 hempty)
  · rename_i hsome
    have h1 : remainingShow records ≠ [] := fun h => hsome (List.isEmpty_iff.2 h)
    split
    · exact .pair h1 _ (firstAt_of_find? alternates_iff ‹_›)
    · have h2 := all_of_find? alternates_iff ‹_›
      split
      · exact .short h1 h2 _ (firstAt_of_find? longEnough_iff ‹_›)
      · have h3 := all_of_find? longEnough_iff ‹_›
        split
        · exact .strike h1 h2 h3 _ (firstAt_of_find? (strikeLeadFits_iff t) ‹_›)
        · have h4 := all_of_find? (strikeLeadFits_iff t) ‹_›
          split
          · exact .motor h1 h2 h3 h4 _ (firstAt_of_find? (motorLeadFits_iff t) ‹_›)
          · have h5 := all_of_find? (motorLeadFits_iff t) ‹_›
            split
            · exact .cue h1 h2 h3 h4 h5 _ (firstAt_of_find? cueFits_iff ‹_›)
            · exact .good h1 h2 h3 h4 h5 (all_of_find? cueFits_iff ‹_›)

end

theorem remainingShow_eq (records : List Reel) : remainingShow records =
    records.filter (fun r => decide (r.status ≠ .shown) && decide (r.status ≠ .skipped)) := by
  refine List.filter_congr fun r _ => ?_
  unfold Reel.remains
  cases r.status <;> rfl

/-- The code is the number of the first of six conditions that fails. -/
theorem FormatOutcome.code_iff {t : Settings} {records : List Reel} {x : Nat × Nat} (h : FormatOutcome t records x)
    {c1 c2 c3 c4 c5 c6 : Prop} (h1 : c1 ↔ remainingShow records ≠ [])
    (h2 : c2 ↔ ∀ x ∈ linkedPairs records, Alternates x) (h3 : c3 ↔ ∀ r ∈ remainingShow records, LongEnough r)
    (h4 : c4 ↔ ∀ x ∈ linkedPairs records, StrikeLeadFits t x) (h5 : c5 ↔ ∀ x ∈ linkedPairs records, MotorLeadFits t x)
    (h6 : c6 ↔ ∀ r ∈ remainingShow records, CueFits r) :
    (x.1 = 0 ↔ c1 ∧ c2 ∧ c3 ∧ c4 ∧ c5 ∧ c6) ∧ (x.1 = 1 ↔ ¬c1) ∧ (x.1 = 2 ↔ c1 ∧ ¬c2) ∧ (x.1 = 3 ↔ c1 ∧ c2 ∧ ¬c3)
      ∧ (x.1 = 4 ↔ c1 ∧ c2 ∧ c3 ∧ ¬c4) ∧ (x.1 = 5 ↔ c1 ∧ c2 ∧ c3 ∧ c4 ∧ ¬c5)
      ∧ (x.1 = 6 ↔ c1 ∧ c2 ∧ c3 ∧ c4 ∧ c5 ∧ ¬c6) := by
  cases h with
  | empty e1 =>
    have n1 : ¬c1 := fun h => h1.1 h e1
    simp [n1]
  | pair e1 x hx =>
    have n2 : ¬c2 := fun h => hx.not_all (h2.1 h)
    simp [h1.2 e1, n2]
  | short e1 e2 r hr =>
    have n3 : ¬c3 := fun h => hr.not_all (h3.1 h)
    simp [h1.2 e1, h2.2 e2, n3]
  | strike e1 e2 e3 x hx =>
    have n4 : ¬c4 := fun h => hx.not_all (h4.1 h)
    simp [h1.2 e1, h2.2 e2, h3.2 e3, n4]
  | motor e1 e2 e3 e4 x hx =>
    have n5 : ¬c5 := fun h => hx.not_all (h5.1 h)
    simp [h1.2 e1, h2.2 e2, h3.2 e3, h4.2 e4, n5]
  | cue e1 e2 e3 e4 e5 r hr =>
    have n6 : ¬c6 := fun h => hr.not_all (h6.1 h)
    simp [h1.2 e1, h2.2 e2, h3.2 e3, h4.2 e4, h5.2 e5, n6]
  | good e1 e2 e3 e4 e5 e6 => simp [h1.2 e1, h2.2 e2, h3.2 e3, h4.2 e4, h5.2 e5, h6.2 e6]

theorem not_cueFits {r : Reel} (h : ¬CueFits r) : ∃ c, r.cue = some c ∧ r.endFrame - r.leader < c.point := by
  unfold CueFits at h
  push Not at h
  exact h

/-- Settles O32: the checks are taken in turn, and each stops at its first offender. -/
theorem formatCodeIsTheFirstFailingCheck : Obligations.FormatCodeIsTheFirstFailingCheck := by
  unfold Obligations.FormatCodeIsTheFirstFailingCheck
  intro t records rest pairs hrest hpairs c1 c2 c3 c4 c5 c6 h1 h2 h3 h4 h5 h6
  rw [← remainingShow_eq] at hrest
  have hlinked : pairs = linkedPairs records := by rw [hpairs, hrest]; rfl
  subst hrest hlinked
  have houtcome := formatCheck_outcome t records
  generalize formatCheck t records = code at houtcome
  obtain ⟨hzero, hone, htwo, hthree, hfour, hfive, hsix⟩ := houtcome.code_iff h1 h2 h3 h4 h5 h6
  refine ⟨hzero, hone, htwo, hthree, hfour, hfive, hsix, ?_⟩
  cases houtcome with
  | empty => exact ⟨by simp, by simp, by simp, by simp, by simp, by simp⟩
  | pair _ x hx =>
    obtain ⟨front, back, hl, hfront, hbad⟩ := hx
    exact ⟨by simp, fun _ => ⟨front, x, back, hl, hfront, not_not.1 hbad, rfl⟩, by simp, by simp, by simp, by simp⟩
  | short _ _ r hr =>
    obtain ⟨front, back, hl, hfront, hbad⟩ := hr
    exact ⟨by simp, by simp, fun _ => ⟨front, r, back, hl, hfront, not_le.1 hbad, rfl⟩, by simp, by simp, by simp⟩
  | strike _ _ _ x hx =>
    obtain ⟨front, back, hl, hfront, hbad⟩ := hx
    exact ⟨by simp, by simp, by simp, fun _ => ⟨front, x, back, hl, hfront, not_le.1 hbad, rfl⟩, by simp, by simp⟩
  | motor _ _ _ _ x hx =>
    obtain ⟨front, back, hl, hfront, hbad⟩ := hx
    exact ⟨by simp, by simp, by simp, by simp, fun _ => ⟨front, x, back, hl, hfront, not_le.1 hbad, rfl⟩, by simp⟩
  | cue _ _ _ _ _ r hr =>
    obtain ⟨front, back, hl, hfront, hbad⟩ := hr
    exact ⟨by simp, by simp, by simp, by simp, by simp, fun _ => ⟨front, r, back, hl, hfront, not_cueFits hbad, rfl⟩⟩
  | good => exact ⟨by simp, by simp, by simp, by simp, by simp, by simp⟩

end Sys2Proof.Machine
end

section
/-! The seven edits of the reel list (R48 to R53). -/

namespace Sys2Proof.Machine

open Sys2Proof

section
variable {s : State} {n : Station}

/-! ### What an edit is given -/

theorem namedReel_names {reel : Nat} {r : Reel} (h : s.Names reel r) : namedReel s reel = some r := namedReel_some h

theorem listFree_eq_false_iff :
    s.listFree = false ↔ s.seq.automation ≠ .off ∨ ∃ r ∈ s.reels.records, r.isBound = true := by
  rw [Bool.eq_false_iff, Ne, listFree_iff, not_and_or]
  simp

theorem ofCode_eq {code : Nat} {p : Side} (h : code = 1 ∧ p = .a ∨ code = 2 ∧ p = .b) : Side.ofCode code = some p := by
  obtain ⟨rfl, rfl⟩ | ⟨rfl, rfl⟩ := h <;> rfl

/-- The record that ADD and INSERT begin. -/
theorem enteredReel_eq {x : ReelEntry} {p : Side} (h : x.projector = 1 ∧ p = .a ∨ x.projector = 2 ∧ p = .b) :
    enteredReel x =
      { number := x.reel, projector := p, endFrame := x.endFrame, leader := x.leader, last := x.last
        intermission := x.intermission, cue := none, cueTaken := false, measuredEnd := none, status := .waiting } := by
  rw [enteredReel, ofCode_eq h]; rfl

/-- A record as REPEAT_SHOW leaves it. -/
theorem repeated_eq (r : Reel) :
    r.repeated =
      { r with
        cueTaken := false
        status := if r.status = .shown ∨ r.status = .skipped ∨ r.status = .interrupted then .waiting else r.status } := by
  unfold Reel.repeated
  cases h : r.status <;> simp

/-- No field of REEL_CUE after the reel number is refused (R51). -/
theorem cueFault_eq_none {action point level ramp : Nat}
    (h : action = 1 ∧ point ≤ 2880 ∧ level ≤ 100 ∧ ramp ≤ 600 ∨ action = 2) :
    cueFault action point level ramp = none := by
  unfold cueFault
  rw [if_neg (by omega), if_neg (by omega), if_neg (by omega), if_neg (by omega)]

/-- The first field of REEL_CUE that is refused. -/
theorem cueFault_eq_some {action point level ramp d : Nat}
    (h : action ≠ 1 ∧ action ≠ 2 ∧ d = 2
      ∨ action = 1 ∧ (2880 < point ∧ d = 3 ∨ point ≤ 2880 ∧ 100 < level ∧ d = 4
        ∨ point ≤ 2880 ∧ level ≤ 100 ∧ 600 < ramp ∧ d = 5)) : cueFault action point level ramp = some d := by
  unfold cueFault
  (repeat' split) <;> (congr 1; omega)

/-! ### The edits carried out -/

theorem clearListWork_free (hoff : s.seq.automation = .off) (hfree : ∀ r ∈ s.reels.records, r.isBound = false) :
    clearListWork s = commitEdit [] s := if_pos (listFree_iff.2 ⟨hoff, hfree⟩)

theorem repeatShowWork_free (hoff : s.seq.automation = .off) (hfree : ∀ r ∈ s.reels.records, r.isBound = false) :
    repeatShowWork s = commitEdit (s.reels.records.map Reel.repeated) s := if_pos (listFree_iff.2 ⟨hoff, hfree⟩)

theorem removeWork_free {reel : Nat} {r : Reel} (h : s.Names reel r) (hoff : s.seq.automation = .off)
    (hfree : r.isBound = false) :
    removeWork reel s = commitEdit (s.reels.records.filter fun y => y.number != reel) s := by
  rw [removeWork, namedReel_names h]
  exact if_neg (by simp [hoff, hfree])

theorem skipReelWork_waiting {reel : Nat} {r : Reel} (h : s.Names reel r) (hst : r.status = .waiting) :
    skipReelWork reel s =
      commitEdit (s.reels.records.map fun y => if y.number = reel then { y with status := .skipped } else y) s := by
  rw [skipReelWork, namedReel_names h]
  exact if_neg (by simp [hst])

theorem reelCueWork_good {reel action point level ramp : Nat} {r : Reel} (h : s.Names reel r)
    (hgood : cueFault action point level ramp = none) (hst : s.seq.automation ≠ .off → r.status = .waiting)
    (hfree : r.isBound = false) :
    reelCueWork reel action point level ramp s =
      commitEdit (withCue s.reels.records reel (cueOf action point level ramp)) s := by
  rw [reelCueWork, namedReel_names h, hgood]
  exact if_neg (by simpa [hfree] using hst)

theorem addWork_good {x : ReelEntry} (hgood : s.EntryGood x) (hroom : s.reels.records.length < 24) :
    addWork x s = commitEdit (s.reels.records ++ [enteredReel x]) s := by
  rw [addWork, entryFault_eq_none_iff.2 hgood]
  exact if_neg (not_le.2 hroom)

theorem insertWork_good {before : Nat} {r : Reel} {x : ReelEntry} (h : s.Names before r) (hgood : s.EntryGood x)
    (hoff : s.seq.automation = .off) (hroom : s.reels.records.length < 24) :
    insertWork before x s = commitEdit (insertBefore s.reels.records before (enteredReel x)) s := by
  rw [insertWork, namedReel_names h, entryFault_eq_none_iff.2 hgood]
  exact (if_neg (by simp)).trans ((if_neg (not_not.2 hoff)).trans (if_neg (not_le.2 hroom)))

/-! ### The edits refused -/

theorem listFree_refused (h : s.seq.automation ≠ .off ∨ ∃ r ∈ s.reels.records, r.isBound = true) :
    clearListWork s = answerRefused s .refusedState 0 ∧ repeatShowWork s = answerRefused s .refusedState 0 := by
  have hheld := Bool.eq_false_iff.1 (listFree_eq_false_iff.2 h)
  exact ⟨if_neg hheld, if_neg hheld⟩

theorem edits_unnamed {reel : Nat} (h : s.NamesNone reel) :
    removeWork reel s = answerRefused s .refusedRange 1 ∧ skipReelWork reel s = answerRefused s .refusedRange 1
      ∧ ∀ action point level ramp, reelCueWork reel action point level ramp s = answerRefused s .refusedRange 1 := by
  have hnone := namedReel_none h
  exact ⟨by rw [removeWork, hnone], by rw [skipReelWork, hnone], fun _ _ _ _ => by rw [reelCueWork, hnone]⟩

theorem removeWork_held {reel : Nat} {r : Reel} (h : s.Names reel r)
    (hheld : s.seq.automation ≠ .off ∨ r.isBound = true) : removeWork reel s = answerRefused s .refusedState 0 := by
  rw [removeWork, namedReel_names h]
  exact if_pos hheld

theorem skipReelWork_held {reel : Nat} {r : Reel} (h : s.Names reel r) (hst : r.status ≠ .waiting) :
    skipReelWork reel s = answerRefused s .refusedState 0 := by
  rw [skipReelWork, namedReel_names h]
  exact if_pos hst

theorem reelCueWork_fault {reel action point level ramp d : Nat} {r : Reel} (h : s.Names reel r)
    (hfault : cueFault action point level ramp = some d) :
    reelCueWork reel action point level ramp s = answerRefused s .refusedRange d := by
  rw [reelCueWork, namedReel_names h, hfault]

theorem reelCueWork_held {reel action point level ramp : Nat} {r : Reel} (h : s.Names reel r)
    (hgood : cueFault action point level ramp = none)
    (hheld : s.seq.automation ≠ .off ∧ r.status ≠ .waiting ∨ r.isBound = true) :
    reelCueWork reel action point level ramp s = answerRefused s .refusedState 0 := by
  rw [reelCueWork, namedReel_names h, hgood]
  exact if_pos hheld

theorem addWork_fault {x : ReelEntry} {d : Nat} (h : s.EntryFault x 1 d) :
    addWork x s = answerRefused s .refusedRange d := by
  rw [addWork, entryFault_eq_some_iff.2 h]

theorem addWork_full {x : ReelEntry} (hgood : s.EntryGood x) (hfull : 24 ≤ s.reels.records.length) :
    addWork x s = answerRefused s .full 0 := by
  rw [addWork, entryFault_eq_none_iff.2 hgood]
  exact if_pos hfull

theorem insertWork_unnamed {before : Nat} {x : ReelEntry} (h : s.NamesNone before) :
    insertWork before x s = answerRefused s .refusedRange 1 := by
  rw [insertWork, namedReel_none h]
  exact if_pos rfl

theorem insertWork_fault {before d : Nat} {r : Reel} {x : ReelEntry} (h : s.Names before r)
    (hfault : s.EntryFault x 2 d) : insertWork before x s = answerRefused s .refusedRange d := by
  rw [insertWork, namedReel_names h, entryFault_eq_some_iff.2 hfault]
  exact if_neg (by simp)

theorem insertWork_held {before : Nat} {r : Reel} {x : ReelEntry} (h : s.Names before r) (hgood : s.EntryGood x)
    (hheld : s.seq.automation ≠ .off) : insertWork before x s = answerRefused s .refusedState 0 := by
  rw [insertWork, namedReel_names h, entryFault_eq_none_iff.2 hgood]
  exact (if_neg (by simp)).trans (if_pos hheld)

theorem insertWork_full {before : Nat} {r : Reel} {x : ReelEntry} (h : s.Names before r) (hgood : s.EntryGood x)
    (hoff : s.seq.automation = .off) (hfull : 24 ≤ s.reels.records.length) :
    insertWork before x s = answerRefused s .full 0 := by
  rw [insertWork, namedReel_names h, entryFault_eq_none_iff.2 hgood]
  exact (if_neg (by simp)).trans ((if_neg (not_not.2 hoff)).trans (if_pos hfull))

end

section
variable {c : Instr} {n : Station} {k : Kind} {s : State}

/-- A request to the list that is admitted is its row's work, answered. -/
theorem exec_reels (hc : requestOf c = some (n, k, .reels))
    (hordinary : ∀ work, takeAs n k .reels work s = takeRequest n k .reels work s)
    (hadmits : s.admits n k .reels = true) : exec c s = .next (queueAnswer n k.code (rowWork c s)) :=
  (exec_eq_takeAs hc s).trans ((hordinary _).trans (takeRequest_admits _ hadmits))

theorem exec_reels_refused {st : Status} {d : Nat} (hc : requestOf c = some (n, k, .reels))
    (hordinary : ∀ work, takeAs n k .reels work s = takeRequest n k .reels work s)
    (hadmits : s.admits n k .reels = true) (hwork : rowWork c s = answerRefused s st d) :
    exec c s = .next (s.answered n k st d) := by
  rw [exec_reels hc hordinary hadmits, hwork, queueAnswer_refused]

/-- An edit is carried out with its code as the data, or refused with it (R48, R55). -/
theorem exec_reels_edit {records : List Reel} (hc : requestOf c = some (n, k, .reels))
    (hordinary : ∀ work, takeAs n k .reels work s = takeRequest n k .reels work s)
    (hadmits : s.admits n k .reels = true) (hwork : rowWork c s = commitEdit records s) :
    ((s.seq.automation = .off ∨ (formatCheck s.store.working records).1 = 0) →
        exec c s = .next ({ s with
          reels :=
            { records := records, code := (formatCheck s.store.working records).1
              faultReel := (formatCheck s.store.working records).2 } }.answered n k .done
            (formatCheck s.store.working records).1))
      ∧ (s.seq.automation ≠ .off → (formatCheck s.store.working records).1 ≠ 0 →
        exec c s = .next (s.answered n k .refusedState (formatCheck s.store.working records).1)) := by
  rw [exec_reels hc hordinary hadmits, hwork]
  exact ⟨fun h => by rw [commitEdit_done h, queueAnswer_done],
    fun hauto hcode => by rw [commitEdit_refused hauto hcode, queueAnswer_refused]⟩

end

/-- Settles O33: each edit whose tests hold is committed with the list its rule gives, and each test that fails refuses it
with its own number, in the order of R48. -/
theorem editsAreCarriedOut : Obligations.EditsAreCarriedOut := by
  unfold Obligations.EditsAreCarriedOut
  refine ⟨fun n s c k records hedit hadmits => ?_, fun n s c k st d hfault hadmits => ?_⟩
  · obtain ⟨rfl, rfl, rfl, hoff, hfree⟩ | ⟨rfl, rfl, hoff, hfree, rfl⟩
      | ⟨reel, r, rfl, rfl, hoff, hleast, hmost, hfound, hfree, rfl⟩
      | ⟨reel, r, rfl, rfl, hleast, hmost, hfound, hst, rfl⟩
      | ⟨reel, action, point, level, ramp, r, rfl, rfl, hleast, hmost, hfound, hfree, hst, hgood, rfl⟩
      | ⟨x, p, rfl, rfl, hroom, hleast, hmost, hnew, hp, hend, hend', hleader, hboth, rfl⟩
      | ⟨x, p, before, front, back, r, rfl, rfl, hoff, hroom, hleast, hmost, hrecords, rfl, hfront, hleast', hmost',
          hnew, hp, hend, hend', hleader, hboth, rfl⟩ := hedit
    · exact exec_reels_edit rfl (fun _ => rfl) hadmits (clearListWork_free hoff hfree)
    · refine exec_reels_edit rfl (fun _ => rfl) hadmits ((repeatShowWork_free hoff hfree).trans ?_)
      rw [funext repeated_eq]
    · refine exec_reels_edit rfl (fun _ => rfl) hadmits ((removeWork_free ⟨hleast, hmost, hfound⟩ hoff hfree).trans ?_)
      congr 2
      exact funext fun y => by by_cases h : y.number = reel <;> simp [h]
    · exact exec_reels_edit rfl (fun _ => rfl) hadmits (skipReelWork_waiting ⟨hleast, hmost, hfound⟩ hst)
    · exact exec_reels_edit rfl (fun _ => rfl) hadmits
        (reelCueWork_good ⟨hleast, hmost, hfound⟩ (cueFault_eq_none hgood) hst hfree)
    · rw [← enteredReel_eq hp]
      have hentry : s.EntryGood x := ⟨hleast, hmost, hnew, hp.imp And.left And.left, hend, hend', hleader, hboth⟩
      exact exec_reels_edit rfl (fun _ => rfl) hadmits (addWork_good hentry hroom)
    · rw [← enteredReel_eq hp]
      have hentry : s.EntryGood x := ⟨hleast', hmost', hnew, hp.imp And.left And.left, hend, hend', hleader, hboth⟩
      have hfound : findReel s.reels.records r.number = some r := hrecords ▸ findReel_append hfront
      refine exec_reels_edit rfl (fun _ => rfl) hadmits
        ((insertWork_good ⟨hleast, hmost, hfound⟩ hentry hoff hroom).trans ?_)
      rw [hrecords, insertBefore_eq hfront]
  · obtain ⟨x, rfl, rfl, ⟨hbad, rfl⟩ | ⟨hgood, hfull, rfl, rfl⟩⟩
      | ⟨before, x, rfl, rfl, ⟨hnone, rfl, rfl⟩ | ⟨r, hnames, ⟨hbad, rfl⟩ | ⟨hgood, hheld, rfl, rfl⟩
          | ⟨hgood, hoff, hfull, rfl, rfl⟩⟩⟩
      | ⟨reel, ⟨rfl, rfl⟩ | ⟨rfl, rfl⟩ | ⟨action, point, level, ramp, rfl, rfl⟩, hnone, rfl, rfl⟩
      | ⟨reel, r, hnames, rfl, rfl, ⟨rfl, rfl, hheld⟩ | ⟨rfl, rfl, hheld⟩
          | ⟨action, point, level, ramp, rfl, rfl, hgood, hheld⟩⟩
      | ⟨reel, r, action, point, level, ramp, hnames, rfl, rfl, rfl, hbad⟩
      | ⟨⟨rfl, rfl⟩ | ⟨rfl, rfl⟩, hheld, rfl, rfl⟩ := hfault
    · exact exec_reels_refused rfl (fun _ => rfl) hadmits (addWork_fault hbad)
    · exact exec_reels_refused rfl (fun _ => rfl) hadmits (addWork_full hgood hfull)
    · exact exec_reels_refused rfl (fun _ => rfl) hadmits (insertWork_unnamed hnone)
    · exact exec_reels_refused rfl (fun _ => rfl) hadmits (insertWork_fault hnames hbad)
    · exact exec_reels_refused rfl (fun _ => rfl) hadmits (insertWork_held hnames hgood hheld)
    · exact exec_reels_refused rfl (fun _ => rfl) hadmits (insertWork_full hnames hgood hoff hfull)
    · exact exec_reels_refused rfl (fun _ => rfl) hadmits (edits_unnamed hnone).1
    · exact exec_reels_refused rfl (fun _ => rfl) hadmits (edits_unnamed hnone).2.1
    · exact exec_reels_refused rfl (fun _ => rfl) hadmits ((edits_unnamed hnone).2.2 action point level ramp)
    · exact exec_reels_refused rfl (fun _ => rfl) hadmits (removeWork_held hnames hheld)
    · exact exec_reels_refused rfl (fun _ => rfl) hadmits (skipReelWork_held hnames hheld)
    · exact exec_reels_refused rfl (fun _ => rfl) hadmits (reelCueWork_held hnames (cueFault_eq_none hgood) hheld)
    · exact exec_reels_refused rfl (fun _ => rfl) hadmits (reelCueWork_fault hnames (cueFault_eq_some hbad))
    · exact exec_reels_refused rfl (fun _ => rfl) hadmits (listFree_refused hheld).1
    · exact exec_reels_refused rfl (fun _ => rfl) hadmits (listFree_refused hheld).2

end Sys2Proof.Machine
end

section
/-! What the shared operations of the screen do, as one update each, and the latch that lets go (R144). -/

namespace Sys2Proof.Machine

open Sys2Proof

section
variable {s t u : State}

/-! ### Raises (R158, R159) -/

/-- A raise is told from the records before it alone. -/
theorem State.Raised.of_cond {k : Condition} {d : Detail} (h : u.cond = s.cond) (hr : u.Raised t k d) :
    s.Raised t k d := by
  have hrecord (j : Condition) : u.record j = s.record j := by unfold State.record; rw [h]
  obtain ⟨haccrued, hdetail, hkept⟩ := hr
  exact ⟨haccrued, by rw [hdetail, hrecord], fun j hj => (hkept j hj).trans (hrecord j)⟩

/-- Automation after a raise depends on the halt settings and automation alone. -/
theorem automationAfter_congr (hsettings : u.store.working = s.store.working)
    (hautomation : u.seq.automation = s.seq.automation) (k : Condition) : automationAfter u k = automationAfter s k := by
  rw [automationAfter, automationAfter, hsettings, hautomation]

theorem detailT_eq (s : State) : s.detailT = s.tOfDetail := by
  unfold State.detailT State.tOfDetail; cases s.seq.countdown.state <;> rfl

/-! ### The screen (R45, R70) -/

/-- A projector that leaves the screen for RUNNING. -/
theorem darkenScreen_eq (p : Side) (s : State) :
    darkenScreen p s =
      { s with
        proj := s.proj.set p ((s.proj.get p).hidden .running)
        reels := { s.reels with records := boundBecome s.reels.records p .running }
        seq := { s.seq with swapDue := false, withholding := (darkenScreen p s).seq.withholding } } := by
  have hleft := leaveScreen_eq p .running s
  unfold darkenScreen setBoundStatus State.onReels
  generalize leaveScreen p .running s = a at hleft
  rw [hleft]
  rfl

theorem darkenScreen_only (p : Side) (s : State) : s.WithholdingOnlyEnds (darkenScreen p s) :=
  leaveScreen_only p .running s

/-- An automatic fade of the house. -/
theorem automaticFade_eq (percent tenths : Nat) (s : State) :
    automaticFade percent tenths s =
      { s with
        lights :=
          { s.lights with
            house :=
              if s.lights.house.mode = .auto ∧ s.fireAllows = true then s.lights.house.rampTo (percent * 16) tenths
              else s.lights.house } } := by
  unfold automaticFade
  split <;> rfl

/-! ### The latch (R144) -/

theorem port_portProjector {q : Port} {p : Side} (h : portProjector q = some p) : p.port = q := by
  cases q <;> cases h <;> rfl

theorem portProjector_port (p : Side) : portProjector p.port = some p := by cases p <;> rfl

/-- Behind a port stands at most one projector. -/
theorem darkenPort_screen {q : Port} {p : Side} (hq : p.port = q) (hp : s.onScreen p = true) :
    darkenPort q s = darkenScreen p s := by
  subst hq
  unfold darkenPort
  rw [portProjector_port]
  exact if_pos hp

theorem darkenPort_clear {q : Port} (h : ∀ p : Side, p.port = q → s.onScreen p = false) : darkenPort q s = s := by
  unfold darkenPort
  split
  · rfl
  · rename_i p hp
    exact if_neg (Bool.eq_false_iff.1 (h p (port_portProjector hp)))

theorem darkenPort_automation (q : Port) (s : State) : (darkenPort q s).seq.automation = s.seq.automation := by
  unfold darkenPort
  (repeat' split) <;> simp

/-- The shutter of a latch that has let go: it falls from UP, with 31 periods to the end of its fall timer (log entry 8). -/
theorem released_up {x : Shutter} (h : x.state = .up) :
    x.released .between =
      { state := .falling, latchHolding := false, motorRunning := false, fallTimer := some 31, raiseTimer := none } := by
  unfold Shutter.released
  rw [h]
  rfl

/-- Settles O41: the shutter is released, the projector behind it darkened, and the jam raised. -/
theorem latchLetGoDarkensItsProjector : Obligations.LatchLetGoDarkensItsProjector := by
  unfold Obligations.LatchLetGoDarkensItsProjector
  intro q s hup
  have hexec : exec (.shutterLatchLetGo q) s =
      .next (raiseJam q (darkenPort q (s.onShutter q fun x => x.released .between))) :=
    congrArg Host.Outcome.next (if_pos hup)
  have hreleased := released_up hup
  generalize hfallen : (s.onShutter q fun x => x.released .between) = fallen at hexec
  have hscreen (p : Side) : fallen.onScreen p = s.onScreen p := by rw [← hfallen]; rfl
  have hautomation : (raiseJam q (darkenPort q fallen)).seq.automation = automationAfter s .shutterJam := by
    refine (raiseCondition_automation ..).trans (automationAfter_congr ?_ ?_ .shutterJam)
    · simp [← hfallen]
    · rw [darkenPort_automation, ← hfallen]; rfl
  refine ⟨_, hexec, by simp [← hfallen, hreleased], .of_cond (u := darkenPort q fallen) (by simp [← hfallen])
    (raiseCondition_raised ..), hautomation, fun p hq hp => ?_, fun hclear => ?_, ?_, ?_, ?_, ?_⟩
  · have hdark := darkenScreen_eq p fallen
    rw [darkenPort_screen hq ((hscreen p).trans hp)]
    refine ⟨?_, ?_, ?_⟩
    · rw [(raiseJam_frame q _).2.2.2.1, hdark, ← hfallen]; rfl
    · rw [(raiseJam_frame q _).2.2.1, hdark, ← hfallen]; rfl
    · rw [raiseJam, raiseCondition_eq, hdark]
  · rw [darkenPort_clear fun p hq => (hscreen p).trans (hclear p hq)]
    exact ⟨by simp [← hfallen], by simp [← hfallen]⟩
  · exact ⟨by simp [← hfallen], by simp [← hfallen], by simp [← hfallen]⟩
  all_goals simp [← hfallen]

end

end Sys2Proof.Machine
end

section
/-! Cue marks (R57, R69, R76), and the swap point and the late swap (R77 to R82). -/

namespace Sys2Proof.Machine

open Sys2Proof

section
variable {s : State} {p : Side}

/-! ### A booth with marks counted or an end learned -/

theorem setMarks_onScreen (p q : Side) (n : Nat) (s : State) : (setMarks p n s).onScreen q = s.onScreen q := by
  cases p <;> cases q <;> rfl

theorem outgoing_congr {t : State} (h : ∀ q, t.onScreen q = s.onScreen q) : t.outgoing = s.outgoing := by
  rw [State.outgoing, State.outgoing, h, h]

theorem setMarks_leadPair (p : Side) (n : Nat) (s : State) : (setMarks p n s).leadPair = s.leadPair := by
  have hout : (setMarks p n s).outgoing = s.outgoing := outgoing_congr fun q => setMarks_onScreen p q n s
  have hreel : (setMarks p n s).outgoingReel = s.outgoingReel := by rw [State.outgoingReel, hout]; rfl
  have hincoming : (setMarks p n s).incomingReel = s.incomingReel := by rw [State.incomingReel, hreel]; rfl
  rw [State.leadPair, State.leadPair, hout, hreel, hincoming]
  rfl

theorem setMarks_motorPair (p : Side) (n : Nat) (s : State) : (setMarks p n s).motorPair = s.motorPair := by
  have hstate (q : Side) : ((setMarks p n s).proj.get q).state = (s.proj.get q).state := by
    cases p <;> cases q <;> rfl
  rw [State.motorPair, State.motorPair, setMarks_leadPair]
  simp only [hstate]
  rfl

/-! ### Whom the motor cue starts (R76) -/

theorem leadPair_some {o r : Reel} (hout : s.outgoing = some p) (ho : s.outgoingReel = some o)
    (hr : s.incomingReel = some r) (hi : o.intermission = false) (hl : o.last = false) (hbound : s.reelBound r = true) :
    s.leadPair = some (p, r) := by
  rw [State.leadPair, hout, ho, hr]
  exact if_pos ⟨hi, hl, hbound⟩

theorem motorPair_some {o r : Reel} (hengaged : s.seq.automation = .engaged) (hout : s.outgoing = some p)
    (ho : s.outgoingReel = some o) (hr : s.incomingReel = some r) (hi : o.intermission = false) (hl : o.last = false)
    (hbound : s.reelBound r = true) (hthreaded : (s.proj.get r.projector).state = .threaded)
    (htaken : s.seq.motorTaken = false) : s.motorPair = some (p, r) := by
  rw [State.motorPair, leadPair_some hout ho hr hi hl hbound]
  exact if_pos ⟨decide_eq_true hengaged, hthreaded, htaken⟩

theorem motorPair_none {o r : Reel} (ho : s.outgoingReel = some o)
    (h : s.incomingReel = none ∨ o.intermission = true ∨ o.last = true ∨ s.seq.motorTaken = true
      ∨ s.incomingReel = some r ∧ (s.reelBound r = false ∨ (s.proj.get r.projector).state ≠ .threaded)) :
    s.motorPair = none := by
  unfold State.motorPair State.leadPair
  split
  · rfl
  · rename_i q x hpair
    split at hpair
    · rename_i o' r' _ ho' hr'
      obtain rfl : o = o' := Option.some.inj (ho.symm.trans ho')
      split at hpair
      · rename_i hgood
        cases hpair
        refine if_neg fun hall => ?_
        obtain ⟨hi, hl, hbound⟩ := hgood
        obtain ⟨-, hthreaded, htaken⟩ := hall
        simp_all
      · cases hpair
    · cases hpair

/-! ### A mark by its number (R69) -/

theorem exec_cueMark (p : Side) (s : State) : exec (.cueMark p) s = .next (judgeMark p .between s) := rfl

theorem judgeMark_still (h : (s.proj.get p).state.moving = false) : judgeMark p .between s = s :=
  if_neg (Bool.eq_false_iff.1 h)

theorem judgeMark_stray (hmoving : (s.proj.get p).state.moving = true)
    (h : (s.proj.get p).state ≠ .onScreen ∨ (s.proj.get p).windowOpen = false ∨ 2 ≤ (s.proj.get p).marks) :
    judgeMark p .between s =
      raiseCondition .strayCue { unit := .projector p, f := some (s.proj.get p).f, t := none } s := by
  rw [← onScreen_eq_false_iff] at h
  exact (if_pos hmoving).trans (if_pos h)

theorem judgeMark_counted (hs : (s.proj.get p).state = .onScreen) (hwindow : (s.proj.get p).windowOpen = true)
    (hmarks : (s.proj.get p).marks < 2) :
    judgeMark p .between s =
      if (s.proj.get p).marks = 0 then countMotorCue p .between s else countChangeoverCue p .between s := by
  have hmoving : (s.proj.get p).state.moving = true := by rw [hs]; rfl
  have hon : s.onScreen p = true := (onScreen_iff s p).2 hs
  refine (if_pos hmoving).trans (if_neg ?_)
  simp [hon, hwindow, hmarks]

theorem judgeMark_motor (hs : (s.proj.get p).state = .onScreen) (hwindow : (s.proj.get p).windowOpen = true)
    (hmarks : (s.proj.get p).marks = 0) : judgeMark p .between s = countMotorCue p .between s := by
  rw [judgeMark_counted hs hwindow (by omega), if_pos hmarks]

theorem judgeMark_changeover (hs : (s.proj.get p).state = .onScreen) (hwindow : (s.proj.get p).windowOpen = true)
    (hmarks : (s.proj.get p).marks = 1) : judgeMark p .between s = countChangeoverCue p .between s := by
  rw [judgeMark_counted hs hwindow (by omega), if_neg (by omega)]

theorem countMotorCue_idle (h : s.seq.automation ≠ .engaged) : countMotorCue p .between s = setMarks p 1 s :=
  if_neg (by simpa [State.engaged] using h)

theorem countMotorCue_engaged (h : s.seq.automation = .engaged) :
    countMotorCue p .between s =
      match s.motorPair with
      | none => setMarks p 1 s
      | some (_, r) => startIncoming r .between (setMarks p 1 s) := by
  refine (if_pos (decide_eq_true h)).trans ?_
  rw [applyMotorCue, setMarks_motorPair] <;> rfl

/-- The start that the cue asks of a THREADED incoming projector while the fire state allows it (R63, R76). -/
theorem startIncoming_threaded {r : Reel} (hthreaded : (s.proj.get r.projector).state = .threaded)
    (hfire : s.fireAllows = true) :
    startIncoming r .between s =
      { s.onProj r.projector Projector.started with seq := { s.seq with motorTaken := true } } := by
  have hallowed : s.startAllowed r.projector = true := by rw [State.startAllowed, hthreaded, hfire]; rfl
  rw [startIncoming, askStart, if_pos hallowed]
  rfl

/-- Settles O44: a mark is judged by the screen, the window and the marks counted before it. -/
theorem cueMarksAreCounted : Obligations.CueMarksAreCounted := by
  unfold Obligations.CueMarksAreCounted
  rintro p s x rfl
  rw [exec_cueMark]
  refine ⟨fun hstill => ?_, fun hmoving hstray => ?_, fun hs hwindow hmarks => ⟨fun hidle => ?_, ?_⟩,
    fun hs hwindow hmarks => ⟨fun hhalted => ?_, fun hoff => ?_⟩⟩
  · rw [judgeMark_still hstill]
  · rw [judgeMark_stray hmoving hstray]
    exact ⟨_, rfl, raiseCondition_raised .., raiseCondition_eq ..⟩
  · rw [judgeMark_motor hs hwindow hmarks, countMotorCue_idle hidle]
    rfl
  · intro hengaged o r hout ho
    rw [judgeMark_motor hs hwindow hmarks, countMotorCue_engaged hengaged]
    refine ⟨fun hr hi hl hbound hthreaded htaken hfire => ?_, fun hnone => ?_⟩
    · rw [motorPair_some hengaged hout ho hr hi hl hbound hthreaded htaken]
      have hstate : ((setMarks p 1 s).proj.get r.projector).state = .threaded := by
        rw [← hthreaded]; cases p <;> cases r.projector <;> rfl
      exact congrArg Host.Outcome.next (startIncoming_threaded hstate hfire)
    · rw [motorPair_none ho hnone]
      rfl
  · rw [judgeMark_changeover hs hwindow hmarks, countChangeoverCue, hhalted]
    rfl
  · rw [judgeMark_changeover hs hwindow hmarks, countChangeoverCue, hoff]
    simp [learnEnd, setMarks, State.onReels, State.onProj]

end

end Sys2Proof.Machine
end

section
/-! The swap point, its endings and the late swap (R77 to R82). -/

namespace Sys2Proof.Machine

open Sys2Proof

section
variable {s : State} {o : Side}

/-! ### The incoming projector (R77) -/

theorem incomingReady_some {y : Reel} (hy : s.incomingReel = some y) (hbound : s.reelBound y = true)
    (hready : s.ready y.projector = true) : s.incomingReady = some y.projector := by
  rw [State.incomingReady, hy]
  exact if_pos ⟨hbound, hready⟩

theorem incomingReady_none (h : ∀ y, s.incomingReel = some y → s.reelBound y = false ∨ s.ready y.projector = false) :
    s.incomingReady = none := by
  unfold State.incomingReady
  split
  · rfl
  · rename_i y hy
    obtain hbound | hready := h y hy
    · exact if_neg (by simp [hbound])
    · exact if_neg (by simp [hready])

theorem incomingReady_ne {i : Side} (ho : s.onScreen o = true) (h : s.incomingReady = some i) : i ≠ o := by
  obtain rfl := incomingReady_eq ho h
  cases o <;> decide

/-! ### The endings without a swap (R80, R81) -/

/-- The outgoing projector goes to RUNOUT under a fade of the house, and the douse of its lamp is started. -/
def fadeOut (o : Side) (percent tenths : Nat) (s : State) : State :=
  startDouse o .between (automaticFade percent tenths (leaveScreen o .runout s))

theorem fadeOut_eq (o : Side) (percent tenths : Nat) (s : State) :
    fadeOut o percent tenths s =
      { s with
        proj :=
          s.proj.set o
            (if s.dousesNow o then ((s.proj.get o).hidden .runout).notStarting else (s.proj.get o).hidden .runout)
        lamp := s.lampsAfter o
        lights :=
          { s.lights with
            house :=
              if s.lights.house.mode = .auto ∧ s.fireAllows = true then s.lights.house.rampTo (percent * 16) tenths
              else s.lights.house }
        seq :=
          { s.seq with
            swapDue := false, douse := s.douseAfter o
            withholding := (fadeOut o percent tenths s).seq.withholding } } := by
  have hfade := automaticFade_eq percent tenths (leaveScreen o .runout s)
  rw [leaveScreen_eq] at hfade
  rw [fadeOut, startDouse_eq]
  generalize startDouse o .between (automaticFade percent tenths (leaveScreen o .runout s)) = done
  rw [leaveScreen_eq, hfade]
  unfold State.lampsAfter State.douseAfter State.dousesNow
  dsimp only
  split
  · simp only [Both.get_set_same, Both.set_set]
    rfl
  · rfl

theorem fadeOut_only (o : Side) (percent tenths : Nat) (s : State) :
    s.WithholdingOnlyEnds (fadeOut o percent tenths s) := by
  refine withholdingOnlyEnds_trans ?_ (startDouse_only o .between _)
  have hleft := leaveScreen_only o .runout s
  rw [automaticFade_eq]
  exact hleft

/-! ### The one ending (R77 to R81) -/

/-- The booth once the swap point is reached. -/
def State.reached (s : State) : State := s.onSeq fun q => { q with swapReached := true }

theorem reachSwapPoint_again {r : Reel} (ho : s.outgoing = some o) (hr : s.outgoingReel = some r)
    (h : s.seq.swapReached = true) : reachSwapPoint .between s = s := by
  rw [reachSwapPoint, ho, hr]
  exact if_pos h

theorem reachSwapPoint_first {r : Reel} (ho : s.outgoing = some o) (hr : s.outgoingReel = some r)
    (h : s.seq.swapReached = false) : reachSwapPoint .between s = takeEnding o r .between s.reached := by
  rw [reachSwapPoint, ho, hr]
  exact if_neg (by simp [h])

theorem takeEnding_intermission {r : Reel} (h : r.intermission = true) :
    takeEnding o r .between s = fadeOut o s.store.working.intermissionLevel s.store.working.showRamp s := if_pos h

theorem takeEnding_last {r : Reel} (hi : r.intermission = false) (hl : r.last = true) :
    takeEnding o r .between s = automationOff (fadeOut o 100 s.store.working.endRamp s) :=
  (if_neg (by simp [hi])).trans (if_pos hl)

theorem takeEnding_swap {r y : Reel} (hi : r.intermission = false) (hl : r.last = false)
    (hy : s.incomingReel = some y) (hbound : s.reelBound y = true) (hready : s.ready y.projector = true) :
    takeEnding o r .between s = swapScreens y.projector o .between s := by
  refine (if_neg (by simp [hi])).trans ((if_neg (by simp [hl])).trans ?_)
  rw [incomingReady_some hy hbound hready]

theorem takeEnding_missed {r : Reel} (hi : r.intermission = false) (hl : r.last = false)
    (h : ∀ y, s.incomingReel = some y → s.reelBound y = false ∨ s.ready y.projector = false) :
    takeEnding o r .between s = missChangeover o s := by
  refine (if_neg (by simp [hi])).trans ((if_neg (by simp [hl])).trans ?_)
  rw [incomingReady_none h]

theorem automationOff_proj (p : Side) (s : State) : (automationOff s).proj.get p = (s.proj.get p).notStarting := by
  cases p <;> rfl

theorem takeEnding_aisle (o : Side) (r : Reel) (m : Moment) (s : State) :
    (takeEnding o r m s).lights.aisle = s.lights.aisle := by
  unfold takeEnding intermissionEnding lastReelEnding
  (repeat' split) <;> simp

/-- A missed changeover as one update. -/
theorem missChangeover_eq (o : Side) (s : State) :
    missChangeover o s =
      { s with
        cond := (missChangeover o s).cond
        seq :=
          { s.seq with
            swapDue := s.seq.swapDue || s.incomingReel.isSome, automation := automationAfter s .missedChangeover } } :=
  raiseCondition_eq ..

theorem missChangeover_raised (o : Side) (s : State) :
    s.Raised (missChangeover o s) .missedChangeover
      { unit := .projector o, f := some (s.proj.get o).f, t := s.tOfDetail } := by
  rw [← detailT_eq]
  exact raiseCondition_raised ..

/-! ### What brings the swap point (R77, R57, R69) -/

theorem exec_swapPoint (hengaged : s.seq.automation = .engaged) (hstate : s.seq.countdown.state = .ordered)
    (ht : s.seq.countdown.t = some 0) (hover : s.seq.countdown.overrun = true) :
    exec .swapPoint s = .next (reachSwapPoint .between s) := by
  refine congrArg Host.Outcome.next (if_pos ⟨decide_eq_true hengaged, ?_⟩)
  simp [State.countdownAtSwap, hstate, ht, hover]

/-- An accepted changeover cue. -/
def State.cued (s : State) (o : Side) : State := learnEnd o (setMarks o 2 s)

theorem cued_onScreen (o p : Side) (s : State) : (s.cued o).onScreen p = s.onScreen p := setMarks_onScreen o p 2 s

theorem exec_cueMark_changeover (hengaged : s.seq.automation = .engaged) (hs : s.onScreen o = true)
    (hwindow : (s.proj.get o).windowOpen = true) (hmarks : (s.proj.get o).marks = 1) :
    exec (.cueMark o) s = .next (reachSwapPoint .between (s.cued o)) := by
  rw [exec_cueMark, judgeMark_changeover ((onScreen_iff s o).1 hs) hwindow hmarks, countChangeoverCue, hengaged]
  rfl

/-- Nothing is at the swap point, or nobody is on the screen. -/
theorem swapPointTest_none (h : s.seq.automation ≠ .engaged ∨ s.seq.countdown.state ≠ .ordered
    ∨ s.seq.countdown.t ≠ some 0 ∨ s.seq.countdown.overrun = false ∨ s.outgoing = none) :
    swapPointTest .between s = s := by
  unfold swapPointTest
  split
  · rename_i hat
    obtain ⟨hengaged, hcountdown⟩ := hat
    simp only [State.engaged, State.countdownAtSwap, Bool.and_eq_true, decide_eq_true_eq] at hengaged hcountdown
    obtain ⟨⟨hstate, ht⟩, hover⟩ := hcountdown
    have hout : s.outgoing = none := by simpa [hengaged, hstate, ht, hover] using h
    rw [reachSwapPoint, hout]
  · rfl

/-- The late swap waits for swap due and for a ready incoming projector. -/
theorem lateSwapTest_none (h : s.seq.automation ≠ .engaged ∨ s.seq.swapDue = false ∨ s.incomingReel = none
    ∨ ∃ y, s.incomingReel = some y ∧ (s.reelBound y = false ∨ s.ready y.projector = false)) :
    lateSwapTest .between s = s := by
  unfold lateSwapTest
  split
  · rename_i hat
    obtain ⟨hengaged, hdue⟩ := hat
    simp only [State.engaged, decide_eq_true_eq] at hengaged
    have hnone : s.incomingReady = none := by
      refine incomingReady_none fun y hy => ?_
      simpa [hengaged, hdue, hy] using h
    rw [hnone]
    split <;> trivial
  · rfl

theorem lateSwapTest_swap {y : Reel} (hengaged : s.seq.automation = .engaged) (hdue : s.seq.swapDue = true)
    (ho : s.outgoing = some o) (hy : s.incomingReel = some y) (hbound : s.reelBound y = true)
    (hready : s.ready y.projector = true) : lateSwapTest .between s = swapScreens y.projector o .between s := by
  refine (if_pos ⟨decide_eq_true hengaged, hdue⟩).trans ?_
  rw [ho, incomingReady_some hy hbound hready]

/-- Settles O45: the cue and the countdown reach one swap point, which takes the ending of the outgoing record. -/
theorem swapPointTakesTheEnding : Obligations.SwapPointTakesTheEnding := by
  unfold Obligations.SwapPointTakesTheEnding
  refine ⟨fun c s x o r hc hengaged hout hreel => ?_, fun s hnone => ?_, fun s => ⟨?_, fun hnone => ?_⟩⟩
  · have hexec : exec c s = .next (reachSwapPoint .between x) := by
      obtain ⟨rfl, hstate, ht, hover, rfl⟩ | ⟨rfl, hwindow, hmarks, hx⟩ := hc
      · exact exec_swapPoint hengaged hstate ht hover
      · obtain rfl : x = s.cued o := hx.trans (by simp [State.cued, learnEnd, setMarks, State.onReels, State.onProj])
        exact exec_cueMark_changeover hengaged (cued_onScreen o o s ▸ outgoing_onScreen hout) hwindow hmarks
    have hx : x.seq.automation = .engaged := by obtain ⟨-, -, -, -, rfl⟩ | ⟨-, -, -, rfl⟩ := hc <;> exact hengaged
    refine ⟨fun hagain => by rw [hexec, reachSwapPoint_again hout hreel hagain], fun hfirst => ?_⟩
    rw [reachSwapPoint_first hout hreel hfirst] at hexec
    refine ⟨_, hexec, ?_, ?_, ?_, ?_, fun level ramp endState hending => ?_,
      fun hi hl => ⟨fun y hy hbound hready => ?_, fun hmissed => ?_⟩⟩
    · refine ⟨?_, ?_, ?_⟩ <;> simp [State.reached]
    · simp [State.reached]
    · simp [State.reached]
    · exact takeEnding_aisle o r .between x.reached
    · obtain ⟨hi, rfl, rfl, rfl⟩ | ⟨hi, hl, rfl, rfl, rfl⟩ := hending
      · have ht : takeEnding o r .between x.reached =
            fadeOut o x.store.working.intermissionLevel x.store.working.showRamp x.reached := takeEnding_intermission hi
        rw [ht]
        have hfade := fadeOut_eq o x.store.working.intermissionLevel x.store.working.showRamp x.reached
        have honly := fadeOut_only o x.store.working.intermissionLevel x.store.working.showRamp x.reached
        generalize fadeOut o x.store.working.intermissionLevel x.store.working.showRamp x.reached = t at *
        rw [hfade]
        refine ⟨rfl, rfl, rfl, rfl, by rw [← hx]; rfl, honly, ?_, Both.get_set_other ..⟩
        refine (Both.get_set_same ..).trans ?_
        simp only [reduceCtorEq, or_false]
        rfl
      · have ht : takeEnding o r .between x.reached =
            automationOff (fadeOut o 100 x.store.working.endRamp x.reached) := takeEnding_last hi hl
        rw [ht]
        have hfade := fadeOut_eq o 100 x.store.working.endRamp x.reached
        generalize fadeOut o 100 x.store.working.endRamp x.reached = t at *
        rw [hfade]
        refine ⟨rfl, rfl, rfl, rfl, rfl, .inr rfl, ?_, ?_⟩ <;> rw [automationOff_proj]
        · simp only [or_true, if_true, Both.get_set_same]
          split <;> rfl
        · simp only [if_true, Both.get_set_other]
          rfl
    · rw [takeEnding_swap (s := x.reached) hi hl hy hbound hready]
      have hready' : x.reached.incomingReady = some y.projector := incomingReady_some hy hbound hready
      have hne := incomingReady_ne (s := x.reached) (outgoing_onScreen (s := x) hout) hready'
      refine ⟨swapScreens_swapped x.reached hne, ?_, ?_⟩
      · simp [State.reached]
      · simp [State.reached]
    · rw [takeEnding_missed (s := x.reached) hi hl hmissed]
      refine ⟨.of_cond (u := x.reached) rfl (missChangeover_raised o x.reached), ?_⟩
      rw [missChangeover_eq]
      exact ⟨rfl, rfl, rfl, rfl, rfl⟩
  · exact congrArg Host.Outcome.next (swapPointTest_none hnone)
  · intro o y hengaged hdue hout hy hbound hready
    have hne := incomingReady_ne (outgoing_onScreen hout) (incomingReady_some hy hbound hready)
    refine ⟨_, congrArg Host.Outcome.next (lateSwapTest_swap hengaged hdue hout hy hbound hready),
      swapScreens_swapped s hne, ⟨?_, ?_, ?_⟩, ?_, ?_, ?_, ?_⟩ <;> simp
  · exact congrArg Host.Outcome.next (lateSwapTest_none hnone)

end

end Sys2Proof.Machine
end

section
/-! The loss of an arc and the current watch (R86, R111). -/

namespace Sys2Proof.Machine

open Sys2Proof

section
variable {s : State} {l : Side}

/-! ### The loss, before it is raised -/

/-- The booth of a lost arc before ARC_OUT is raised: the lamp dark, and the screen passed on or dark (R86, R111). -/
def State.arcLost (s : State) (l : Side) : State :=
  let s1 := lampToDark l (fun x => { x with lowCurrent := 10 }) s
  if s.onScreen l then
    if s1.seq.automation = .engaged ∧ s1.ready l.other = true then swapScreens l.other l .between s1
    else darkenScreen l s1
  else s1

theorem arcLost_swap (hs : s.onScreen l = true) (ha : s.seq.automation = .engaged) (hr : s.ready l.other = true) :
    s.arcLost l = swapScreens l.other l .between (lampToDark l (fun x => { x with lowCurrent := 10 }) s) := by
  refine (if_pos hs).trans (if_pos ⟨by simpa using ha, ?_⟩)
  rw [lampToDark_ready_other, hr]

theorem arcLost_dark (hs : s.onScreen l = true) (h : s.seq.automation ≠ .engaged ∨ s.ready l.other = false) :
    s.arcLost l = darkenScreen l (lampToDark l (fun x => { x with lowCurrent := 10 }) s) := by
  refine (if_pos hs).trans (if_neg ?_)
  rw [lampToDark_ready_other]
  rintro ⟨ha, hr⟩
  simp_all

theorem arcLost_off (hs : s.onScreen l = false) :
    s.arcLost l = lampToDark l (fun x => { x with lowCurrent := 10 }) s := if_neg (by simp [hs])

theorem arcLost_counts (l : Side) (s : State) : CountsKept s (s.arcLost l) := by
  have hdark := (lampToDark_calm l (fun x => { x with lowCurrent := 10 }) s).counts
  unfold State.arcLost
  dsimp only
  (repeat' split)
  · exact hdark.trans (swapScreens_counts _ _ _ _)
  · exact hdark.trans (darkenScreen_calm ..).counts
  · exact hdark

/-- What a lost arc leaves unchanged, whatever becomes of the screen. -/
theorem arcLost_frame (l : Side) (s : State) :
    (s.arcLost l).line = s.line ∧ (s.arcLost l).rotation = s.rotation ∧ (s.arcLost l).pending = s.pending
      ∧ (s.arcLost l).lights = s.lights ∧ (s.arcLost l).fire = s.fire ∧ (s.arcLost l).store = s.store
      ∧ (s.arcLost l).cond = s.cond ∧ (s.arcLost l).seq.automation = s.seq.automation
      ∧ (s.arcLost l).seq.countdown = s.seq.countdown := by
  unfold State.arcLost
  dsimp only
  (repeat' split) <;> simp

theorem tOfDetail_congr {t : State} (h : t.seq.countdown = s.seq.countdown) : t.tOfDetail = s.tOfDetail := by
  rw [State.tOfDetail, State.tOfDetail, h]

theorem loseArc_eq (l : Side) (s : State) :
    loseArc l .between s =
      raiseCondition .arcOut { unit := .lamp l, f := some (s.proj.get l).f, t := s.tOfDetail } (s.arcLost l) := by
  obtain ⟨-, -, -, -, -, -, -, -, hcountdown⟩ := arcLost_frame l s
  have hdetail : (s.arcLost l).detailOf (.lamp l) l =
      { unit := .lamp l, f := some (s.proj.get l).f, t := s.tOfDetail } := by
    rw [State.detailOf, (arcLost_counts l s l).f, detailT_eq, tOfDetail_congr hcountdown]
  rw [← hdetail]
  rfl

/-- The lamp, its douse timer and the withholding after a lost arc. -/
structure LampLost (l : Side) (s t : State) : Prop where
  lamp : t.lamp = s.lamp.set l { (s.lamp.get l).out with lowCurrent := 10 }
  douse : t.seq.douse = s.seq.douse.set l none
  withholding : s.WithholdingOnlyEnds t

theorem lampToDark_lost (l : Side) (s : State) :
    LampLost l s (lampToDark l (fun x => { x with lowCurrent := 10 }) s) := by
  refine ⟨?_, ?_, lampToDark_only ..⟩ <;> rw [lampToDark_eq]
  rfl

/-- A lamp that is DARK already has no douse to start (R82). -/
theorem dousesNow_dark (h : (s.lamp.get l).state = .dark) : s.dousesNow l = false := by simp [State.dousesNow, h]

theorem lampsAfter_dark (h : (s.lamp.get l).state = .dark) : s.lampsAfter l = s.lamp :=
  if_neg (by simp [dousesNow_dark h])

theorem douseAfter_dark (h : (s.lamp.get l).state = .dark) : s.douseAfter l = s.seq.douse :=
  (if_neg (by simp [dousesNow_dark h])).trans (if_neg (by simp [h]))

/-- The emergency swap (R86). -/
theorem arcLost_swapped (hs : s.onScreen l = true) (ha : s.seq.automation = .engaged) (hr : s.ready l.other = true) :
    LampLost l s (s.arcLost l) ∧ (s.arcLost l).proj.get l.other = (s.proj.get l.other).shown
      ∧ (s.arcLost l).proj.get l = ((s.proj.get l).hidden .runout).notStarting
      ∧ (s.arcLost l).reels = { s.reels with records := boundBecome s.reels.records l.other .showing }
      ∧ (s.arcLost l).seq.strikeTaken = false ∧ (s.arcLost l).seq.motorTaken = false
      ∧ (s.arcLost l).seq.swapReached = false ∧ (s.arcLost l).seq.swapDue = false := by
  rw [arcLost_swap hs ha hr]
  obtain ⟨hlamp, hdouse, honly⟩ := lampToDark_lost l s
  have heq := lampToDark_eq l (fun x => { x with lowCurrent := 10 }) s
  generalize lampToDark l (fun x => { x with lowCurrent := 10 }) s = dark at *
  have hdark : (dark.lamp.get l).state = .dark := by rw [hlamp, Both.get_set_same]; rfl
  obtain ⟨hin, hout, hreels, hseq, hended, hlamps⟩ := swapScreens_swapped dark (Side.other_ne l)
  rw [lampsAfter_dark hdark] at hlamps
  rw [douseAfter_dark hdark] at hseq
  refine ⟨⟨hlamps.trans hlamp, by rw [hseq]; exact hdouse, withholdingOnlyEnds_trans honly hended⟩, ?_, ?_, ?_,
    by rw [hseq], by rw [hseq], by rw [hseq], by rw [hseq]⟩
  · rw [hin, heq, Both.get_set_other]
  · rw [hout, heq, Both.get_set_same]; rfl
  · rw [hreels, heq]

/-- The screen goes dark (R86). -/
theorem arcLost_darkened (hs : s.onScreen l = true) (h : s.seq.automation ≠ .engaged ∨ s.ready l.other = false) :
    LampLost l s (s.arcLost l) ∧ (s.arcLost l).proj = s.proj.set l ((s.proj.get l).hidden .running).notStarting
      ∧ (s.arcLost l).reels = { s.reels with records := boundBecome s.reels.records l .running }
      ∧ (s.arcLost l).seq.strikeTaken = s.seq.strikeTaken ∧ (s.arcLost l).seq.motorTaken = s.seq.motorTaken
      ∧ (s.arcLost l).seq.swapReached = s.seq.swapReached ∧ (s.arcLost l).seq.swapDue = false := by
  rw [arcLost_dark hs h]
  obtain ⟨hlamp, hdouse, honly⟩ := lampToDark_lost l s
  have heq := lampToDark_eq l (fun x => { x with lowCurrent := 10 }) s
  generalize lampToDark l (fun x => { x with lowCurrent := 10 }) s = dark at *
  have hdarkened := darkenScreen_eq l dark
  have hended := darkenScreen_only l dark
  generalize darkenScreen l dark = t at *
  have hall : LampLost l s t := ⟨by rw [hdarkened]; exact hlamp, by rw [hdarkened]; exact hdouse,
    withholdingOnlyEnds_trans honly hended⟩
  refine ⟨hall, ?_, ?_, ?_⟩ <;> rw [hdarkened, heq]
  · simp [Projector.hidden, Projector.notStarting]
  · exact ⟨rfl, rfl, rfl, rfl⟩

/-- A lamp of a projector that is not on the screen. -/
theorem arcLost_aside (hs : s.onScreen l = false) :
    LampLost l s (s.arcLost l) ∧ (s.arcLost l).proj = s.proj.set l (s.proj.get l).notStarting
      ∧ (s.arcLost l).reels = s.reels ∧ (s.arcLost l).seq.strikeTaken = s.seq.strikeTaken
      ∧ (s.arcLost l).seq.motorTaken = s.seq.motorTaken ∧ (s.arcLost l).seq.swapReached = s.seq.swapReached
      ∧ (s.arcLost l).seq.swapDue = s.seq.swapDue := by
  rw [arcLost_off hs]
  refine ⟨lampToDark_lost l s, ?_⟩
  rw [lampToDark_eq]
  exact ⟨rfl, rfl, rfl, rfl, rfl, rfl⟩

theorem arcLost_lost (l : Side) (s : State) : LampLost l s (s.arcLost l) := by
  cases hs : s.onScreen l
  · exact (arcLost_aside hs).1
  · by_cases ha : s.seq.automation = .engaged
    · cases hr : s.ready l.other
      · exact (arcLost_darkened hs (.inr hr)).1
      · exact (arcLost_swapped hs ha hr).1
    · exact (arcLost_darkened hs (.inl ha)).1

/-! ### The row (R111) -/

/-- A lamp with its last reading of the arc current written (log entry 9). -/
def State.arcRead (s : State) (l : Side) (amperes : Nat) : State := s.onLamp l fun x => { x with amperes := amperes }

theorem exec_arcLoss {i : Nat} (hwatched : (s.lamp.get l).state = .warming ∨ (s.lamp.get l).state = .lit)
    (hlow : i < 30) (hcount : 9 ≤ (s.lamp.get l).lowCurrent) :
    exec (.arcLoss l i) s =
      .next (raiseCondition .arcOut { unit := .lamp l, f := some (s.proj.get l).f, t := s.tOfDetail }
        ((s.arcRead l i).arcLost l)) := by
  have hw : (s.lamp.get l).watched = true := by simpa [Lamp.watched] using hwatched
  exact congrArg Host.Outcome.next ((if_pos ⟨hw, hlow, hcount⟩).trans (loseArc_eq l (s.arcRead l i)))

theorem exec_arcLoss_none {i : Nat} (h : (s.lamp.get l).state ≠ .warming ∧ (s.lamp.get l).state ≠ .lit ∨ 30 ≤ i
    ∨ (s.lamp.get l).lowCurrent < 9) : exec (.arcLoss l i) s = .next s := by
  refine congrArg Host.Outcome.next (if_neg ?_)
  rintro ⟨hwatched, hlow, hcount⟩
  have hw : (s.lamp.get l).state = .warming ∨ (s.lamp.get l).state = .lit := by simpa [Lamp.watched] using hwatched
  have hlow' : i < 30 := hlow
  obtain ⟨hwarming, hlit⟩ | hhigh | hcount' := h
  · exact hw.elim hwarming hlit
  · omega
  · omega

/-! ### The douse timers at a boundary (R82) -/

/-- No douse timer is started. -/
def DouseKept (s t : State) : Prop := ∀ l, s.seq.douse.get l = none → t.seq.douse.get l = none

theorem DouseKept.refl (s : State) : DouseKept s s := fun _ => id

theorem DouseKept.of_eq {t : State} (h : t.seq.douse = s.seq.douse) : DouseKept s t := fun l hl => by rw [h]; exact hl

theorem DouseKept.trans {t u : State} (h : DouseKept s t) (h' : DouseKept t u) : DouseKept s u := fun l hl => h' l (h l hl)

theorem DouseKept.of_set {t : State} (h : t.seq.douse = s.seq.douse.set l none) : DouseKept s t := fun k hk => by
  rw [h, Both.get_set]
  split
  · rfl
  · exact hk

theorem lampToDark_douse (l : Side) (g : Lamp → Lamp) (s : State) : DouseKept s (lampToDark l g s) :=
  .of_set (by rw [lampToDark_eq])

theorem stopProjector_douse (p : Side) (s : State) : DouseKept s (stopProjector p s) := by
  intro k hk
  rw [stopProjector_eq]
  dsimp only
  split
  · exact DouseKept.of_set (s := s) (t := s.onSeq fun q => { q with douse := q.douse.set p none }) rfl k hk
  · exact hk

theorem judgeFilmLoss_douse (p : Side) (s : State) : DouseKept s (judgeFilmLoss p s) := by
  unfold judgeFilmLoss
  (repeat' split) <;> exact .of_eq (by simp)

theorem failStart_douse (p : Side) (s : State) : DouseKept s (failStart p s) :=
  (stopProjector_douse p s).trans (.of_eq (by simp [failStart]))

theorem projectorWork_douse (p : Side) (s : State) : DouseKept s (projectorWork p s) := by
  have hspeed (u : State) : DouseKept u (reachSpeed p u) := .of_eq (by simp)
  have hstanding : DouseKept s (judgeStanding p s) := by
    unfold judgeStanding
    dsimp only
    split
    · exact judgeFilmLoss_douse p (s.onProj p fun x => { x with lossCheck := false })
    · exact .of_eq rfl
  have hinch (u : State) : DouseKept u (tickInch p u) := by
    unfold tickInch expireInch
    (repeat' split)
    · exact failStart_douse p u
    · exact .refl u
    · exact .of_eq rfl
  have hend (u : State) : DouseKept u (endRunUp p u) := by
    unfold endRunUp
    split
    · exact hspeed u
    · exact .refl u
  have hexpire (u : State) : DouseKept u (expireRunUp p u) := by
    unfold expireRunUp
    (repeat' split)
    · exact hspeed u
    · exact failStart_douse p u
    · exact .refl u
  have hrun (u : State) : DouseKept u (tickRunUp p u) := by
    unfold tickRunUp
    (repeat' split)
    · exact hend u
    · exact hexpire u
    · exact .of_eq rfl
  exact (hstanding.trans (hinch _)).trans (hrun _)

/-! ### The other lamp at a boundary -/

/-- The work of one lamp leaves the other, and starts no douse timer. -/
structure LampAside (l : Side) (s t : State) : Prop where
  lamp : t.lamp.get l = s.lamp.get l
  douse : DouseKept s t

theorem LampAside.refl (l : Side) (s : State) : LampAside l s s := ⟨rfl, .refl s⟩

theorem LampAside.trans {t u : State} (h : LampAside l s t) (h' : LampAside l t u) : LampAside l s u :=
  ⟨h'.lamp.trans h.lamp, h.douse.trans h'.douse⟩

theorem LampAside.of_eq {t : State} (hlamp : t.lamp = s.lamp) (hdouse : t.seq.douse = s.seq.douse) : LampAside l s t :=
  ⟨by rw [hlamp], .of_eq hdouse⟩

variable {k : Side}

theorem LampAside.onLamp (hk : k ≠ l) (s : State) (g : Lamp → Lamp) : LampAside l s (s.onLamp k g) :=
  ⟨Both.get_set_ne _ _ hk, .refl _⟩

theorem lampToDark_aside (hk : k ≠ l) (g : Lamp → Lamp) (s : State) : LampAside l s (lampToDark k g s) :=
  ⟨by rw [lampToDark_eq]; exact Both.get_set_ne _ _ hk, lampToDark_douse _ _ _⟩

theorem raiseCondition_aside (c : Condition) (d : Detail) (s : State) : LampAside l s (raiseCondition c d s) :=
  .of_eq (by simp) (by simp)

theorem failAttempt_aside (hk : k ≠ l) (amperes : Nat) (m : Moment) (s : State) :
    LampAside l s (failAttempt k amperes m s) := by
  unfold failAttempt failStrike
  dsimp only
  refine LampAside.trans
    (.onLamp hk s fun x => { x with amperes := amperes, strikerClosed := false, attemptTimer := none }) ?_
  split
  · exact .onLamp hk _ _
  · exact (lampToDark_aside hk ..).trans (raiseCondition_aside ..)

theorem tickAttempt_aside (hk : k ≠ l) (amperes : Nat) (s : State) : LampAside l s (tickAttempt k amperes s) := by
  unfold tickAttempt judgeArc expireAttempt
  (repeat' split)
  any_goals exact .onLamp hk s _
  any_goals exact .refl l s
  exact failAttempt_aside hk ..

theorem firstReading_aside (hk : k ≠ l) (amperes : Nat) (s : State) : LampAside l s (firstReading k amperes s) := by
  unfold firstReading judgeArc
  (repeat' split)
  any_goals exact .onLamp hk s _
  exact .refl l s

theorem lampWork_aside (hk : k ≠ l) (amperes : Nat) (s : State) : LampAside l s (lampWork k amperes s) := by
  have hsettling : LampAside l s (expireSettling k .atBoundary s) := by
    unfold expireSettling
    split
    · exact .onLamp hk s _
    · exact .refl l s
  have hwait : LampAside l s (expireWait k .atBoundary s) := by
    unfold expireWait
    split
    · exact .onLamp hk s _
    · exact .refl l s
  unfold lampWork expireWarm
  (repeat' split)
  any_goals exact .onLamp hk s _
  any_goals exact .refl l s
  · exact hsettling.trans (firstReading_aside hk ..)
  · exact hwait.trans (firstReading_aside hk ..)
  · exact tickAttempt_aside hk ..

theorem darkenScreen_aside (p : Side) (s : State) : LampAside l s (darkenScreen p s) := .of_eq (by simp) (by simp)

/-- An arc lost without an emergency swap. -/
theorem loseArc_aside (hk : k ≠ l) (hidle : s.seq.automation ≠ .engaged) (m : Moment) :
    LampAside l s (loseArc k m s) := by
  unfold loseArc
  dsimp only
  refine ((lampToDark_aside hk (fun x => { x with lowCurrent := 10 }) s).trans ?_).trans (raiseCondition_aside ..)
  split
  · rw [if_neg (by simpa using fun h => absurd h hidle)]
    exact darkenScreen_aside ..
  · exact .refl ..

theorem arcWatch_aside (hk : k ≠ l) (hidle : s.seq.automation ≠ .engaged) (amperes : Nat) :
    LampAside l s (arcWatch k amperes s) := by
  unfold arcWatch expireArc
  (repeat' split)
  any_goals exact .onLamp hk s _
  any_goals exact .refl l s
  have hread : LampAside l s (s.arcRead k amperes) := .onLamp hk s _
  exact hread.trans (loseArc_aside (s := s.arcRead k amperes) hk hidle _)

theorem tickFeed_aside (hk : k ≠ l) (volts amperes : Nat) (s : State) : LampAside l s (tickFeed k volts amperes s) := by
  have htrim (inBand : Bool) (u : State) : LampAside l u (countTrim k inBand u) := by
    unfold countTrim
    dsimp only
    (repeat' split)
    · exact LampAside.trans (.onLamp hk u Lamp.trimEnded) (.of_eq rfl rfl)
    · exact LampAside.trans (.onLamp hk u Lamp.trimEnded) (raiseCondition_aside ..)
    · exact .onLamp hk u _
    · exact .onLamp hk u _
    · exact .refl l u
  unfold tickFeed feedInterval feedOnce
  (repeat' split)
  any_goals exact .onLamp hk s _
  · exact ((LampAside.onLamp hk s _).trans (htrim ..)).trans ((LampAside.onLamp hk _ _).trans (.onLamp hk _ _))
  · exact .refl l s

theorem extinguishLamp_aside (hk : k ≠ l) (s : State) : LampAside l s (extinguishLamp k s) := by
  unfold extinguishLamp
  (repeat' split)
  · exact .refl l s
  · exact (lampToDark_aside hk ..).trans (darkenScreen_aside ..)
  · exact lampToDark_aside hk ..

theorem tickDouse_aside (hk : k ≠ l) (s : State) : LampAside l s (tickDouse k s) := by
  have hstopped (x : ReadTimer) (hx : (s.seq.douse.get k = none → x = none)) :
      LampAside l s (s.onSeq fun q => { q with douse := q.douse.set k x }) := by
    refine ⟨rfl, fun j hj => ?_⟩
    rw [State.onSeq_seq, Both.get_set]
    split
    · rename_i hjk; subst hjk; exact hx hj
    · exact hj
  unfold tickDouse expireDouse
  (repeat' split)
  · exact hstopped none fun _ => rfl
  · exact (hstopped none fun _ => rfl).trans (extinguishLamp_aside hk _)
  · exact hstopped _ fun h => by rw [h]; rfl

/-! ### A lamp whose arc is watched, at a boundary (R111) -/

/-- A lamp that burns under a sequencer that is not ENGAGED, with its last reading and its count of low ones, and with no
douse timer. -/
structure Burning (l : Side) (amperes count : Nat) (s : State) : Prop where
  watched : (s.lamp.get l).state = .warming ∨ (s.lamp.get l).state = .lit
  reading : (s.lamp.get l).amperes = amperes
  lowCurrent : (s.lamp.get l).lowCurrent = count
  noDouse : s.seq.douse.get l = none
  idle : s.seq.automation ≠ .engaged

namespace Burning

variable {amperes count : Nat} {t : State}

theorem of_aside (h : Burning l amperes count s) (ha : LampAside l s t) (hs : s.seq.Calm t.seq) :
    Burning l amperes count t :=
  ⟨by rw [ha.lamp]; exact h.watched, by rw [ha.lamp]; exact h.reading, by rw [ha.lamp]; exact h.lowCurrent,
    ha.douse l h.noDouse, fun he => h.idle (hs.engaged he)⟩

theorem onLamp (h : Burning l amperes count s) {g : Lamp → Lamp} {amperes' count' : Nat}
    (hstate : (g (s.lamp.get l)).state = .warming ∨ (g (s.lamp.get l)).state = .lit)
    (hreading : (g (s.lamp.get l)).amperes = amperes') (hcount : (g (s.lamp.get l)).lowCurrent = count') :
    Burning l amperes' count' (s.onLamp l g) := by
  refine ⟨?_, ?_, ?_, h.noDouse, h.idle⟩ <;> rw [State.onLamp_lamp, Both.get_set_same] <;> assumption

theorem projectorWork (h : Burning l amperes count s) (p : Side) : Burning l amperes count (projectorWork p s) :=
  h.of_aside ⟨by simp, projectorWork_douse _ _⟩ (projectorWork_calm p s).seq

theorem lampWork (h : Burning l amperes count s) (k : Side) (i : Nat) : Burning l amperes count (lampWork k i s) := by
  obtain rfl | hk := eq_or_ne k l
  · obtain hwarming | hlit := h.watched
    · unfold Machine.lampWork expireWarm
      rw [hwarming]
      dsimp only
      split
      · rename_i hdue
        rw [if_pos ⟨rfl, hdue⟩]
        exact h.onLamp (.inr rfl) h.reading h.lowCurrent
      · exact h.onLamp (.inl hwarming) h.reading h.lowCurrent
    · rw [lampWork_lit i hlit]
      exact h
  · exact h.of_aside (lampWork_aside hk ..) (lampWork_calm ..).seq

theorem gateWork (h : Burning l amperes count s) (p : Side) : Burning l amperes count (gateWork p s) := by
  have hdouse : (Machine.gateWork p s).seq.douse = s.seq.douse := by
    unfold Machine.gateWork
    dsimp only
    (repeat' split) <;> simp
  exact h.of_aside (.of_eq (by simp) hdouse) (gateWork_steady p s).seq

theorem arcWatch_other (h : Burning l amperes count s) {k : Side} (hk : k ≠ l) (i : Nat) :
    Burning l amperes count (arcWatch k i s) :=
  h.of_aside (arcWatch_aside hk h.idle i) (arcWatch_calm i fun _ he => absurd he h.idle).seq

theorem arcWatch_own (h : Burning l amperes count s) {i : Nat} (hi : 30 ≤ i ∨ count < 9) :
    Burning l i (if i < 30 then count + 1 else 0) (arcWatch l i s) := by
  have hwatched : (s.lamp.get l).watched = true := by simpa [Lamp.watched] using h.watched
  have hnone : ¬(i < arcAmperes ∧ 9 ≤ (s.lamp.get l).lowCurrent) := by
    rw [h.lowCurrent, arcAmperes]; omega
  unfold arcWatch
  rw [if_pos hwatched, if_neg hnone]
  exact h.onLamp h.watched rfl (by rw [← h.lowCurrent]; rfl)

theorem arcWatches (h : Burning l amperes count s) {r : Readings} (hi : 30 ≤ r.amperes.get l ∨ count < 9) :
    Burning l (r.amperes.get l) (if r.amperes.get l < 30 then count + 1 else 0)
      (arcWatch .b r.amperes.b (arcWatch .a r.amperes.a s)) := by
  cases l
  · exact (h.arcWatch_own hi).arcWatch_other (by decide) _
  · exact (h.arcWatch_other (by decide) _).arcWatch_own hi

theorem tickShutter (h : Burning l amperes count s) (q : Port) : Burning l amperes count (tickShutter q s) :=
  h.of_aside (.of_eq (by simp) (tickShutter_lampStates q s).douse) (tickShutter_calm q s).seq

theorem countTrim (h : Burning l amperes count s) (inBand : Bool) : Burning l amperes count (countTrim l inBand s) := by
  have hended : Burning l amperes count (s.onLamp l Lamp.trimEnded) := h.onLamp h.watched h.reading h.lowCurrent
  unfold Machine.countTrim
  dsimp only
  (repeat' split)
  · exact hended.of_aside (.of_eq rfl rfl) (.refl _)
  · exact hended.of_aside (raiseCondition_aside ..) (raiseCondition_calm ..).seq
  · exact h.onLamp h.watched h.reading h.lowCurrent
  · exact h.onLamp h.watched h.reading h.lowCurrent
  · exact h

theorem tickFeed_own (h : Burning l amperes count s) (volts : Nat) :
    Burning l amperes count (tickFeed l volts amperes s) := by
  unfold Machine.tickFeed feedInterval feedOnce
  (repeat' split)
  · have hread (d : LampSettings) :
        (((s.lamp.get l).read d volts amperes).countClamp d).state = (s.lamp.get l).state
          ∧ (((s.lamp.get l).read d volts amperes).countClamp d).amperes = amperes
          ∧ (((s.lamp.get l).read d volts amperes).countClamp d).lowCurrent = (s.lamp.get l).lowCurrent := by
      unfold Lamp.countClamp
      (repeat' split) <;> exact ⟨rfl, rfl, rfl⟩
    have hfed (x : Lamp) : x.fedOnce.state = x.state ∧ x.fedOnce.amperes = x.amperes
        ∧ x.fedOnce.lowCurrent = x.lowCurrent := by
      unfold Lamp.fedOnce
      dsimp only
      (repeat' split) <;> exact ⟨rfl, rfl, rfl⟩
    obtain ⟨hstate, hamperes, hlow⟩ := hread (s.store.working.lamp.get l)
    have hclamped : Burning l amperes count (s.onLamp l fun x =>
        (x.read (s.store.working.lamp.get l) volts amperes).countClamp (s.store.working.lamp.get l)) :=
      h.onLamp (by rw [hstate]; exact h.watched) hamperes (hlow.trans h.lowCurrent)
    have htrimmed := hclamped.countTrim
      (intervalFeed (s.store.working.lamp.get l) (s.lamp.get l) volts amperes).inBand
    obtain ⟨hstate', hamperes', hlow'⟩ := hfed _
    have hadvanced := htrimmed.onLamp (g := Lamp.fedOnce) (by rw [hstate']; exact htrimmed.watched)
      (hamperes'.trans htrimmed.reading) (hlow'.trans htrimmed.lowCurrent)
    exact hadvanced.onLamp hadvanced.watched hadvanced.reading hadvanced.lowCurrent
  · exact h
  · exact h.onLamp h.watched h.reading h.lowCurrent

theorem tickFeed_other (h : Burning l amperes count s) {k : Side} (hk : k ≠ l) (volts i : Nat) :
    Burning l amperes count (tickFeed k volts i s) :=
  h.of_aside (tickFeed_aside hk ..) (tickFeed_calm ..).seq

theorem tickFeeds {r : Readings} (h : Burning l (r.amperes.get l) count s) :
    Burning l (r.amperes.get l) count (tickFeed .b r.volts.b r.amperes.b (tickFeed .a r.volts.a r.amperes.a s)) := by
  cases l
  · exact (h.tickFeed_own _).tickFeed_other (by decide) ..
  · exact (h.tickFeed_other (by decide) ..).tickFeed_own _

theorem tickDouse (h : Burning l amperes count s) (k : Side) : Burning l amperes count (tickDouse k s) := by
  obtain rfl | hk := eq_or_ne k l
  · unfold Machine.tickDouse
    rw [h.noDouse, if_neg (by decide)]
    refine ⟨h.watched, h.reading, h.lowCurrent, ?_, h.idle⟩
    simp only [State.onSeq_seq, Both.get_set_same, h.noDouse]
    rfl
  · exact h.of_aside (tickDouse_aside hk _) (tickDouse_calm ..).seq

theorem ownWork (h : Burning l amperes count s) {r : Readings} (hi : 30 ≤ r.amperes.get l ∨ count < 9) :
    Burning l (r.amperes.get l) (if r.amperes.get l < 30 then count + 1 else 0) (ownWork r s) := by
  have hcounted : Burning l amperes count s.counted :=
    ⟨h.watched, h.reading, h.lowCurrent, h.noDouse, h.idle⟩
  have hbefore : Burning l amperes count (beforeWatch r s.counted) :=
    (((((hcounted.projectorWork .a).projectorWork .b).lampWork .a _).lampWork .b _).gateWork .a).gateWork .b
  have hfed := (hbefore.arcWatches hi).tickFeeds
  have hfell := (((hfed.tickShutter .a).tickShutter .b).tickShutter .observation1).tickShutter .observation2
  have hlink := hfell.of_aside (.of_eq (by simp) (by simp)) (judgeLink_calm _).seq
  have hsave := hlink.of_aside (.of_eq (by simp) (by simp)) (tickSave_calm _).seq
  exact (hsave.tickDouse .a).tickDouse .b

end Burning

theorem framed_lamp (r : Readings) (s : State) : (framed r s).lamp = (ownWork r s).lamp := by
  unfold framed; split <;> simp

/-- The lamps after a boundary under a sequencer that is not ENGAGED. -/
theorem boundary_lamp_idle (r : Readings) (h : s.seq.automation ≠ .engaged) :
    (boundary r s).lamp = (ownWork r s).lamp := by
  obtain ⟨hboundary, -⟩ := boundary_idle r h
  generalize boundary r s = t at hboundary
  rw [hboundary, ← framed_lamp]

/-- Settles O50: the loss by what becomes of the screen, and the count of a boundary. -/
theorem arcLossDarkensOrSwaps : Obligations.ArcLossDarkensOrSwaps := by
  unfold Obligations.ArcLossDarkensOrSwaps
  rintro l i s x rfl
  refine ⟨fun hwatched hlow hcount => ?_, exec_arcLoss_none, fun r hwatched hread hdouse hidle hnone => ?_⟩
  · refine ⟨_, exec_arcLoss hwatched hlow hcount, ?_⟩
    obtain ⟨hline, hrotation, hpending, hlights, hfire, hstore, hcond, hautomation, hcountdown⟩ :=
      arcLost_frame l (s.arcRead l i)
    obtain ⟨hlamp, hdouse, honly⟩ := arcLost_lost l (s.arcRead l i)
    have hready : (s.arcRead l i).ready l.other = s.ready l.other := onLamp_amperes_ready ..
    have hswap := arcLost_swapped (s := s.arcRead l i) (l := l)
    have hdark := arcLost_darkened (s := s.arcRead l i) (l := l)
    have haside := arcLost_aside (s := s.arcRead l i) (l := l)
    rw [hready] at hswap hdark
    generalize (s.arcRead l i).arcLost l = lost at *
    have hraised := raiseCondition_eq .arcOut { unit := .lamp l, f := some (s.proj.get l).f, t := s.tOfDetail } lost
    refine ⟨?_, .of_cond hcond (raiseCondition_raised ..), ?_, ?_⟩
    · rw [hraised]
      refine hlamp.trans ?_
      simp only [State.arcRead, State.onLamp_lamp, Both.get_set_same, Both.set_set]
      rfl
    · rw [raiseCondition_automation]
      exact automationAfter_congr (by rw [hstore]) hautomation _
    · rw [hraised]
      refine ⟨hdouse, hcountdown, honly, ⟨hline, hrotation, hpending⟩, hlights, hfire, hstore, fun hs ha hr => ?_,
        fun hs h => ?_, fun hs => ?_⟩
      · exact (hswap hs ha hr).2
      · exact (hdark hs h).2
      · exact (haside hs).2
  · have hburning : Burning l (s.lamp.get l).amperes (s.lamp.get l).lowCurrent s := ⟨hwatched, rfl, rfl, hdouse, hidle⟩
    have hdone := hburning.ownWork (r := r) (by rw [hread]; exact hnone)
    rw [hread] at hdone
    refine ⟨boundary r s, rfl, ?_⟩
    rw [boundary_lamp_idle r hidle]
    exact ⟨hdone.reading, hdone.lowCurrent, hdone.watched⟩

end

end Sys2Proof.Machine
end

section
/-! What the blocks' own work of a boundary leaves of one projector: the work directed elsewhere leaves its unit alone but
for the start flags, and what comes after its own work takes it off the screen at most (R73, R84, R86, R154). -/

namespace Sys2Proof.Machine

open Sys2Proof

section
variable {s t u : State} {p q : Side}

/-! ### Conditions only accrue -/

/-- No accrued condition is cleared. -/
def AccruedKept (s t : State) : Prop := ∀ k, (s.record k).accrued = true → (t.record k).accrued = true

theorem AccruedKept.trans (h : AccruedKept s t) (h' : AccruedKept t u) : AccruedKept s u := fun k hk => h' k (h k hk)

theorem AccruedKept.of_cond (h : t.cond = s.cond) : AccruedKept s t := fun k hk => by
  rw [State.record, h]; exact hk

theorem raiseCondition_accrues (k : Condition) (d : Detail) (s : State) : AccruedKept s (raiseCondition k d s) := by
  obtain ⟨haccrued, -, hkept⟩ := raiseCondition_raised k d s
  intro j hj
  obtain rfl | hne := eq_or_ne j k
  · exact haccrued
  · rw [hkept j hne]; exact hj

/-! ### Work directed elsewhere -/

/-- A projector's unit stands but for its start flags, its bound record stands, and no condition is cleared. -/
structure Leaves (p : Side) (s t : State) : Prop where
  unit : (t.proj.get p).withoutStart = (s.proj.get p).withoutStart
  bound : t.boundReel p = s.boundReel p
  accrued : AccruedKept s t

namespace Leaves

theorem refl (p : Side) (s : State) : Leaves p s s := ⟨rfl, rfl, .of_cond rfl⟩

theorem trans (h : Leaves p s t) (h' : Leaves p t u) : Leaves p s u :=
  ⟨h'.unit.trans h.unit, h'.bound.trans h.bound, h.accrued.trans h'.accrued⟩

theorem of_eq (hproj : t.proj = s.proj) (hreels : t.reels = s.reels) (hcond : t.cond = s.cond) : Leaves p s t :=
  ⟨by rw [hproj], by rw [State.boundReel, State.boundReel, hreels], .of_cond hcond⟩

theorem onProj_ne (hq : q ≠ p) (s : State) (g : Projector → Projector) : Leaves p s (s.onProj q g) :=
  ⟨by rw [State.onProj_proj, Both.get_set_ne _ _ hq], rfl, .of_cond rfl⟩

theorem state (h : Leaves p s t) : (t.proj.get p).state = (s.proj.get p).state :=
  (congrArg Projector.state h.unit :)

theorem onScreen (h : Leaves p s t) : t.onScreen p = s.onScreen p := by rw [State.onScreen, h.state]; rfl

end Leaves

theorem raiseCondition_leaves (k : Condition) (d : Detail) (s : State) : Leaves p s (raiseCondition k d s) :=
  ⟨by simp, by simp [State.boundReel], raiseCondition_accrues _ _ _⟩

theorem settleWithholding_leaves (s : State) : Leaves p s (settleWithholding s) := .of_eq (by simp) (by simp) (by simp)

theorem withoutStart_leaves (q : Side) (s : State) : Leaves p s (s.onProj q Projector.withoutStart) := by
  refine ⟨?_, rfl, .of_cond rfl⟩
  rw [State.onProj_proj, Both.get_set]
  split
  · rename_i h; rw [h]; rfl
  · rfl

theorem clearStart_leaves (q : Side) (s : State) : Leaves p s (clearStart q s) :=
  (withoutStart_leaves q s).trans (settleWithholding_leaves _)

theorem automationOff_leaves (s : State) : Leaves p s (automationOff s) :=
  ((withoutStart_leaves .a s).trans (withoutStart_leaves .b _)).trans (.of_eq rfl rfl rfl)

theorem setBoundStatus_leaves (hq : q ≠ p) (st : RecordStatus) (s : State) : Leaves p s (setBoundStatus q st s) :=
  ⟨rfl, setBoundStatus_boundReel st s hq, .of_cond rfl⟩

/-- A projector and its bound record change, with the other left alone. -/
theorem onProj_setBoundStatus_leaves (hq : q ≠ p) (g : Projector → Projector) (st : RecordStatus) (s : State) :
    Leaves p s (setBoundStatus q st (s.onProj q g)) :=
  (Leaves.onProj_ne hq s g).trans (setBoundStatus_leaves hq st _)

theorem markShown_leaves (hq : q ≠ p) (s : State) : Leaves p s (markShown q s) := by
  have hshown : Leaves p s (evaluateFormat (setBoundStatus q .shown s)) :=
    (setBoundStatus_leaves hq .shown s).trans ⟨rfl, rfl, .of_cond rfl⟩
  unfold markShown
  dsimp only
  split
  · exact hshown.trans (automationOff_leaves _)
  · exact hshown

theorem tailOut_leaves (hq : q ≠ p) (s : State) : Leaves p s (tailOut q s) := by
  have hout := Leaves.onProj_ne hq s Projector.tailedOut
  unfold tailOut
  dsimp only
  refine Leaves.trans ?_ (settleWithholding_leaves _)
  refine Leaves.trans ?_ (markShown_leaves hq _)
  split
  · exact hout.trans (.of_eq rfl rfl rfl)
  · exact hout

theorem breakFilm_leaves (hq : q ≠ p) (s : State) : Leaves p s (breakFilm q s) := by
  have hbroken := onProj_setBoundStatus_leaves hq Projector.filmBroken .interrupted s
  have hdue (u : State) : Leaves p u (u.onSeq fun q => { q with swapDue := false }) := .of_eq rfl rfl rfl
  have hsettled := (hbroken.trans (hdue _)).trans (settleWithholding_leaves _)
  unfold breakFilm
  dsimp only
  refine Leaves.trans ?_ (raiseCondition_leaves ..)
  split
  · exact hsettled.trans (.of_eq rfl rfl rfl)
  · exact hsettled

theorem judgeFilmLoss_leaves (hq : q ≠ p) (s : State) : Leaves p s (judgeFilmLoss q s) := by
  unfold judgeFilmLoss
  (repeat' split)
  any_goals exact tailOut_leaves hq s
  any_goals exact breakFilm_leaves hq s
  exact .refl p s

theorem failStart_leaves (hq : q ≠ p) (s : State) : Leaves p s (failStart q s) := by
  have hstopped : Leaves p s (stopProjector q s) := by
    unfold stopProjector
    refine Leaves.trans ?_ (settleWithholding_leaves _)
    exact (onProj_setBoundStatus_leaves hq Projector.rethreaded .bound s).trans (.of_eq rfl rfl rfl)
  exact hstopped.trans (raiseCondition_leaves ..)

theorem reachSpeed_leaves (hq : q ≠ p) (s : State) : Leaves p s (reachSpeed q s) :=
  onProj_setBoundStatus_leaves hq _ .running s

theorem projectorWork_leaves (hq : q ≠ p) (s : State) : Leaves p s (projectorWork q s) := by
  have hstanding : Leaves p s (judgeStanding q s) := by
    have hcleared := Leaves.onProj_ne hq s fun x => { x with lossCheck := false }
    unfold judgeStanding
    dsimp only
    split
    · exact hcleared.trans (judgeFilmLoss_leaves hq _)
    · exact hcleared
  have hinch (u : State) : Leaves p u (tickInch q u) := by
    unfold tickInch expireInch
    (repeat' split)
    · exact failStart_leaves hq u
    · exact .refl p u
    · exact .onProj_ne hq u _
  have hrun (u : State) : Leaves p u (tickRunUp q u) := by
    unfold tickRunUp endRunUp expireRunUp
    (repeat' split)
    any_goals exact reachSpeed_leaves hq u
    any_goals exact failStart_leaves hq u
    any_goals exact .onProj_ne hq u _
    all_goals exact .refl p u
  exact (hstanding.trans (hinch _)).trans (hrun _)

/-! ### The lamps' timers -/

theorem lampToDark_leaves (l : Side) (g : Lamp → Lamp) (s : State) : Leaves p s (lampToDark l g s) := by
  have hdark : Leaves p s ((s.onLamp l fun x => g x.darkened).onSeq fun q => { q with douse := q.douse.set l none }) :=
    .of_eq rfl rfl rfl
  exact hdark.trans (clearStart_leaves l _)

theorem tickAttempt_leaves (l : Side) (amperes : Nat) (s : State) : Leaves p s (tickAttempt l amperes s) := by
  have hread (u : State) (g : Lamp → Lamp) : Leaves p u (u.onLamp l g) := .of_eq rfl rfl rfl
  unfold tickAttempt judgeArc expireAttempt failAttempt failStrike
  dsimp only
  (repeat' split)
  any_goals exact hread s _
  any_goals exact .refl p s
  · exact (hread s _).trans (hread _ _)
  · exact (hread s _).trans ((lampToDark_leaves ..).trans (raiseCondition_leaves ..))

theorem lampWork_leaves (l : Side) (amperes : Nat) (s : State) : Leaves p s (lampWork l amperes s) := by
  unfold lampWork firstReading
  (repeat' split)
  any_goals exact tickAttempt_leaves ..
  all_goals exact .of_eq (by simp) (by simp) (by simp)

/-! ### Work that takes a projector off the screen at most -/

/-- A unit off the screen stands but for its start flags, no film-loss switch is to be judged anew, no record is bound
anew, and no condition is cleared. -/
structure Dims (p : Side) (s t : State) : Prop where
  unit : s.onScreen p = false → (t.proj.get p).withoutStart = (s.proj.get p).withoutStart
  judged : (s.proj.get p).lossCheck = false → (t.proj.get p).lossCheck = false
  unbound : s.boundReel p = none → t.boundReel p = none
  accrued : AccruedKept s t

theorem Leaves.dims (h : Leaves p s t) : Dims p s t where
  unit _ := h.unit
  judged hs := by
    have hloss : (t.proj.get p).lossCheck = (s.proj.get p).lossCheck := (congrArg Projector.lossCheck h.unit :)
    rw [hloss, hs]
  unbound hs := h.bound.trans hs
  accrued := h.accrued

namespace Dims

theorem refl (p : Side) (s : State) : Dims p s s := (Leaves.refl p s).dims

theorem state (h : Dims p s t) (hs : s.onScreen p = false) : (t.proj.get p).state = (s.proj.get p).state :=
  (congrArg Projector.state (h.unit hs) :)

theorem off (h : Dims p s t) (hs : s.onScreen p = false) : t.onScreen p = false := by
  rw [onScreen_eq_false_iff, h.state hs, ← onScreen_eq_false_iff]; exact hs

theorem trans (h : Dims p s t) (h' : Dims p t u) : Dims p s u where
  unit hs := (h'.unit (h.off hs)).trans (h.unit hs)
  judged hs := h'.judged (h.judged hs)
  unbound hs := h'.unbound (h.unbound hs)
  accrued := h.accrued.trans h'.accrued

end Dims

/-- A status set anew binds no record. -/
theorem setBoundStatus_unbound (p q : Side) (st : RecordStatus) (s : State) (hs : s.boundReel p = none) :
    (setBoundStatus q st s).boundReel p = none := by
  obtain rfl | hq := eq_or_ne q p
  · simp only [State.boundReel, boundTo, List.find?_eq_none] at hs ⊢
    intro r hr
    obtain ⟨y, hy, rfl⟩ := List.mem_map.1 hr
    have hfree := hs y hy
    rw [if_neg hfree]
    exact hfree
  · rw [setBoundStatus_boundReel st s hq]
    exact hs

/-- The projector of a dark screen leaves it. -/
theorem darkenScreen_dims (hs : s.onScreen q = true) : Dims p s (darkenScreen q s) := by
  obtain rfl | hq := eq_or_ne q p
  · refine ⟨fun hoff => ?_, ?_, ?_, .of_cond (by simp)⟩
    · rw [hs] at hoff; cases hoff
    · rw [darkenScreen_eq]; simp [Projector.hidden]
    · exact setBoundStatus_unbound q q .running (leaveScreen q .running s) ∘ fun h => by simpa [State.boundReel] using h
  · refine Leaves.dims ⟨?_, ?_, .of_cond (by simp)⟩
    · rw [darkenScreen_eq]; simp [Both.get_set_ne _ _ hq]
    · refine (setBoundStatus_boundReel .running (leaveScreen q .running s) hq).trans ?_
      simp [State.boundReel]

theorem gateTrip_dims (hs : s.onScreen q = true) : Dims p s (gateTrip q s) :=
  (darkenScreen_dims hs).trans (raiseCondition_leaves ..).dims

theorem gateWork_dims (q : Side) (s : State) : Dims p s (gateWork q s) := by
  unfold gateWork
  dsimp only
  generalize (if (s.proj.get q).rate < stallRate then (s.proj.get q).stall + 1 else 0) = count
  split
  · rename_i hs
    split
    · exact gateTrip_dims hs
    · obtain rfl | hq := eq_or_ne q p
      · refine ⟨fun hoff => ?_, fun h => ?_, id, .of_cond rfl⟩
        · rw [hs] at hoff; cases hoff
        · simpa using h
      · exact (Leaves.onProj_ne hq s _).dims
  · exact .refl p s

theorem extinguishLamp_dims (l : Side) (s : State) : Dims p s (extinguishLamp l s) := by
  have hdark := (lampToDark_leaves (p := p) l Lamp.noLowCurrent s).dims
  unfold extinguishLamp
  dsimp only
  (repeat' split)
  · exact .refl p s
  · exact hdark.trans (darkenScreen_dims (by rwa [lampToDark_onScreen]))
  · exact hdark

theorem tickDouse_dims (l : Side) (s : State) : Dims p s (tickDouse l s) := by
  have hseq (g : Sequencer → Sequencer) : Dims p s (s.onSeq g) :=
    (Leaves.of_eq (s := s) (t := s.onSeq g) rfl rfl rfl).dims
  unfold tickDouse expireDouse
  (repeat' split)
  any_goals exact hseq _
  exact (hseq _).trans (extinguishLamp_dims l _)

/-- An arc lost without an emergency swap. -/
theorem loseArc_dims {l : Side} (m : Moment)
    (h : s.onScreen l = true → s.seq.automation = .engaged → s.ready l.other = false) : Dims p s (loseArc l m s) := by
  have hdark := (lampToDark_leaves (p := p) l (fun x => { x with lowCurrent := 10 }) s).dims
  unfold loseArc
  dsimp only
  refine Dims.trans ?_ (raiseCondition_leaves ..).dims
  split
  · rename_i hs
    rw [lampToDark_ready_other, if_neg]
    · exact hdark.trans (darkenScreen_dims (by rwa [lampToDark_onScreen]))
    · rintro ⟨ha, hr⟩
      rw [h hs (by simpa using ha)] at hr
      cases hr
  · exact hdark

theorem arcWatch_dims {l : Side} (amperes : Nat)
    (h : s.onScreen l = true → s.seq.automation = .engaged → s.ready l.other = false) :
    Dims p s (arcWatch l amperes s) := by
  have hread (g : Lamp → Lamp) : Dims p s (s.onLamp l g) :=
    (Leaves.of_eq (s := s) (t := s.onLamp l g) rfl rfl rfl).dims
  unfold arcWatch expireArc
  (repeat' split)
  any_goals exact hread _
  any_goals exact .refl p s
  exact (hread _).trans (loseArc_dims (s := s.arcRead l amperes) _ fun hs ha => (onLamp_amperes_ready ..).trans (h hs ha))

theorem tickFeed_leaves (l : Side) (volts amperes : Nat) (s : State) : Leaves p s (tickFeed l volts amperes s) := by
  have hread (u : State) (g : Lamp → Lamp) : Leaves p u (u.onLamp l g) := .of_eq rfl rfl rfl
  have htrim (inBand : Bool) (u : State) : Leaves p u (countTrim l inBand u) := by
    unfold countTrim
    dsimp only
    (repeat' split)
    · exact .of_eq rfl rfl rfl
    · exact (hread u Lamp.trimEnded).trans (raiseCondition_leaves ..)
    · exact hread u _
    · exact hread u _
    · exact .refl p u
  unfold tickFeed feedInterval feedOnce
  (repeat' split)
  · exact ((hread s _).trans (htrim ..)).trans ((hread _ _).trans (hread _ _))
  · exact .refl p s
  · exact hread s _

theorem tickShutter_leaves (q : Port) (s : State) : Leaves p s (tickShutter q s) := by
  have hjam : Leaves p s (raiseJam q (s.onShutter q Shutter.jammed)) :=
    Leaves.trans (t := s.onShutter q Shutter.jammed) (.of_eq rfl rfl rfl) (raiseCondition_leaves ..)
  unfold tickShutter expireFall expireRaise
  (repeat' split)
  any_goals exact hjam
  all_goals exact .of_eq rfl rfl rfl

theorem afterWatch_dims (r : Readings) (s : State) : Dims p s (afterWatch r s) := by
  have hfed := (tickFeed_leaves (p := p) .a r.volts.a r.amperes.a s).trans (tickFeed_leaves .b r.volts.b r.amperes.b _)
  have hfell := (((hfed.trans (tickShutter_leaves .a _)).trans (tickShutter_leaves .b _)).trans
    (tickShutter_leaves .observation1 _)).trans (tickShutter_leaves .observation2 _)
  have hlink (u : State) : Leaves p u (judgeLink u) := .of_eq (by simp) (by simp) (by simp)
  have hsave (u : State) : Leaves p u (tickSave u) := .of_eq (by simp) (by simp) (by simp)
  exact (((hfell.trans (hlink _)).trans (hsave _)).dims.trans (tickDouse_dims .a _)).trans (tickDouse_dims .b _)

/-! ### The whole of the later work -/

/-- No emergency swap of this boundary is to or from the projector (R86). -/
def State.Spared (s : State) (p : Side) : Prop :=
  s.seq.automation = .engaged →
    s.onScreen p = false ∧ (s.onScreen p.other = false ∨ (s.proj.get p).state ≠ .running)

theorem State.Spared.ready (h : s.Spared p) (l : Side) (hs : s.onScreen l = true) (ha : s.seq.automation = .engaged) :
    s.ready l.other = false := by
  obtain ⟨hoff, hother⟩ := h ha
  have hl : l = p.other := Side.eq_other_of_ne fun e => by rw [e, hoff] at hs; cases hs
  subst hl
  rw [hs] at hother
  rw [Side.other_other, State.ready]
  simpa using fun hr => absurd hr (by simpa using hother)

/-- The blocks' work from the gates on. -/
def lateWork (r : Readings) (s : State) : State :=
  afterWatch r (arcWatch .b r.amperes.b (arcWatch .a r.amperes.a (gateWork .b (gateWork .a s))))

theorem ownWork_late (r : Readings) (s : State) :
    ownWork r s =
      lateWork r (lampWork .b r.amperes.b (lampWork .a r.amperes.a (projectorWork .b (projectorWork .a s.counted)))) :=
  rfl

theorem State.Spared.of_dims (h : s.Spared p) (hd : Dims p s t) (hs : Steady s t) : t.Spared p := by
  intro ha
  obtain ⟨hoff, hother⟩ := h (hs.seq.engaged ha)
  refine ⟨hd.off hoff, hother.imp hs.off fun hne => ?_⟩
  rw [hd.state hoff]
  exact hne

theorem State.Spared.watched (h : s.Spared p) (r : Readings) :
    Dims p s (afterWatch r (arcWatch .b r.amperes.b (arcWatch .a r.amperes.a s)))
      ∧ Steady s (afterWatch r (arcWatch .b r.amperes.b (arcWatch .a r.amperes.a s))) := by
  have ha := arcWatch_dims (p := p) (l := .a) r.amperes.a fun hs => h.ready .a hs
  have hsa := (arcWatch_calm (l := .a) r.amperes.a fun hs => h.ready .a hs).steady
  have h' := h.of_dims ha hsa
  have hb := arcWatch_dims (p := p) (l := .b) r.amperes.b fun hs => h'.ready .b hs
  have hsb := (arcWatch_calm (l := .b) r.amperes.b fun hs => h'.ready .b hs).steady
  exact ⟨(ha.trans hb).trans (afterWatch_dims r _), (hsa.trans hsb).trans (afterWatch_calm r _).steady⟩

theorem State.Spared.lateWork (h : s.Spared p) (r : Readings) :
    Dims p s (lateWork r s) ∧ Steady s (lateWork r s) := by
  have hgates := (gateWork_dims (p := p) .a s).trans (gateWork_dims .b _)
  have hsteady := (gateWork_steady .a s).trans (gateWork_steady .b _)
  obtain ⟨hdims, hlate⟩ := (h.of_dims hgates hsteady).watched r
  exact ⟨hgates.trans hdims, hsteady.trans hlate⟩

/-- The work before the gates, as one projector meets it: its own work, with the other's before or after it. -/
theorem projectorWorks_split (p : Side) (r : Readings) (s : State) :
    ∃ v, Leaves p s v ∧ Calm s v
      ∧ Leaves p (projectorWork p v)
          (lampWork .b r.amperes.b (lampWork .a r.amperes.a (projectorWork .b (projectorWork .a s))))
      ∧ Calm (projectorWork p v)
          (lampWork .b r.amperes.b (lampWork .a r.amperes.a (projectorWork .b (projectorWork .a s)))) := by
  have hlamps (u : State) : Leaves p u (lampWork .b r.amperes.b (lampWork .a r.amperes.a u)) :=
    (lampWork_leaves .a _ u).trans (lampWork_leaves ..)
  have hcalm (u : State) : Calm u (lampWork .b r.amperes.b (lampWork .a r.amperes.a u)) :=
    (lampWork_calm .a _ u).trans (lampWork_calm ..)
  cases p
  · exact ⟨s, .refl .a s, .refl s, (projectorWork_leaves (by decide) _).trans (hlamps _),
      (projectorWork_calm ..).trans (hcalm _)⟩
  · exact ⟨_, projectorWork_leaves (by decide) s, projectorWork_calm .a s, hlamps _, hcalm _⟩

/-- The blocks' own work of a boundary, as a projector that no emergency swap concerns meets it. -/
theorem ownWork_split (p : Side) (r : Readings) (s : State) :
    ∃ v, Leaves p s.counted v ∧ Calm s.counted v
      ∧ ((projectorWork p v).Spared p →
          Dims p (projectorWork p v) (ownWork r s) ∧ Steady (projectorWork p v) (ownWork r s)) := by
  obtain ⟨v, hleaves, hcalm, hafter, hsteady⟩ := projectorWorks_split p r s.counted
  refine ⟨v, hleaves, hcalm, fun hspared => ?_⟩
  rw [ownWork_late]
  obtain ⟨hdims, hlate⟩ := (hspared.of_dims hafter.dims hsteady.steady).lateWork r
  exact ⟨hafter.dims.trans hdims, hsteady.steady.trans hlate⟩

theorem framed_cond (r : Readings) (s : State) : (framed r s).cond = (ownWork r s).cond := by
  unfold framed; split <;> simp

/-! ### A sequencer that is not ENGAGED after the blocks' own work -/

theorem framed_seq_automation (r : Readings) (s : State) :
    (framed r s).seq.automation = (ownWork r s).seq.automation := by
  unfold framed; split <;> simp

/-- A boundary whose own work leaves automation not ENGAGED (R70). -/
theorem boundary_disengaged {r : Readings} (h : (framed r s).seq.automation ≠ .engaged) :
    boundary r s = judgeWindow (sendFrame (framed r s)) ∨ boundary r s = sendFrame (framed r s) := by
  cases hpass : s.screenPassed (rampStep (ownWork r s))
  · rw [boundary_evaluated hpass]
    generalize framed r s = u at h
    have hjudged : (judgeWindow (sendFrame u)).seq.automation ≠ .engaged := by simpa using h
    rw [judged, judgeHouseCue_idle hjudged, sequencerTests_idle hjudged, showStarts_idle (starting_idle hjudged)]
    exact .inl rfl
  · rw [boundary_passed hpass]
    generalize framed r s = u at h
    have hsent : (sendFrame u).seq.automation ≠ .engaged := by simpa using h
    rw [showStarts_idle (starting_idle hsent)]
    exact .inr rfl

/-- What a boundary adds to own work that leaves automation not ENGAGED. -/
theorem boundary_disengaged_own {r : Readings} (h : (ownWork r s).seq.automation ≠ .engaged) :
    (boundary r s).cond = (ownWork r s).cond ∧ (boundary r s).seq.automation = (ownWork r s).seq.automation
      ∧ ∀ p, ∃ w, (boundary r s).proj.get p = { (ownWork r s).proj.get p with windowOpen := w } := by
  have hcond := framed_cond r s
  have hproj := framed_proj r s
  have hautomation := framed_seq_automation r s
  have hboundary := boundary_disengaged (r := r) (s := s) (by rw [hautomation]; exact h)
  generalize framed r s = u at *
  rw [← hcond, ← hproj, ← hautomation]
  obtain hb | hb := hboundary <;> rw [hb]
  · exact ⟨by simp, by simp, fun p => ⟨_, (judgeWindow_only (sendFrame u)).2 p⟩⟩
  · exact ⟨rfl, rfl, fun p => ⟨_, rfl⟩⟩

/-- What a boundary adds to the blocks' own work under a sequencer that is not ENGAGED. -/
theorem boundary_idle_own (r : Readings) (h : s.seq.automation ≠ .engaged) :
    (boundary r s).cond = (ownWork r s).cond
      ∧ ∀ p, ∃ w, (boundary r s).proj.get p = { (ownWork r s).proj.get p with windowOpen := w } := by
  obtain ⟨hcond, -, hproj⟩ := boundary_disengaged_own (r := r) fun ha =>
    h ((ownWork_steady r fun he => absurd he h).seq.engaged ha)
  exact ⟨hcond, hproj⟩

end

end Sys2Proof.Machine
end

section
/-! The film-loss switch: the tail-out and the film break (R151 to R153). -/

namespace Sys2Proof.Machine

open Sys2Proof

section
variable {s : State} {p : Side}

/-! ### The tail-out (R152) -/

/-- The booth of a tail-out as the format checks find it. -/
def State.tailed (s : State) (p : Side) : State :=
  { s with
    proj := s.proj.set p (s.proj.get p).tailedOut
    reels :=
      { records := boundBecome s.reels.records p .shown
        code := (formatCheck s.store.working (boundBecome s.reels.records p .shown)).1
        faultReel := (formatCheck s.store.working (boundBecome s.reels.records p .shown)).2 }
    seq := { s.seq with swapDue := s.seq.swapDue && !s.onScreen p } }

theorem tailOut_eq (p : Side) (s : State) :
    tailOut p s =
      settleWithholding
        (if (s.tailed p).reels.code ≠ 0 ∧ s.seq.automation ≠ .off then automationOff (s.tailed p) else s.tailed p) := by
  have hshown : evaluateFormat (setBoundStatus p .shown
      (if s.onScreen p then (s.onProj p Projector.tailedOut).onSeq fun q => { q with swapDue := false }
      else s.onProj p Projector.tailedOut)) = s.tailed p := by
    cases hs : s.onScreen p <;> simp [State.tailed, hs, evaluateFormat, setBoundStatus, boundBecome, State.onReels,
      State.onProj, State.onSeq]
  unfold tailOut markShown
  dsimp only
  rw [hshown]
  rfl

theorem tailOut_unit (p : Side) (s : State) : (tailOut p s).proj.get p = (s.proj.get p).tailedOut := by
  have hunit : (s.tailed p).proj.get p = (s.proj.get p).tailedOut := Both.get_set_same ..
  rw [tailOut_eq, settleWithholding_eq]
  dsimp only
  split
  · rw [automationOff_proj, hunit]; rfl
  · exact hunit

theorem tailOut_other (p : Side) (s : State) :
    (tailOut p s).proj.get p.other =
      if (s.tailed p).reels.code ≠ 0 ∧ s.seq.automation ≠ .off then (s.proj.get p.other).notStarting
      else s.proj.get p.other := by
  have hother : (s.tailed p).proj.get p.other = s.proj.get p.other := Both.get_set_other ..
  rw [tailOut_eq, settleWithholding_eq]
  dsimp only
  split
  · rw [automationOff_proj, hother]
  · exact hother

theorem tailOut_reels (p : Side) (s : State) : (tailOut p s).reels = (s.tailed p).reels := by
  rw [tailOut_eq, settleWithholding_eq]
  dsimp only
  split
  · rfl
  · rfl

theorem tailOut_only (p : Side) (s : State) : s.WithholdingOnlyEnds (tailOut p s) := by
  rw [tailOut_eq]
  refine withholdingOnlyEnds_trans ?_ (settleWithholding_only _)
  split
  · exact .inr rfl
  · exact .inl rfl

theorem tailOut_seq (p : Side) (s : State) :
    (tailOut p s).seq =
      { s.seq with
        automation := if (s.tailed p).reels.code ≠ 0 then .off else s.seq.automation
        swapDue := s.seq.swapDue && !s.onScreen p, withholding := (tailOut p s).seq.withholding } := by
  rw [tailOut_eq, settleWithholding_seq]
  split
  · rename_i h
    rw [if_pos h.1]
    rfl
  · rename_i h
    by_cases hcode : (s.tailed p).reels.code ≠ 0
    · have hoff : s.seq.automation = .off := by simpa [hcode] using h
      rw [if_pos hcode, ← hoff]
      rfl
    · rw [if_neg hcode]
      rfl

/-! ### The film break (R153, R134) -/

/-- The house under the fade of a film break that leaves no projector on the screen. -/
def State.breakFade (s : State) (p : Side) : Light :=
  if s.onScreen p.other = false ∧ s.fireAllows = true then
    s.lights.house.rampTo (s.store.working.breakLevel * 16) 20
  else s.lights.house

/-- The booth of a film break before the fade and the raise. -/
def State.broke (s : State) (p : Side) : State :=
  settleWithholding
    { s with
      proj := s.proj.set p (s.proj.get p).filmBroken
      reels := { s.reels with records := boundBecome s.reels.records p .interrupted }
      seq := { s.seq with swapDue := false } }

theorem broke_eq (p : Side) (s : State) :
    s.broke p =
      { s with
        proj := s.proj.set p (s.proj.get p).filmBroken
        reels := { s.reels with records := boundBecome s.reels.records p .interrupted }
        seq := { s.seq with swapDue := false, withholding := (s.broke p).seq.withholding } } := by
  unfold State.broke
  rw [settleWithholding_eq]

theorem broke_only (p : Side) (s : State) : s.WithholdingOnlyEnds (s.broke p) := settleWithholding_only _

/-- The only projector that can be left on the screen by a film break is the other one. -/
theorem broke_outgoing (p : Side) (s : State) : (s.broke p).outgoing.isNone = !s.onScreen p.other := by
  have hp : (s.broke p).onScreen p = false := by
    rw [onScreen_eq_false_iff, broke_eq]
    simp [Projector.filmBroken]
  have hother : (s.broke p).onScreen p.other = s.onScreen p.other := by
    rw [broke_eq, State.onScreen, Both.get_set_other]; rfl
  rw [outgoing_eq (p := p.other) (by rw [Side.other_other]; exact hp), hother]
  cases s.onScreen p.other <;> rfl

theorem breakFilm_eq (p : Side) (s : State) :
    breakFilm p s =
      raiseCondition .filmBreak { unit := .projector p, f := some (s.proj.get p).f, t := s.tOfDetail }
        { s.broke p with lights := { s.lights with house := s.breakFade p } } := by
  have hfaded : (if (s.broke p).outgoing.isNone ∧ (s.broke p).fireAllows = true then
      giveTarget .house (s.broke p).store.working.breakLevel breakTenths (s.broke p) else s.broke p) =
      { s.broke p with lights := { s.lights with house := s.breakFade p } } := by
    have hfire : (s.broke p).fireAllows = s.fireAllows := by rw [broke_eq]; rfl
    have hstore : (s.broke p).store = s.store := by rw [broke_eq]
    have hlights : (s.broke p).lights = s.lights := by rw [broke_eq]
    rw [broke_outgoing, hfire, hstore]
    unfold State.breakFade
    generalize s.broke p = t at *
    by_cases h : s.onScreen p.other = false ∧ s.fireAllows = true
    · rw [if_pos (by simpa using h), if_pos h, ← hlights]
      rfl
    · rw [if_neg (by simpa using h), if_neg h, ← hlights]
  have hdetail : State.detailOf { s.broke p with lights := { s.lights with house := s.breakFade p } } (.projector p) p =
      { unit := .projector p, f := some (s.proj.get p).f, t := s.tOfDetail } := by
    rw [State.detailOf, detailT_eq, broke_eq, Both.get_set_same]
    rfl
  rw [← hdetail, ← hfaded]
  rfl

theorem breakFilm_proj (p : Side) (s : State) :
    (breakFilm p s).proj = s.proj.set p (s.proj.get p).filmBroken := by
  rw [breakFilm_eq, raiseCondition_eq, broke_eq]

/-! ### Its judging at a boundary (R151) -/

theorem judgeFilmLoss_judged (h : (s.proj.get p).lossCheck = false) :
    ((judgeFilmLoss p s).proj.get p).lossCheck = false := by
  have hout : ((tailOut p s).proj.get p).lossCheck = false := by rw [tailOut_unit]; rfl
  have hbreak : ((breakFilm p s).proj.get p).lossCheck = false := by rw [breakFilm_proj, Both.get_set_same]; rfl
  unfold judgeFilmLoss
  (repeat' split)
  any_goals exact hout
  any_goals exact hbreak
  exact h

theorem failStart_proj (p : Side) (s : State) : (failStart p s).proj = s.proj.set p (s.proj.get p).rethreaded := by
  rw [failStart, raiseCondition_eq, stopProjector_eq]

/-- A projector's own work leaves no film-loss switch to be judged. -/
theorem projectorWork_judged (p : Side) (s : State) : ((projectorWork p s).proj.get p).lossCheck = false := by
  have hfail (u : State) : ((failStart p u).proj.get p).lossCheck = false := by
    rw [failStart_proj, Both.get_set_same]; rfl
  have hstanding : ((judgeStanding p s).proj.get p).lossCheck = false := by
    unfold judgeStanding
    dsimp only
    split
    · exact judgeFilmLoss_judged (by simp)
    · simp
  have hinch {u : State} (h : (u.proj.get p).lossCheck = false) : ((tickInch p u).proj.get p).lossCheck = false := by
    unfold tickInch expireInch
    (repeat' split)
    · exact hfail u
    · exact h
    · simpa using h
  have hrun {u : State} (h : (u.proj.get p).lossCheck = false) : ((tickRunUp p u).proj.get p).lossCheck = false := by
    have hspeed : ((reachSpeed p u).proj.get p).lossCheck = false := by simpa [reachSpeed] using h
    unfold tickRunUp endRunUp expireRunUp
    (repeat' split)
    any_goals exact hspeed
    any_goals exact hfail u
    any_goals exact h
    simpa using h
  exact hrun (hinch hstanding)

end

end Sys2Proof.Machine
end

section
/-! Pulses, inches and run-ups (R60, R62, R63). -/

namespace Sys2Proof.Machine

open Sys2Proof

section
variable {s : State} {p : Side}

/-! ### The timers of a projector -/

theorem Timer.due_iff (x : Timer) : Timer.due x = true ↔ x.Last := by
  match x with
  | none => simp [Timer.due, Timer.Last]
  | some n => simp [Timer.due, Timer.Last]; omega

/-- A run-up or an inch that has run out of time, with the detail by the projector's F (R62, R63). -/
theorem failStart_raised (p : Side) (s : State) :
    s.Raised (failStart p s) .startFail { unit := .projector p, f := some (s.proj.get p).f, t := none } := by
  have hf : ((stopProjector p s).proj.get p).f = (s.proj.get p).f := by
    rw [stopProjector_eq, Both.get_set_same]; rfl
  rw [failStart, hf]
  exact .of_cond (u := stopProjector p s) (by rw [stopProjector_eq]) (raiseCondition_raised ..)

/-- A moving projector that is neither ON_SCREEN nor in RUNOUT stops with the sequencer as it stands. -/
theorem failStart_seq (hscreen : (s.proj.get p).state ≠ .onScreen) (hrunout : (s.proj.get p).state ≠ .runout) :
    (failStart p s).seq =
      { s.seq with
        automation := automationAfter s .startFail, withholding := (failStart p s).seq.withholding } := by
  have hoff : s.onScreen p = false := (onScreen_eq_false_iff s p).2 hscreen
  have hstopped := stopProjector_eq p s
  rw [hoff, if_neg hrunout] at hstopped
  unfold failStart
  generalize stopProjector p s = t at hstopped
  have hautomation : automationAfter t .startFail = automationAfter s .startFail :=
    automationAfter_congr (by rw [hstopped]) (by rw [hstopped]) _
  rw [raiseCondition_eq, hautomation, hstopped]
  simp

/-! ### The rows -/

theorem exec_pulse (p : Side) (s : State) : exec (.tachometerPulse p) s = .next (countPulse p s) := rfl

/-- A pulse that completes no inch is counted and does no more. -/
theorem countPulse_counted (h : (s.proj.get p).state = .inching → 2 ≤ (s.proj.get p).inchCount) :
    countPulse p s = s.onProj p Projector.pulsed := by
  refine if_neg ?_
  rw [State.onProj_proj, Both.get_set_same]
  rintro ⟨hinching, hcount⟩
  have hinching' : (s.proj.get p).state = .inching := hinching
  have htwo := h hinching'
  simp only [Projector.pulsed, hinching', if_true] at hcount
  omega

theorem countPulse_done (hinching : (s.proj.get p).state = .inching) (hcount : (s.proj.get p).inchCount ≤ 1) :
    countPulse p s = finishInch p (s.onProj p Projector.pulsed) := by
  refine if_pos ?_
  rw [State.onProj_proj, Both.get_set_same]
  refine ⟨hinching, ?_⟩
  simp only [Projector.pulsed, hinching, if_true]
  omega

theorem onProj_congr {g g' : Projector → Projector} (h : g (s.proj.get p) = g' (s.proj.get p)) :
    s.onProj p g = s.onProj p g' := by
  rw [State.onProj, State.onProj, h]

theorem endInch_done (hinching : (s.proj.get p).state = .inching) (hcount : (s.proj.get p).inchCount = 0) :
    endInch p s = finishInch p s := if_pos ⟨hinching, hcount⟩

theorem endInch_none (h : (s.proj.get p).state ≠ .inching ∨ (s.proj.get p).inchCount ≠ 0) : endInch p s = s :=
  if_neg fun hdone => h.elim (· hdone.1) (· hdone.2)

theorem expireInch_late (hinching : (s.proj.get p).state = .inching) (hlast : (s.proj.get p).inchTimer.Last)
    (hcount : 1 ≤ (s.proj.get p).inchCount) : expireInch p s = failStart p s :=
  if_pos ⟨hinching, (Timer.due_iff _).2 hlast, hcount⟩

theorem expireInch_none (h : (s.proj.get p).state ≠ .inching ∨ ¬(s.proj.get p).inchTimer.Last
    ∨ (s.proj.get p).inchCount = 0) : expireInch p s = s := by
  refine if_neg ?_
  rw [Timer.due_iff]
  rintro ⟨hinching, hlast, hcount⟩
  obtain h | h | h := h
  · exact h hinching
  · exact h hlast
  · omega

theorem endRunUp_done (hstarting : (s.proj.get p).state = .starting) (hrate : 44 ≤ (s.proj.get p).rate) :
    endRunUp p s = reachSpeed p s := if_pos ⟨hstarting, hrate⟩

theorem endRunUp_none (h : (s.proj.get p).state ≠ .starting ∨ (s.proj.get p).rate < 44) : endRunUp p s = s := by
  refine if_neg ?_
  rintro ⟨hstarting, hrate⟩
  have hrate' : 44 ≤ (s.proj.get p).rate := hrate
  exact h.elim (· hstarting) (by omega)

theorem expireRunUp_done (hstarting : (s.proj.get p).state = .starting) (hlast : (s.proj.get p).runUpTimer.Last)
    (hrate : 44 ≤ (s.proj.get p).rate) : expireRunUp p s = reachSpeed p s :=
  (if_pos ⟨hstarting, (Timer.due_iff _).2 hlast⟩).trans (if_pos hrate)

theorem expireRunUp_late (hstarting : (s.proj.get p).state = .starting) (hlast : (s.proj.get p).runUpTimer.Last)
    (hrate : (s.proj.get p).rate < 44) : expireRunUp p s = failStart p s :=
  (if_pos ⟨hstarting, (Timer.due_iff _).2 hlast⟩).trans (if_neg (by simpa [speedRate] using hrate))

theorem expireRunUp_none (h : (s.proj.get p).state ≠ .starting ∨ ¬(s.proj.get p).runUpTimer.Last) :
    expireRunUp p s = s := by
  refine if_neg ?_
  rw [Timer.due_iff]
  rintro ⟨hstarting, hlast⟩
  exact h.elim (· hstarting) (· hlast)

/-- A run-up that is done, as one update (R63, R45). -/
theorem reachSpeed_eq (p : Side) (s : State) :
    reachSpeed p s =
      { s with
        proj := s.proj.set p { s.proj.get p with state := .running, runUpTimer := none }
        reels := { s.reels with records := boundBecome s.reels.records p .running } } := rfl

/-! ### One projector's work at a boundary (R62, R63) -/

/-- The check of a film-loss switch that is not to be judged. -/
theorem judgeStanding_none (h : (s.proj.get p).lossCheck = false ∨ (s.proj.get p).filmLoss = .closed) :
    judgeStanding p s = s.onProj p fun x => { x with lossCheck := false } := by
  refine if_neg ?_
  rintro ⟨hcheck, hopened⟩
  simp_all

theorem tickInch_counted (h : ¬(s.proj.get p).inchTimer.Last) :
    tickInch p s = s.onProj p fun x => { x with inchTimer := x.inchTimer.counted } :=
  if_neg fun hdue => h ((Timer.due_iff _).1 hdue)

theorem tickInch_late (hinching : (s.proj.get p).state = .inching) (hlast : (s.proj.get p).inchTimer.Last)
    (hcount : 1 ≤ (s.proj.get p).inchCount) : tickInch p s = failStart p s :=
  (if_pos ((Timer.due_iff _).2 hlast)).trans (expireInch_late hinching hlast hcount)

theorem tickRunUp_counted (hslow : (s.proj.get p).state = .starting → (s.proj.get p).rate < 44)
    (h : ¬(s.proj.get p).runUpTimer.Last) :
    tickRunUp p s = s.onProj p fun x => { x with runUpTimer := x.runUpTimer.counted } := by
  refine (if_neg ?_).trans (if_neg fun hdue => h ((Timer.due_iff _).1 hdue))
  rintro ⟨hstarting, hrate⟩
  have hrate' : 44 ≤ (s.proj.get p).rate := hrate
  have hlow := hslow hstarting
  omega

theorem tickRunUp_done (hstarting : (s.proj.get p).state = .starting) (hrate : 44 ≤ (s.proj.get p).rate) :
    tickRunUp p s = reachSpeed p s :=
  (if_pos ⟨hstarting, hrate⟩).trans (endRunUp_done hstarting hrate)

theorem tickRunUp_late (hstarting : (s.proj.get p).state = .starting) (hrate : (s.proj.get p).rate < 44)
    (hlast : (s.proj.get p).runUpTimer.Last) : tickRunUp p s = failStart p s :=
  (if_neg fun h => absurd (h.2 : 44 ≤ _) (by omega)).trans
    ((if_pos ((Timer.due_iff _).2 hlast)).trans (expireRunUp_late hstarting hlast hrate))

@[simp] theorem not_last_none : ¬Timer.Last none := by rintro (h | h) <;> cases h

theorem not_last_some {left : Nat} (h : 2 ≤ left) : ¬Timer.Last (some left) := by
  rintro (h' | h') <;> cases h' <;> omega

theorem last_some {left : Nat} (h : left ≤ 1) : Timer.Last (some left) := by
  simp only [Timer.Last, Option.some.injEq]; omega

section
variable {left : Nat} (hloss : (s.proj.get p).lossCheck = false ∨ (s.proj.get p).filmLoss = .closed)
include hloss

/-- An inch that goes on. -/
theorem projectorWork_inching (hstate : (s.proj.get p).state = .inching) (hrun : (s.proj.get p).runUpTimer = none)
    (hinch : (s.proj.get p).inchTimer = some left) (hleft : 2 ≤ left) :
    (projectorWork p s).proj.get p = { s.proj.get p with lossCheck := false, inchTimer := some (left - 1) } := by
  rw [projectorWork, judgeStanding_none hloss, tickInch_counted (by simpa [hinch] using not_last_some hleft),
    tickRunUp_counted (by simp [hstate]) (by simp [hrun])]
  simp [hinch, hrun, Timer.counted]

/-- An inch that runs out of time. -/
theorem projectorWork_inchLate (hstate : (s.proj.get p).state = .inching)
    (hinch : (s.proj.get p).inchTimer = some left) (hleft : left ≤ 1) (hcount : 1 ≤ (s.proj.get p).inchCount) :
    projectorWork p s =
      (failStart p (s.onProj p fun x => { x with lossCheck := false })).onProj p fun x =>
        { x with runUpTimer := none } := by
  rw [projectorWork, judgeStanding_none hloss,
    tickInch_late (by simpa using hstate) (by simpa [hinch] using last_some hleft) (by simpa using hcount),
    tickRunUp_counted (by simp [failStart_proj, Projector.rethreaded])
      (by simp [failStart_proj, Projector.rethreaded])]
  refine onProj_congr ?_
  simp [failStart_proj, Projector.rethreaded, Timer.counted]

/-- A STARTING projector has no inch to time. -/
theorem projectorWork_starting (hinch : (s.proj.get p).inchTimer = none) :
    projectorWork p s = tickRunUp p (s.onProj p fun x => { x with lossCheck := false }) := by
  have hcounted : tickInch p (s.onProj p fun x => { x with lossCheck := false }) =
      s.onProj p fun x => { x with lossCheck := false } := by
    rw [tickInch_counted (by simp [hinch])]
    simp [State.onProj, hinch, Timer.counted]
  rw [projectorWork, judgeStanding_none hloss, hcounted]

end

/-! ### A boundary under a sequencer that is not ENGAGED -/

/-- The booth as the work of projector `p` at a boundary meets it: its unit stands as the pulses were counted, but for the
start flags. -/
structure Meets (p : Side) (s v : State) : Prop where
  unit : (v.proj.get p).withoutStart = (s.proj.get p).rateCounted.withoutStart
  bound : v.boundReel p = s.boundReel p

theorem Leaves.meets {v : State} (h : Leaves p s.counted v) : Meets p s v :=
  ⟨by rw [h.unit, counted_get], h.bound⟩

namespace Meets

variable {v : State} (h : Meets p s v)
include h

theorem state : (v.proj.get p).state = (s.proj.get p).state := (congrArg Projector.state h.unit :)
theorem inchTimer : (v.proj.get p).inchTimer = (s.proj.get p).inchTimer := (congrArg Projector.inchTimer h.unit :)
theorem inchCount : (v.proj.get p).inchCount = (s.proj.get p).inchCount := (congrArg Projector.inchCount h.unit :)
theorem runUpTimer : (v.proj.get p).runUpTimer = (s.proj.get p).runUpTimer := (congrArg Projector.runUpTimer h.unit :)
theorem lossCheck : (v.proj.get p).lossCheck = (s.proj.get p).lossCheck := (congrArg Projector.lossCheck h.unit :)
theorem filmLoss : (v.proj.get p).filmLoss = (s.proj.get p).filmLoss := (congrArg Projector.filmLoss h.unit :)
theorem f : (v.proj.get p).f = (s.proj.get p).f := (congrArg Projector.f h.unit :)

theorem rate (r : Readings) : (v.proj.get p).rate = ((boundary r s).proj.get p).rate := by
  have hcounted : (v.proj.get p).rate = (s.proj.get p).rateCounted.rate := (congrArg Projector.rate h.unit :)
  rw [hcounted, (boundary_counts r s p).rate, counted_get]

end Meets

/-- A projector off the screen after its own work of a boundary, under a sequencer that is not ENGAGED, keeps its state,
its motor and its timers through the rest. -/
theorem boundary_idle_unit (p : Side) (r : Readings) (hidle : s.seq.automation ≠ .engaged) :
    ∃ v, Meets p s v
      ∧ ((boundary r s).proj.get p).lossCheck = false
      ∧ AccruedKept (projectorWork p v) (boundary r s)
      ∧ ((projectorWork p v).onScreen p = false →
          ∃ w, ((boundary r s).proj.get p).withoutStart =
            { ((projectorWork p v).proj.get p).withoutStart with windowOpen := w }) := by
  obtain ⟨v, hleaves, hcalm, hlate⟩ := ownWork_split p r s
  have hspared : (projectorWork p v).Spared p := fun ha =>
    absurd (hcalm.seq.engaged ((projectorWork_calm p v).seq.engaged ha)) hidle
  obtain ⟨hdims, -⟩ := hlate hspared
  obtain ⟨hcond, hproj⟩ := boundary_idle_own r hidle
  obtain ⟨w, hw⟩ := hproj p
  refine ⟨v, hleaves.meets, ?_, hdims.accrued.trans (.of_cond hcond), fun hoff => ⟨w, ?_⟩⟩
  · rw [hw]
    exact hdims.judged (projectorWork_judged p v)
  · rw [hw, ← hdims.unit hoff]
    rfl

/-- An INCHING projector at a boundary, whose film-loss switch is not to be judged. -/
theorem boundary_inching {left : Nat} (r : Readings) (hidle : s.seq.automation ≠ .engaged)
    (hloss : (s.proj.get p).lossCheck = false ∨ (s.proj.get p).filmLoss = .closed)
    (hstate : (s.proj.get p).state = .inching) (hrun : (s.proj.get p).runUpTimer = none)
    (hinch : (s.proj.get p).inchTimer = some left) :
    (2 ≤ left → ((boundary r s).proj.get p).state = .inching
        ∧ ((boundary r s).proj.get p).inchTimer = some (left - 1))
      ∧ (left ≤ 1 → 1 ≤ (s.proj.get p).inchCount →
        ((boundary r s).proj.get p).state = .threaded ∧ ((boundary r s).proj.get p).motorRunning = false
          ∧ ((boundary r s).record .startFail).accrued = true) := by
  obtain ⟨v, hmeets, -, haccrued, hunit⟩ := boundary_idle_unit p r hidle
  rw [← hmeets.state] at hstate
  rw [← hmeets.runUpTimer] at hrun
  rw [← hmeets.inchTimer] at hinch
  rw [← hmeets.lossCheck, ← hmeets.filmLoss] at hloss
  rw [← hmeets.inchCount]
  generalize boundary r s = t at *
  refine ⟨fun hleft => ?_, fun hleft hcount => ?_⟩
  · have hwork := projectorWork_inching hloss hstate hrun hinch hleft
    obtain ⟨w, hw⟩ := hunit (by rw [onScreen_eq_false_iff, hwork, hstate]; decide)
    rw [hwork] at hw
    exact ⟨(congrArg Projector.state hw :).trans hstate, (congrArg Projector.inchTimer hw :)⟩
  · have hwork := projectorWork_inchLate hloss hstate hinch hleft hcount
    have hstopped : (projectorWork p v).proj.get p =
        { (v.proj.get p).rethreaded with lossCheck := false, runUpTimer := none } := by
      rw [hwork]; simp [failStart_proj, Projector.rethreaded, Projector.withoutStart]
    obtain ⟨w, hw⟩ := hunit (by rw [onScreen_eq_false_iff, hstopped]; simp [Projector.rethreaded])
    rw [hstopped] at hw
    refine ⟨(congrArg Projector.state hw :), (congrArg Projector.motorRunning hw :), haccrued _ ?_⟩
    rw [hwork]
    exact (failStart_raised ..).1

/-- A STARTING projector at a boundary. -/
theorem boundary_starting {left : Nat} (r : Readings) (hidle : s.seq.automation ≠ .engaged)
    (hloss : (s.proj.get p).lossCheck = false ∨ (s.proj.get p).filmLoss = .closed)
    (hstate : (s.proj.get p).state = .starting) (hinch : (s.proj.get p).inchTimer = none)
    (hrun : (s.proj.get p).runUpTimer = some left) :
    (44 ≤ ((boundary r s).proj.get p).rate →
        ((boundary r s).proj.get p).state = .running ∧ ((boundary r s).proj.get p).runUpTimer = none)
      ∧ (((boundary r s).proj.get p).rate < 44 → 2 ≤ left →
          ((boundary r s).proj.get p).state = .starting
            ∧ ((boundary r s).proj.get p).runUpTimer = some (left - 1))
      ∧ (((boundary r s).proj.get p).rate < 44 → left ≤ 1 →
          ((boundary r s).proj.get p).state = .threaded ∧ ((boundary r s).proj.get p).motorRunning = false
            ∧ ((boundary r s).record .startFail).accrued = true) := by
  obtain ⟨v, hmeets, -, haccrued, hunit⟩ := boundary_idle_unit p r hidle
  rw [← hmeets.rate r]
  rw [← hmeets.state] at hstate
  rw [← hmeets.runUpTimer] at hrun
  rw [← hmeets.inchTimer] at hinch
  rw [← hmeets.lossCheck, ← hmeets.filmLoss] at hloss
  rw [projectorWork_starting hloss hinch] at haccrued hunit
  generalize boundary r s = t at *
  generalize hj : (v.onProj p fun x => { x with lossCheck := false }) = j at haccrued hunit
  have hunit' : j.proj.get p = { v.proj.get p with lossCheck := false } := by rw [← hj]; simp
  have hstarting : (j.proj.get p).state = .starting := by rw [hunit']; exact hstate
  have hrate : (j.proj.get p).rate = (v.proj.get p).rate := by rw [hunit']
  have htimer : (j.proj.get p).runUpTimer = some left := by rw [hunit']; exact hrun
  rw [← hrate]
  refine ⟨fun hfast => ?_, fun hslow hleft => ?_, fun hslow hleft => ?_⟩
  · rw [tickRunUp_done hstarting hfast] at hunit
    have hdone : (reachSpeed p j).proj.get p = { j.proj.get p with state := .running, runUpTimer := none } := by
      rw [reachSpeed_eq]; simp
    obtain ⟨w, hw⟩ := hunit (by rw [onScreen_eq_false_iff, hdone]; simp)
    rw [hdone] at hw
    exact ⟨(congrArg Projector.state hw :), (congrArg Projector.runUpTimer hw :)⟩
  · rw [tickRunUp_counted (fun _ => hslow) (by rw [htimer]; exact not_last_some hleft)] at hunit
    have hcounted : (j.onProj p fun x => { x with runUpTimer := x.runUpTimer.counted }).proj.get p =
        { j.proj.get p with runUpTimer := some (left - 1) } := by
      simp [htimer, Timer.counted]
    obtain ⟨w, hw⟩ := hunit (by rw [onScreen_eq_false_iff, hcounted, hstarting]; decide)
    rw [hcounted] at hw
    exact ⟨(congrArg Projector.state hw :).trans hstarting, (congrArg Projector.runUpTimer hw :)⟩
  · rw [tickRunUp_late hstarting hslow (by rw [htimer]; exact last_some hleft)] at hunit haccrued
    have hstopped : (failStart p j).proj.get p = (j.proj.get p).rethreaded := by rw [failStart_proj, Both.get_set_same]
    obtain ⟨w, hw⟩ := hunit (by rw [onScreen_eq_false_iff, hstopped]; simp [Projector.rethreaded])
    rw [hstopped] at hw
    exact ⟨(congrArg Projector.state hw :), (congrArg Projector.motorRunning hw :),
      haccrued _ (failStart_raised p j).1⟩

/-- Settles O43: the rows by the state and the counts, and a boundary by the projector's own work. -/
theorem pulsesInchesAndRunUps : Obligations.PulsesInchesAndRunUps := by
  unfold Obligations.PulsesInchesAndRunUps
  rintro p s x rfl
  refine ⟨fun hidle => ?_, fun hne hni => ?_, fun hi hcount => ?_, fun hi hcount => ?_, fun hi hcount => ?_,
    fun h => congrArg Host.Outcome.next (endInch_none h), fun hs hrate c hc => ?_, fun c hc => ?_,
    fun h => congrArg Host.Outcome.next (endRunUp_none h), fun h => congrArg Host.Outcome.next (expireRunUp_none h),
    fun h => congrArg Host.Outcome.next (expireInch_none h), fun r hloss hidle => ?_⟩
  · rw [exec_pulse, countPulse_counted (by simp [hidle])]
    exact congrArg Host.Outcome.next (onProj_congr (by simp [Projector.pulsed, hidle]))
  · rw [exec_pulse, countPulse_counted fun h => absurd h hni]
    exact congrArg Host.Outcome.next (onProj_congr (by simp [Projector.pulsed, hne, hni, maxF]))
  · rw [exec_pulse, countPulse_counted fun _ => hcount]
    exact congrArg Host.Outcome.next (onProj_congr (by simp [Projector.pulsed, hi, maxF]))
  · rw [exec_pulse, countPulse_done hi hcount]
    have hzero : (s.proj.get p).inchCount - 1 = 0 := by omega
    simp [finishInch, State.onProj, Projector.pulsed, hi, hzero, maxF]
  · exact congrArg Host.Outcome.next (endInch_done hi hcount)
  · obtain rfl | ⟨rfl, hlast⟩ := hc
    · exact congrArg Host.Outcome.next ((endRunUp_done hs hrate).trans (reachSpeed_eq p s))
    · exact congrArg Host.Outcome.next ((expireRunUp_done hs hlast hrate).trans (reachSpeed_eq p s))
  · have hfail : exec c s = .next (failStart p s) ∧ (s.proj.get p).state ≠ .onScreen
        ∧ (s.proj.get p).state ≠ .runout := by
      obtain ⟨rfl, hs, hlast, hcount⟩ | ⟨rfl, hs, hlast, hrate⟩ := hc
      · exact ⟨congrArg Host.Outcome.next (expireInch_late hs hlast hcount), by simp [hs], by simp [hs]⟩
      · exact ⟨congrArg Host.Outcome.next (expireRunUp_late hs hlast hrate), by simp [hs], by simp [hs]⟩
    obtain ⟨hexec, hscreen, hrunout⟩ := hfail
    refine ⟨_, hexec, failStart_proj p s, ?_, failStart_raised p s, failStart_seq hscreen hrunout, ?_, ?_⟩
    · rw [failStart, raiseCondition_eq, stopProjector_eq]
    · have honly := stopProjector_only p s
      rw [State.WithholdingOnlyEnds, failStart, raiseCondition_eq]
      exact honly
    · exact ⟨⟨by simp, by simp, by simp⟩, by simp, by simp, by simp, by simp⟩
  · refine ⟨boundary r s, rfl, fun left hs hrun hinch => ?_, fun left hs hinch hrun => ?_⟩
    · exact boundary_inching r hidle (hloss p) hs hrun hinch
    · exact boundary_starting r hidle (hloss p) hs hinch hrun

end

end Sys2Proof.Machine
end

section
/-! What the sequencer leaves of a projector at a boundary that it can neither start nor put on the screen (R76 to R80,
R84). -/

namespace Sys2Proof.Machine

open Sys2Proof

section
variable {s t u : State} {p q : Side}

/-! ### A projector that sits out the boundary -/

/-- The sequencer starts no such projector, and gives it no screen. -/
def State.Sits (s : State) (p : Side) : Prop :=
  (s.proj.get p).state ≠ .running ∧ (s.proj.get p).state ≠ .threaded ∧ (s.proj.get p).state ≠ .inching

/-- A projector unit without its start flags and its cue window. -/
def Projector.core (x : Projector) : Projector := { x.withoutStart with windowOpen := false }

/-- A unit stands but for its start flags and its cue window, or has left the screen for RUNOUT; and no record is bound
anew. -/
structure Stays (p : Side) (s t : State) : Prop where
  unit : (t.proj.get p).core = (s.proj.get p).core ∨ s.onScreen p = true ∧ (t.proj.get p).state = .runout
  unbound : s.boundReel p = none → t.boundReel p = none

theorem Leaves.stays (h : Leaves p s t) : Stays p s t :=
  ⟨.inl (congrArg (fun x => { x with windowOpen := false }) h.unit :), fun hs => h.bound.trans hs⟩

namespace Stays

theorem refl (p : Side) (s : State) : Stays p s s := ⟨.inl rfl, id⟩

theorem of_eq (hproj : t.proj = s.proj) (hreels : t.reels = s.reels) : Stays p s t :=
  ⟨.inl (by rw [hproj]), by rw [State.boundReel, State.boundReel, hreels]; exact id⟩

theorem state (h : Stays p s t) : (t.proj.get p).state = (s.proj.get p).state ∨ (t.proj.get p).state = .runout := by
  obtain heq | ⟨-, hrunout⟩ := h.unit
  · exact .inl (congrArg Projector.state heq :)
  · exact .inr hrunout

theorem sits (h : Stays p s t) (hs : s.Sits p) : t.Sits p := by
  obtain hsame | hrunout := h.state
  · rw [State.Sits, hsame]; exact hs
  · rw [State.Sits, hrunout]; decide

theorem trans (h : Stays p s t) (h' : Stays p t u) : Stays p s u := by
  refine ⟨?_, h'.unbound ∘ h.unbound⟩
  obtain heq | ⟨hon, hrunout⟩ := h.unit
  · have hstate : (t.proj.get p).state = (s.proj.get p).state := (congrArg Projector.state heq :)
    refine h'.unit.imp (·.trans heq) fun ⟨hon, hrunout⟩ => ⟨?_, hrunout⟩
    rw [onScreen_iff, ← hstate, ← onScreen_iff]
    exact hon
  · obtain heq' | ⟨hon', -⟩ := h'.unit
    · have hstate : (u.proj.get p).state = (t.proj.get p).state := (congrArg Projector.state heq' :)
      exact .inr ⟨hon, hstate.trans hrunout⟩
    · rw [onScreen_iff, hrunout] at hon'
      cases hon'

end Stays

/-! ### The screen -/

theorem startDouse_leaves (l : Side) (m : Moment) (s : State) : Leaves p s (startDouse l m s) := by
  unfold startDouse
  (repeat' split)
  · exact lampToDark_leaves ..
  · exact .of_eq rfl rfl rfl
  · exact .refl p s

theorem enterScreen_leaves (hq : q ≠ p) (s : State) : Leaves p s (enterScreen q s) := by
  have hflags (u : State) : Leaves p u (u.onSeq fun q =>
      { q with strikeTaken := false, motorTaken := false, swapReached := false, swapDue := false }) := .of_eq rfl rfl rfl
  unfold enterScreen
  exact ((((Leaves.onProj_ne hq s _).trans ((withoutStart_leaves .a _).trans (withoutStart_leaves .b _))).trans
    (hflags _)).trans (setBoundStatus_leaves hq ..)).trans (settleWithholding_leaves _)

/-- The outgoing projector leaves the screen for RUNOUT. -/
theorem leaveScreen_stays (hs : s.onScreen q = true) : Stays p s (leaveScreen q .runout s) := by
  obtain rfl | hq := eq_or_ne q p
  · refine ⟨.inr ⟨hs, ?_⟩, by simp [State.boundReel]⟩
    rw [leaveScreen_eq, Both.get_set_same]; rfl
  · have hdue (u : State) : Leaves p u (u.onSeq fun q => { q with swapDue := false }) := .of_eq rfl rfl rfl
    exact (((Leaves.onProj_ne hq s _).trans (hdue _)).trans (settleWithholding_leaves _)).stays

/-- A projector that is not RUNNING is not swapped in. -/
theorem swapScreens_stays {i o : Side} (m : Moment) (hp : s.Sits p) (hi : (s.proj.get i).state = .running)
    (ho : s.onScreen o = true) : Stays p s (swapScreens i o m s) := by
  have hne : i ≠ p := by rintro rfl; exact hp.1 hi
  exact (leaveScreen_stays ho).trans ((enterScreen_leaves hne _).trans (startDouse_leaves ..)).stays

theorem automaticFade_leaves (percent tenths : Nat) (s : State) : Leaves p s (automaticFade percent tenths s) :=
  .of_eq (by simp) (by simp) (by simp)

theorem takeEnding_stays {o : Side} (r : Reel) (m : Moment) (hp : s.Sits p) (ho : s.onScreen o = true) :
    Stays p s (takeEnding o r m s) := by
  have hended (percent tenths : Nat) :
      Stays p s (startDouse o m (automaticFade percent tenths (leaveScreen o .runout s))) :=
    (leaveScreen_stays ho).trans ((automaticFade_leaves ..).trans (startDouse_leaves ..)).stays
  unfold takeEnding
  (repeat' split)
  · exact hended ..
  · exact (hended ..).trans (automationOff_leaves _).stays
  · exact swapScreens_stays m hp (incomingReady_running ‹_›) ho
  · exact .of_eq (by simp) (by simp)

theorem swapPointTest_stays (m : Moment) (hp : s.Sits p) : Stays p s (swapPointTest m s) := by
  unfold swapPointTest reachSwapPoint
  (repeat' split)
  any_goals exact .refl p s
  rename_i ho _ _
  exact Stays.trans (t := s.reached) (.of_eq rfl rfl) (takeEnding_stays _ m hp (outgoing_onScreen (s := s) ho))

theorem lateSwapTest_stays (m : Moment) (hp : s.Sits p) : Stays p s (lateSwapTest m s) := by
  unfold lateSwapTest
  (repeat' split)
  any_goals exact .refl p s
  rename_i ho hi
  exact swapScreens_stays m hp (incomingReady_running hi) (outgoing_onScreen ho)

/-! ### The starts -/

/-- A projector that is neither THREADED nor INCHING is not started. -/
theorem askStart_leaves (m : Moment) (hp : s.Sits p ∨ q ≠ p) : Leaves p s (askStart q m s) := by
  unfold askStart
  split
  · rename_i hallowed
    refine .onProj_ne (hp.elim (fun hsits => ?_) id) s _
    rintro rfl
    exact (startAllowed_state hallowed).elim hsits.2.1 hsits.2.2
  · exact .refl p s

theorem strikeTest_stays (m : Moment) (s : State) : Stays p s (strikeTest m s) := .of_eq (by simp) (by simp)

theorem motorTest_stays (m : Moment) (hp : s.Sits p) : Stays p s (motorTest m s) := by
  unfold motorTest unawareTest
  (repeat' split)
  · exact .refl p s
  · exact .of_eq (by simp) (by simp)
  · rename_i r _ _ _
    have hmarked : Leaves p (askStart r.projector m s) (startIncoming r m s) := .of_eq rfl rfl rfl
    exact ((askStart_leaves m (.inl hp)).trans hmarked).stays
  · exact .refl p s

theorem leadTests_stays (evaluated : Option Side) (hp : s.Sits p) : Stays p s (leadTests evaluated s) := by
  have hstrike : Stays p s (if s.outgoing = evaluated then strikeTest .atBoundary s else s) := by
    split
    · exact strikeTest_stays ..
    · exact .refl p s
  unfold leadTests
  dsimp only
  generalize (if s.outgoing = evaluated then strikeTest .atBoundary s else s) = u at hstrike
  refine hstrike.trans ?_
  split
  · exact motorTest_stays _ (hstrike.sits hp)
  · exact .refl p u

theorem sequencerTests_stays (hp : s.Sits p) : Stays p s (sequencerTests s) := by
  have hswap := swapPointTest_stays .atBoundary hp
  have hlate := hswap.trans (lateSwapTest_stays .atBoundary (hswap.sits hp))
  exact hlate.trans (leadTests_stays _ (hlate.sits hp))

theorem showStartStrike_leaves (m : Moment) (s : State) : Leaves p s (showStartStrike q m s) := by
  unfold showStartStrike withholdStrike
  (repeat' split)
  any_goals exact .refl p s
  · exact .of_eq (by simp) (by simp) (by simp)
  · exact Leaves.trans (t := s.onSeq _) (.of_eq rfl rfl rfl) (raiseCondition_leaves ..)

theorem startFade_leaves (q : Side) (s : State) : Leaves p s (s.onProj q fun x => { x with startFade := true }) := by
  refine ⟨?_, rfl, .of_cond rfl⟩
  rw [State.onProj_proj, Both.get_set]
  split
  · rename_i h; rw [h]; rfl
  · rfl

theorem sits_or_ne (hp : s.Sits p ∨ q ≠ p) (h : Leaves p s t) : t.Sits p ∨ q ≠ p := hp.imp_left h.stays.sits

theorem showStartFadeAndMotor_leaves (m : Moment) (hp : s.Sits p ∨ q ≠ p) :
    Leaves p s (showStartFadeAndMotor q m s) := by
  unfold showStartFadeAndMotor
  split
  · have hfaded := (automaticFade_leaves (p := p) s.store.working.showLevel s.store.working.showRamp s).trans
      (startFade_leaves q _)
    exact hfaded.trans (askStart_leaves m (sits_or_ne hp hfaded))
  · exact .refl p s

theorem showStartOpen_leaves (hp : s.Sits p ∨ q ≠ p) : Leaves p s (showStartOpen q s) := by
  unfold showStartOpen
  (repeat' split)
  · exact .refl p s
  · rename_i hopen
    refine enterScreen_leaves (hp.elim (fun hsits => ?_) id) s
    rintro rfl
    exact hsits.1 (openAllowed_running hopen.2.2)
  · exact .refl p s

/-- A show start of another projector, or of one that it can neither start nor put on the screen. -/
theorem showStartSteps_leaves (hp : s.Sits p ∨ q ≠ p) : Leaves p s (showStartSteps q s) := by
  have hstrike := showStartStrike_leaves (p := p) (q := q) .atBoundary s
  have hmotor := hstrike.trans (showStartFadeAndMotor_leaves .atBoundary (sits_or_ne hp hstrike))
  exact hmotor.trans (showStartOpen_leaves (sits_or_ne hp hmotor))

/-- The show starts of a boundary leave a projector whose own start is not pending, or that sits it out. -/
theorem showStarts_leaves (hp : s.Sits p ∨ (s.proj.get p).startPending = false) : Leaves p s (showStarts s) := by
  have hsteps {u : State} (q : Side) (hu : u.Sits p ∨ (u.proj.get p).startPending = false) :
      Leaves p u (showStartSteps q u) := by
    obtain hsits | hnone := hu
    · exact showStartSteps_leaves (.inl hsits)
    · obtain rfl | hq := eq_or_ne q p
      · rw [showStartSteps_idle (by rw [State.starting, hnone, Bool.and_false])]
        exact .refl q u
      · exact showStartSteps_leaves (.inr hq)
  have ha := hsteps .a hp
  exact ha.trans (hsteps .b (hp.imp ha.stays.sits (showStartSteps_counts .a s p).pending))

/-! ### What a boundary judges on its frame -/

theorem judgeWindow_stays (s : State) : Stays p s (judgeWindow s) := by
  obtain ⟨honly, hproj⟩ := judgeWindow_only s
  refine ⟨.inl ?_, ?_⟩
  · rw [hproj p]; rfl
  · generalize judgeWindow s = t at honly
    rw [honly]
    exact id

theorem judgeHouseCue_stays (s : State) : Stays p s (judgeHouseCue s) := by
  have htaken (r : Reel) : Stays p s (s.onReels fun x =>
      { x with records := x.records.map fun y => if y.number = r.number then { y with cueTaken := true } else y }) := by
    refine ⟨.inl rfl, fun hs => ?_⟩
    simp only [State.boundReel, boundTo, List.find?_eq_none, State.onReels] at hs ⊢
    intro y hy
    obtain ⟨z, hz, rfl⟩ := List.mem_map.1 hy
    have hfree := hs z hz
    split
    · exact hfree
    · exact hfree
  unfold judgeHouseCue takeHouseCue
  (repeat' split)
  any_goals exact .refl p s
  exact (htaken _).trans (automaticFade_leaves ..).stays

/-- A projector that sits out what follows the blocks' own work of a boundary. -/
theorem boundary_sits (r : Readings) (hp : (framed r s).Sits p) : Stays p (framed r s) (boundary r s) := by
  have hsent (u : State) : Stays p u (sendFrame u) := .of_eq rfl rfl
  cases hpass : s.screenPassed (rampStep (ownWork r s))
  · rw [boundary_evaluated hpass]
    generalize framed r s = u at hp
    have hjudged := ((hsent u).trans (judgeWindow_stays _)).trans (judgeHouseCue_stays _)
    have htested := hjudged.trans (sequencerTests_stays (hjudged.sits hp))
    exact htested.trans (showStarts_leaves (.inl (htested.sits hp))).stays
  · rw [boundary_passed hpass]
    generalize framed r s = u at hp
    exact (hsent u).trans (showStarts_leaves (.inl ((hsent u).sits hp))).stays

/-! ### A boundary with nobody on the screen -/

theorem sequencerTests_nobody (h : s.outgoing = none) : sequencerTests s = s := by
  have hswap : swapPointTest .atBoundary s = s := by
    unfold swapPointTest reachSwapPoint
    rw [h]
    exact ite_self _
  have hlate : lateSwapTest .atBoundary s = s := by
    unfold lateSwapTest
    rw [h]
    exact ite_self _
  have hpair : s.leadPair = none := by unfold State.leadPair; rw [h]
  have hstrike : strikeTest .atBoundary s = s := by unfold strikeTest; rw [hpair]
  have hmotor : motorTest .atBoundary s = s := by unfold motorTest State.motorPair; rw [hpair]
  unfold sequencerTests leadTests
  dsimp only
  rw [hswap, hlate, hstrike, if_pos rfl, if_pos rfl, hmotor]

theorem judged_nobody (h : s.outgoing = none) : judged s = sendFrame s := by
  have hsent : (sendFrame s).outgoing = none := h
  have hwindow : judgeWindow (sendFrame s) = sendFrame s := by unfold judgeWindow; rw [hsent]
  have hreel : (sendFrame s).outgoingReel = none := by unfold State.outgoingReel; rw [hsent]; rfl
  rw [judged, hwindow, judgeHouseCue, hreel]

/-- A boundary whose own work leaves nobody on the screen: the frame goes out and the show starts are taken. -/
theorem boundary_nobody {r : Readings} (h : ∀ q, (framed r s).onScreen q = false) :
    boundary r s = showStarts (sendFrame (framed r s)) := by
  cases hpass : s.screenPassed (rampStep (ownWork r s))
  · rw [boundary_evaluated hpass]
    generalize framed r s = u at h
    have hout : u.outgoing = none := outgoing_eq_none h
    have hsent : (sendFrame u).outgoing = none := hout
    rw [judged_nobody hout, sequencerTests_nobody hsent]
  · exact boundary_passed hpass

end

end Sys2Proof.Machine
end

section
/-! The film-loss switch, the gate thermal switch and the stall (R134, R151 to R154). -/

namespace Sys2Proof.Machine

open Sys2Proof

section
variable {s : State} {p : Side}

/-! ### The film-loss switch as a row (R151) -/

/-- A film-loss switch that stands open. -/
def State.filmOpen (s : State) (p : Side) : State := s.onProj p fun x => { x with filmLoss := .opened }

@[simp] theorem filmOpen_unit (s : State) (p : Side) :
    (s.filmOpen p).proj.get p = { s.proj.get p with filmLoss := .opened } := Both.get_set_same ..

@[simp] theorem filmOpen_other (s : State) (p : Side) : (s.filmOpen p).proj.get p.other = s.proj.get p.other :=
  Both.get_set_other ..

@[simp] theorem filmOpen_onScreen (s : State) (p q : Side) : (s.filmOpen p).onScreen q = s.onScreen q := by
  cases p <;> cases q <;> rfl

theorem exec_filmLoss_opened (p : Side) (s : State) :
    exec (.filmLossSwitch p .opened) s = .next (judgeFilmLoss p (s.filmOpen p)) := rfl

theorem judgeFilmLoss_still (h : (s.proj.get p).state.moving = false) : judgeFilmLoss p s = s := by
  unfold judgeFilmLoss
  split <;> rename_i hstate
  any_goals (rw [hstate] at h; cases h)
  rfl

theorem judgeFilmLoss_tailOut
    (h : (s.proj.get p).state = .runout ∨ (s.proj.get p).state.moving = true ∧ s.atEnd p = true) :
    judgeFilmLoss p s = tailOut p s := by
  unfold judgeFilmLoss
  split <;> rename_i hstate
  · rfl
  any_goals exact if_pos (h.elim (fun e => by rw [hstate] at e; cases e) And.right)
  cases hs : (s.proj.get p).state <;> simp_all [ProjectorState.moving]

theorem judgeFilmLoss_break (hmoving : (s.proj.get p).state.moving = true) (hrunout : (s.proj.get p).state ≠ .runout)
    (hend : s.atEnd p = false) : judgeFilmLoss p s = breakFilm p s := by
  unfold judgeFilmLoss
  split <;> rename_i hstate
  · exact absurd hstate hrunout
  any_goals exact if_neg (by simp [hend])
  cases hs : (s.proj.get p).state <;> simp_all [ProjectorState.moving]

theorem atEnd_some {e : Reel} (he : s.boundReel p = some e) :
    s.atEnd p = decide (e.measuredEnd.getD e.endFrame ≤ (s.proj.get p).f) := by
  rw [State.atEnd, he]
  rfl

theorem current_filmBreak (h : (s.proj.get p).state = .broken) : s.current .filmBreak = true := by
  cases p
  · have ha : s.proj.a.state = .broken := h
    simp [State.current, ha]
  · have hb : s.proj.b.state = .broken := h
    simp [State.current, hb]

/-- A film break halts an ENGAGED sequencer whatever the halt settings (R153, R159). -/
theorem automationAfter_filmBreak (s : State) :
    automationAfter s .filmBreak = if s.seq.automation = .engaged then .halted else s.seq.automation := by
  unfold automationAfter haltsAutomation
  by_cases h : s.seq.automation = .engaged <;> simp [h]

theorem breakFilm_automation (p : Side) (s : State) :
    (breakFilm p s).seq.automation = if s.seq.automation = .engaged then .halted else s.seq.automation := by
  rw [breakFilm_eq, raiseCondition_automation, ← automationAfter_filmBreak]
  exact automationAfter_congr (by rw [broke_eq]) (by rw [broke_eq]) _

theorem breakFilm_raised (p : Side) (s : State) :
    s.Raised (breakFilm p s) .filmBreak { unit := .projector p, f := some (s.proj.get p).f, t := s.tOfDetail } := by
  rw [breakFilm_eq]
  exact .of_cond (by rw [broke_eq]) (raiseCondition_raised ..)

theorem breakFilm_reels (p : Side) (s : State) :
    (breakFilm p s).reels = { s.reels with records := boundBecome s.reels.records p .interrupted } := by
  rw [breakFilm_eq, raiseCondition_eq, broke_eq]

theorem breakFilm_seq (p : Side) (s : State) :
    (breakFilm p s).seq =
      { s.seq with
        automation := if s.seq.automation = .engaged then .halted else s.seq.automation
        swapDue := false, withholding := (breakFilm p s).seq.withholding } := by
  rw [← breakFilm_automation p s, breakFilm_eq, raiseCondition_eq, broke_eq]

theorem breakFilm_only (p : Side) (s : State) : s.WithholdingOnlyEnds (breakFilm p s) := by
  rw [breakFilm_eq, raiseCondition_eq]
  exact broke_only p s

theorem breakFilm_lights (p : Side) (s : State) :
    (breakFilm p s).lights = { s.lights with house := s.breakFade p } := by
  rw [breakFilm_eq, raiseCondition_eq]

/-! ### The gate (R154) -/

theorem gateTrip_eq (p : Side) (s : State) :
    gateTrip p s =
      raiseCondition .gateTrip { unit := .projector p, f := some (s.proj.get p).f, t := s.tOfDetail }
        (darkenScreen p s) := by
  have hdetail : (darkenScreen p s).detailOf (.projector p) p =
      { unit := .projector p, f := some (s.proj.get p).f, t := s.tOfDetail } := by
    rw [State.detailOf, detailT_eq, darkenScreen_eq, Both.get_set_same]
    rfl
  rw [← hdetail]
  rfl

/-- What a gate trip does, as one update. -/
theorem gateTrip_update (p : Side) (s : State) :
    gateTrip p s =
      { s with
        proj := s.proj.set p ((s.proj.get p).hidden .running)
        reels := { s.reels with records := boundBecome s.reels.records p .running }
        cond := (gateTrip p s).cond
        seq :=
          { s.seq with
            automation := automationAfter s .gateTrip, swapDue := false
            withholding := (gateTrip p s).seq.withholding } } := by
  have hdark := darkenScreen_eq p s
  rw [gateTrip_eq]
  generalize darkenScreen p s = t at hdark
  rw [raiseCondition_eq, hdark]
  rfl

theorem gateTrip_raised (p : Side) (s : State) :
    s.Raised (gateTrip p s) .gateTrip { unit := .projector p, f := some (s.proj.get p).f, t := s.tOfDetail } := by
  rw [gateTrip_eq]
  exact .of_cond (by simp) (raiseCondition_raised ..)

theorem gateTrip_only (p : Side) (s : State) : s.WithholdingOnlyEnds (gateTrip p s) := by
  rw [gateTrip_eq, raiseCondition_eq]
  exact darkenScreen_only p s

/-- A gate thermal switch that stands open. -/
def State.gateOpen (s : State) (p : Side) : State := s.onProj p fun x => { x with gate := .opened }

theorem exec_gateThermal_trip (h : (s.proj.get p).state = .onScreen) :
    exec (.gateThermalOpen p .opened) s = .next (gateTrip p (s.gateOpen p)) := by
  refine congrArg Host.Outcome.next (if_pos ⟨rfl, ?_⟩)
  rw [onScreen_iff]
  simpa using h

theorem exec_gateThermal_none (h : (s.proj.get p).state ≠ .onScreen) :
    exec (.gateThermalOpen p .opened) s = .next (s.gateOpen p) := by
  refine congrArg Host.Outcome.next (if_neg ?_)
  rintro ⟨-, hs⟩
  rw [onScreen_iff] at hs
  exact h (by simpa using hs)

theorem exec_stallTrip_trip (h : (s.proj.get p).state = .onScreen) (hrate : (s.proj.get p).rate < 8)
    (hstall : 9 ≤ (s.proj.get p).stall) : exec (.stallTrip p) s = .next (gateTrip p s) :=
  congrArg Host.Outcome.next (if_pos ⟨(onScreen_iff s p).2 h, hrate, hstall⟩)

theorem exec_stallTrip_none
    (h : (s.proj.get p).state ≠ .onScreen ∨ 8 ≤ (s.proj.get p).rate ∨ (s.proj.get p).stall < 9) :
    exec (.stallTrip p) s = .next s := by
  refine congrArg Host.Outcome.next (if_neg ?_)
  rintro ⟨hs, hrate, hstall⟩
  have hrate' : (s.proj.get p).rate < 8 := hrate
  obtain h | h | h := h
  · exact h ((onScreen_iff s p).1 hs)
  · omega
  · omega

/-! ### A switch that stands open, at a boundary (R151, log entry 16) -/

/-- A projector whose film-loss switch has been taken up to be judged. -/
def State.judging (s : State) (p : Side) : State := s.onProj p fun x => { x with lossCheck := false }

@[simp] theorem judging_unit (s : State) (p : Side) :
    (s.judging p).proj.get p = { s.proj.get p with lossCheck := false } := Both.get_set_same ..

theorem judgeStanding_opened (hcheck : (s.proj.get p).lossCheck = true) (hloss : (s.proj.get p).filmLoss = .opened) :
    judgeStanding p s = judgeFilmLoss p (s.judging p) := if_pos ⟨hcheck, hloss⟩

theorem onProj_self {g : Projector → Projector} (h : g (s.proj.get p) = s.proj.get p) : s.onProj p g = s := by
  rw [State.onProj, h, Both.set_get]

/-- A projector with no timer that runs is not counted. -/
theorem ticks_none (hinch : (s.proj.get p).inchTimer = none) (hrun : (s.proj.get p).runUpTimer = none)
    (hstate : (s.proj.get p).state ≠ .starting) : tickRunUp p (tickInch p s) = s := by
  have hinch' : (s.proj.get p).inchTimer.counted = (s.proj.get p).inchTimer := by rw [hinch]; rfl
  have hrun' : (s.proj.get p).runUpTimer.counted = (s.proj.get p).runUpTimer := by rw [hrun]; rfl
  have hinched : tickInch p s = s :=
    (tickInch_counted (by simp [hinch])).trans (onProj_self (by rw [hinch']))
  rw [hinched]
  exact (tickRunUp_counted (fun h => absurd h hstate) (by simp [hrun])).trans (onProj_self (by rw [hrun']))

theorem projectorWork_broken (hcheck : (s.proj.get p).lossCheck = true) (hloss : (s.proj.get p).filmLoss = .opened)
    (hbreak : judgeFilmLoss p (s.judging p) = breakFilm p (s.judging p)) :
    projectorWork p s = breakFilm p (s.judging p) := by
  rw [projectorWork, judgeStanding_opened hcheck hloss, hbreak]
  refine ticks_none ?_ ?_ ?_ <;> rw [breakFilm_proj, Both.get_set_same]
  · rfl
  · rfl
  · simp [Projector.filmBroken]

theorem projectorWork_tailedOut (hcheck : (s.proj.get p).lossCheck = true) (hloss : (s.proj.get p).filmLoss = .opened)
    (hout : judgeFilmLoss p (s.judging p) = tailOut p (s.judging p)) :
    projectorWork p s = tailOut p (s.judging p) := by
  rw [projectorWork, judgeStanding_opened hcheck hloss, hout]
  refine ticks_none ?_ ?_ ?_ <;> rw [tailOut_unit]
  · rfl
  · rfl
  · simp [Projector.tailedOut]

/-- A record that becomes SHOWN is bound no longer (R45, R152). -/
theorem boundBecome_shown_unbound (records : List Reel) (p : Side) : boundTo (boundBecome records p .shown) p = none := by
  simp only [boundTo, boundBecome, List.find?_eq_none]
  intro r hr
  obtain ⟨y, -, rfl⟩ := List.mem_map.1 hr
  split
  · simp [Reel.isBound]
  · assumption

theorem tailOut_unbound (p : Side) (s : State) : (tailOut p s).boundReel p = none := by
  rw [State.boundReel, tailOut_reels]
  exact boundBecome_shown_unbound ..

/-- The part of a unit that a boundary does not touch once the projector has stopped. -/
theorem framed_unit (r : Readings) (s : State) : (framed r s).proj.get p = (ownWork r s).proj.get p := by
  rw [framed_proj]

theorem framed_boundReel (r : Readings) (s : State) : (framed r s).boundReel p = (ownWork r s).boundReel p := by
  unfold framed State.boundReel; split <;> simp

theorem framed_swapDue (r : Readings) (s : State) : (framed r s).seq.swapDue = (ownWork r s).seq.swapDue := by
  unfold framed; split <;> simp

/-- A standing switch before the effective end breaks the film. -/
theorem boundary_broken {e : Reel} (r : Readings) (hcheck : (s.proj.get p).lossCheck = true)
    (hloss : (s.proj.get p).filmLoss = .opened)
    (hstate : (s.proj.get p).state = .inching ∨ (s.proj.get p).state = .starting) (he : s.boundReel p = some e)
    (hend : (s.proj.get p).f < e.measuredEnd.getD e.endFrame) :
    ((boundary r s).proj.get p).state = .broken ∧ ((boundary r s).proj.get p).motorRunning = false
      ∧ ((boundary r s).record .filmBreak).accrued = true ∧ (boundary r s).current .filmBreak = true
      ∧ (boundary r s).seq.automation ≠ .engaged := by
  obtain ⟨v, hleaves, -, hlate⟩ := ownWork_split p r s
  have hmeets := hleaves.meets
  have hnot : (v.judging p).atEnd p = false := by
    have hbound : (v.judging p).boundReel p = some e := hmeets.bound.trans he
    rw [atEnd_some hbound, judging_unit]
    simpa [hmeets.f] using hend
  have hjudged : judgeFilmLoss p (v.judging p) = breakFilm p (v.judging p) := by
    refine judgeFilmLoss_break ?_ ?_ hnot <;> rw [judging_unit, hmeets.state]
    · obtain h | h := hstate <;> rw [h] <;> rfl
    · obtain h | h := hstate <;> rw [h] <;> decide
  have hwork := projectorWork_broken (hmeets.lossCheck.trans hcheck) (hmeets.filmLoss.trans hloss) hjudged
  have hunit : (projectorWork p v).proj.get p = ((v.judging p).proj.get p).filmBroken := by
    rw [hwork, breakFilm_proj, Both.get_set_same]
  have hhalted : (projectorWork p v).seq.automation ≠ .engaged := by
    rw [hwork, breakFilm_automation]
    split
    · decide
    · assumption
  obtain ⟨hdims, hsteady⟩ := hlate fun ha => absurd ha hhalted
  obtain ⟨hcond, hautomation, hproj⟩ := boundary_disengaged_own (s := s) fun ha => hhalted (hsteady.seq.engaged ha)
  obtain ⟨w, hw⟩ := hproj p
  have hown := hdims.unit (by rw [onScreen_eq_false_iff, hunit]; simp [Projector.filmBroken])
  rw [hunit] at hown
  have hbroken : ((boundary r s).proj.get p).state = .broken := by
    rw [hw]
    exact (congrArg Projector.state hown :)
  refine ⟨hbroken, ?_, ?_, current_filmBreak hbroken, ?_⟩
  · rw [hw]
    exact (congrArg Projector.motorRunning hown :)
  · refine AccruedKept.of_cond hcond _ (hdims.accrued _ ?_)
    rw [hwork]
    exact (breakFilm_raised ..).1
  · rw [hautomation]
    exact fun ha => hhalted (hsteady.seq.engaged ha)

/-- A standing switch at or past the effective end is a tail-out. -/
theorem boundary_tailedOut {e : Reel} (r : Readings) (hcheck : (s.proj.get p).lossCheck = true)
    (hloss : (s.proj.get p).filmLoss = .opened)
    (hstate : (s.proj.get p).state = .inching ∨ (s.proj.get p).state = .starting) (he : s.boundReel p = some e)
    (hend : e.measuredEnd.getD e.endFrame ≤ (s.proj.get p).f) :
    ((boundary r s).proj.get p).state = .stopped ∧ ((boundary r s).proj.get p).motorRunning = false
      ∧ (boundary r s).boundReel p = none := by
  obtain ⟨v, hleaves, -, hlate⟩ := ownWork_split p r s
  have hmeets := hleaves.meets
  have hat : (v.judging p).atEnd p = true := by
    have hbound : (v.judging p).boundReel p = some e := hmeets.bound.trans he
    rw [atEnd_some hbound, judging_unit]
    simpa [hmeets.f] using hend
  have hjudged : judgeFilmLoss p (v.judging p) = tailOut p (v.judging p) := by
    refine judgeFilmLoss_tailOut (.inr ⟨?_, hat⟩)
    rw [judging_unit, hmeets.state]
    obtain h | h := hstate <;> rw [h] <;> rfl
  have hwork := projectorWork_tailedOut (hmeets.lossCheck.trans hcheck) (hmeets.filmLoss.trans hloss) hjudged
  have hunit : (projectorWork p v).proj.get p = ((v.judging p).proj.get p).tailedOut := by rw [hwork, tailOut_unit]
  have hoff : (projectorWork p v).onScreen p = false := by
    rw [onScreen_eq_false_iff, hunit]; simp [Projector.tailedOut]
  obtain ⟨hdims, -⟩ := hlate fun _ => ⟨hoff, .inr (by rw [hunit]; simp [Projector.tailedOut])⟩
  have hown := hdims.unit hoff
  rw [hunit, ← framed_unit] at hown
  have hstopped : ((framed r s).proj.get p).state = .stopped := (congrArg Projector.state hown :)
  have hstays := boundary_sits (p := p) r (by rw [State.Sits, hstopped]; decide)
  have hkept : ((boundary r s).proj.get p).core = ((framed r s).proj.get p).core := by
    refine hstays.unit.elim id fun ⟨hon, _⟩ => ?_
    rw [onScreen_iff, hstopped] at hon
    cases hon
  refine ⟨(congrArg Projector.state hkept :).trans hstopped,
    (congrArg Projector.motorRunning hkept :).trans (congrArg Projector.motorRunning hown :), hstays.unbound ?_⟩
  rw [framed_boundReel]
  exact hdims.unbound (by rw [hwork]; exact tailOut_unbound ..)

/-! ### The gate at a boundary (R154) -/

/-- The own work of an ON_SCREEN projector whose film-loss switch is not to be judged. -/
theorem projectorWork_screen (hs : (s.proj.get p).state = .onScreen) (hcheck : (s.proj.get p).lossCheck = false) :
    ∃ inch run, (projectorWork p s).proj.get p =
      { s.proj.get p with lossCheck := false, inchTimer := inch, runUpTimer := run } := by
  have htick {u : State} (hu : (u.proj.get p).state = .onScreen) :
      ∃ inch, (tickInch p u).proj.get p = { u.proj.get p with inchTimer := inch } := by
    unfold tickInch
    split
    · rw [expireInch_none (.inl (by simp [hu]))]
      exact ⟨_, rfl⟩
    · exact ⟨_, Both.get_set_same ..⟩
  have hrun {u : State} (hu : (u.proj.get p).state = .onScreen) :
      ∃ run, (tickRunUp p u).proj.get p = { u.proj.get p with runUpTimer := run } := by
    unfold tickRunUp
    rw [if_neg (by simp [hu])]
    split
    · rw [expireRunUp_none (.inl (by simp [hu]))]
      exact ⟨_, rfl⟩
    · exact ⟨_, Both.get_set_same ..⟩
  have hjudged : (judgeStanding p s).proj.get p = { s.proj.get p with lossCheck := false } := by
    rw [judgeStanding_none (.inl hcheck)]
    exact Both.get_set_same ..
  obtain ⟨inch, hinch⟩ := htick (u := judgeStanding p s) (by rw [hjudged]; exact hs)
  obtain ⟨run, hran⟩ := hrun (u := tickInch p (judgeStanding p s)) (by rw [hinch, hjudged]; exact hs)
  exact ⟨inch, run, by rw [projectorWork, hran, hinch, hjudged]⟩

/-- The booth as the gates of a boundary find it, with projector `p` alone on the screen. -/
structure AtGate (p : Side) (r : Readings) (s w : State) : Prop where
  late : ownWork r s = lateWork r w
  shows : w.onScreen p = true
  alone : w.onScreen p.other = false
  gate : (w.proj.get p).gate = (s.proj.get p).gate
  stall : (w.proj.get p).stall = (s.proj.get p).stall
  rate : (w.proj.get p).rate = ((boundary r s).proj.get p).rate
  pending : (w.proj.get p).startPending = false

theorem showing_atGate (r : Readings) (hs : s.Showing p) (hcheck : (s.proj.get p).lossCheck = false) :
    ∃ w, AtGate p r s w := by
  obtain ⟨hshows, hother, hpending⟩ := hs
  obtain ⟨v, hleaves, hcalm, hafter, hcalm'⟩ := projectorWorks_split p r s.counted
  have hmeets := hleaves.meets
  have hscreen := (onScreen_iff s p).1 hshows
  obtain ⟨inch, run, hunit⟩ := projectorWork_screen (hmeets.state.trans hscreen) (hmeets.lossCheck.trans hcheck)
  have hwork := (hcalm.trans (projectorWork_calm p v)).trans hcalm'
  have hgate : ((projectorWork p v).proj.get p).gate = (s.proj.get p).gate := by
    rw [hunit]
    exact (congrArg Projector.gate hmeets.unit :)
  have hstall : ((projectorWork p v).proj.get p).stall = (s.proj.get p).stall := by
    rw [hunit]
    exact (congrArg Projector.stall hmeets.unit :)
  refine ⟨_, ownWork_late r s, ?_, ?_, ?_, ?_, ?_, ?_⟩
  · rw [hafter.onScreen, onScreen_iff, hunit]
    exact hmeets.state.trans hscreen
  · exact hwork.steady.off ((counted_onScreen s p.other).trans hother)
  · exact (congrArg Projector.gate hafter.unit :).trans hgate
  · exact (congrArg Projector.stall hafter.unit :).trans hstall
  · rw [(boundary_counts r s p).rate]
    exact (hwork.counts p).rate
  · exact (hwork.counts p).pending (by rw [counted_get]; exact hpending)

/-- The gates of a boundary with one projector on the screen. -/
theorem gateWorks_alone (hother : s.onScreen p.other = false) : gateWork .b (gateWork .a s) = gateWork p s := by
  have hoff {u : State} {q : Side} (h : u.onScreen q = false) : gateWork q u = u := if_neg (by simp [h])
  cases p
  · exact hoff ((gateWork_steady .a s).off hother)
  · rw [hoff (q := .a) hother]

/-- The stall count of a boundary (R154). -/
theorem gateWork_trip (hs : s.onScreen p = true)
    (h : (s.proj.get p).gate = .opened ∨ (s.proj.get p).rate < 8 ∧ 9 ≤ (s.proj.get p).stall) :
    gateWork p s = gateTrip p s := by
  refine (if_pos hs).trans (if_pos ?_)
  obtain hgate | ⟨hrate, hstall⟩ := h
  · exact .inr hgate
  · refine .inl ?_
    have hslow : (s.proj.get p).rate < stallRate := hrate
    rw [if_pos hslow]
    omega

theorem gateWork_counts (hs : s.onScreen p = true) (hgate : (s.proj.get p).gate = .closed)
    (hstall : (s.proj.get p).rate < 8 → (s.proj.get p).stall < 9) :
    gateWork p s =
      s.onProj p fun x => { x with stall := if (s.proj.get p).rate < 8 then (s.proj.get p).stall + 1 else 0 } := by
  refine (if_pos hs).trans (if_neg ?_)
  rw [hgate]
  rintro (hcount | hopened)
  · split at hcount
    · rename_i hslow
      have hfew := hstall hslow
      omega
    · omega
  · cases hopened

theorem showStarts_swapDue (h : s.seq.swapDue = false) : (showStarts s).seq.swapDue = false := by
  have hsteps {u : State} (q : Side) (hu : u.seq.swapDue = false) : (showStartSteps q u).seq.swapDue = false := by
    obtain hcalm | ⟨v, -, -, -, hopened⟩ := showStartSteps_cases q u
    · exact hcalm.seq.swapDue hu
    · obtain ⟨-, -, -, hseq, -⟩ := enterScreen_opened q v
      rw [hopened, hseq]
  exact hsteps .b (hsteps .a h)

/-- A gate trip at a boundary: nobody is left on the screen, so that the sequencer's tests find nothing to do. -/
theorem boundary_gateTrip (r : Readings) (hs : s.Showing p) (hcheck : (s.proj.get p).lossCheck = false)
    (htrip : (s.proj.get p).gate = .opened ∨ ((boundary r s).proj.get p).rate < 8 ∧ 9 ≤ (s.proj.get p).stall) :
    ((boundary r s).proj.get p).state = .running ∧ ((boundary r s).proj.get p).dowserOpen = false
      ∧ ((boundary r s).proj.get p).stall = 0 ∧ ((boundary r s).proj.get p).windowOpen = false
      ∧ ((boundary r s).record .gateTrip).accrued = true ∧ (boundary r s).seq.swapDue = false := by
  obtain ⟨w, hlate, hshows, halone, hgate, hstall, hrate, hpending⟩ := showing_atGate r hs hcheck
  rw [← hgate, ← hrate, ← hstall] at htrip
  rw [Machine.lateWork, gateWorks_alone halone, gateWork_trip hshows htrip] at hlate
  have hunit : (gateTrip p w).proj.get p = (w.proj.get p).hidden .running := by
    rw [gateTrip_update, Both.get_set_same]
  have hcalm := gateTrip_calm p w
  have hoff : (gateTrip p w).onScreen p = false := by
    rw [onScreen_eq_false_iff, hunit]; simp [Projector.hidden]
  have hother := hcalm.steady.off halone
  have hspared : (gateTrip p w).Spared p := fun _ => ⟨hoff, .inl hother⟩
  obtain ⟨hdims, hsteady⟩ := hspared.watched r
  rw [← hlate] at hdims hsteady
  have hnobody : ∀ q, (framed r s).onScreen q = false := fun q => by
    rw [framed_onScreen]
    exact hsteady.off (Side.forall_of_both (P := fun q => (gateTrip p w).onScreen q = false) p hoff hother q)
  have hfinal := boundary_nobody hnobody
  have hfree : ((ownWork r s).proj.get p).startPending = false :=
    (hsteady.proj p).pending ((hcalm.counts p).pending hpending)
  have hdue : (framed r s).seq.swapDue = false := by
    rw [framed_swapDue]
    exact hsteady.seq.swapDue (by rw [gateTrip_update])
  have haccrued : ((framed r s).record .gateTrip).accrued = true :=
    AccruedKept.of_cond (framed_cond r s) _ (hdims.accrued _ (gateTrip_raised p w).1)
  have hown := hdims.unit hoff
  rw [hunit, ← framed_unit] at hown
  rw [← framed_unit] at hfree
  generalize framed r s = u at *
  have hleaves : Leaves p (sendFrame u) (showStarts (sendFrame u)) := showStarts_leaves (.inr hfree)
  have hall := hleaves.unit.trans hown
  rw [hfinal]
  exact ⟨(congrArg Projector.state hall :), (congrArg Projector.dowserOpen hall :), (congrArg Projector.stall hall :),
    (congrArg Projector.windowOpen hall :), hleaves.accrued _ haccrued, showStarts_swapDue hdue⟩

/-- The stall count of a projector that stays on the screen through a boundary. -/
theorem boundary_stall (r : Readings) (hs : s.Showing p) (hcheck : (s.proj.get p).lossCheck = false)
    (hgate : (s.proj.get p).gate = .closed) (ht : (boundary r s).onScreen p = true) :
    (8 ≤ ((boundary r s).proj.get p).rate → ((boundary r s).proj.get p).stall = 0)
      ∧ (((boundary r s).proj.get p).rate < 8 →
          (s.proj.get p).stall < 9 ∧ ((boundary r s).proj.get p).stall = (s.proj.get p).stall + 1) := by
  have hfew (hslow : ((boundary r s).proj.get p).rate < 8) : (s.proj.get p).stall < 9 := by
    by_contra hmany
    obtain ⟨hstate, -⟩ := boundary_gateTrip r hs hcheck (.inr ⟨hslow, by omega⟩)
    rw [onScreen_iff, hstate] at ht
    cases ht
  obtain ⟨-, hframed, -⟩ := boundary_stays hs.2.1 hs.2.2 ht
  obtain ⟨w, hlate, hshows, halone, hgate', hstall, hrate, -⟩ := showing_atGate r hs hcheck
  rw [← hrate, ← hstall] at hfew ⊢
  rw [Machine.lateWork, gateWorks_alone halone, gateWork_counts hshows (hgate'.trans hgate) hfew] at hlate
  generalize hcounted : (w.onProj p fun x =>
    { x with stall := if (w.proj.get p).rate < 8 then (w.proj.get p).stall + 1 else 0 }) = c at hlate
  have hcount : (c.proj.get p).stall = if (w.proj.get p).rate < 8 then (w.proj.get p).stall + 1 else 0 := by
    rw [← hcounted]; simp
  have hother : c.onScreen p.other = false := by
    rw [← hcounted, State.onScreen, State.onProj_proj, Both.get_set_other]; exact halone
  have hown : (ownWork r s).onScreen p = true := by rw [← framed_onScreen]; exact hframed
  have hcalm : Calm c (ownWork r s) := by
    rw [hlate]
    obtain hcalm | ⟨u, hpassed, hcalm⟩ := arcWatches_cases r hother
    · exact hcalm.trans (afterWatch_calm r _)
    · have hoff := (hcalm.trans (afterWatch_calm r _)).steady.off hpassed.off
      rw [hlate, hoff] at hown
      cases hown
  have hkept : ((boundary r s).proj.get p).core = ((framed r s).proj.get p).core := by
    have hstays := boundary_sits (p := p) r (by rw [State.Sits, (onScreen_iff _ p).1 hframed]; decide)
    refine hstays.unit.elim id fun ⟨_, hrunout⟩ => ?_
    rw [onScreen_iff, hrunout] at ht
    cases ht
  have hall : ((boundary r s).proj.get p).stall = if (w.proj.get p).rate < 8 then (w.proj.get p).stall + 1 else 0 := by
    refine (congrArg Projector.stall hkept :).trans ?_
    rw [← hcount, ← (hcalm.proj p).stall ((onScreen_iff _ p).1 hown), ← framed_unit r s]
    rfl
  rw [hall]
  exact ⟨fun hfast => if_neg (by omega), fun hslow => ⟨hfew hslow, if_pos hslow⟩⟩

/-! ### The rows in full -/

/-- The opening of a film-loss switch that is a tail-out (R152). -/
theorem filmLoss_tailOut
    (h : (s.proj.get p).state = .runout ∨ (s.proj.get p).state.moving = true
      ∧ ∃ r, s.boundReel p = some r ∧ r.measuredEnd.getD r.endFrame ≤ (s.proj.get p).f) :
    judgeFilmLoss p (s.filmOpen p) = tailOut p (s.filmOpen p) := by
  refine judgeFilmLoss_tailOut ?_
  rw [filmOpen_unit]
  refine h.imp_right fun ⟨hmoving, e, he, hend⟩ => ⟨hmoving, ?_⟩
  have hbound : (s.filmOpen p).boundReel p = some e := he
  rw [atEnd_some hbound, filmOpen_unit]
  exact decide_eq_true hend

/-- The opening of a film-loss switch that is a film break (R153). -/
theorem filmLoss_break (hmoving : (s.proj.get p).state.moving = true) (hrunout : (s.proj.get p).state ≠ .runout)
    (hend : ∃ r, s.boundReel p = some r ∧ (s.proj.get p).f < r.measuredEnd.getD r.endFrame) :
    judgeFilmLoss p (s.filmOpen p) = breakFilm p (s.filmOpen p) := by
  obtain ⟨e, he, hbefore⟩ := hend
  have hbound : (s.filmOpen p).boundReel p = some e := he
  refine judgeFilmLoss_break (by rw [filmOpen_unit]; exact hmoving) (by rw [filmOpen_unit]; exact hrunout) ?_
  rw [atEnd_some hbound, filmOpen_unit]
  simpa using hbefore

/-- A gate trip by the switch or by the stall, on the unit as the switch leaves it. -/
theorem gateTrip_row {c : Instr} {gate : Contact} (hs : (s.proj.get p).state = .onScreen)
    (hc : c = .gateThermalOpen p .opened ∧ gate = .opened
      ∨ c = .stallTrip p ∧ (s.proj.get p).rate < 8 ∧ 9 ≤ (s.proj.get p).stall ∧ gate = (s.proj.get p).gate) :
    exec c s = .next (gateTrip p (s.onProj p fun x => { x with gate := gate })) := by
  obtain ⟨rfl, rfl⟩ | ⟨rfl, hrate, hstall, rfl⟩ := hc
  · exact exec_gateThermal_trip hs
  · rw [onProj_self rfl]
    exact exec_stallTrip_trip hs hrate hstall

/-- Settles O52: each switch by the state it finds, and a boundary by the projector's own work and its gate. -/
theorem filmProtectionActs : Obligations.FilmProtectionActs := by
  unfold Obligations.FilmProtectionActs
  rintro p s x rfl
  refine ⟨rfl, rfl, fun hstill => ?_, exec_gateThermal_none, fun records code reel h hrecords hcheck => ?_,
    fun hmoving hrunout hend => ?_, fun hs c gate hc => ?_, exec_stallTrip_none, fun r => ⟨boundary r s, rfl, ?_, ?_, ?_⟩⟩
  · rw [exec_filmLoss_opened, judgeFilmLoss_still (by rw [filmOpen_unit]; exact hstill)]
    rfl
  · subst hrecords
    obtain rfl : code = ((s.filmOpen p).tailed p).reels.code := congrArg Prod.fst hcheck
    obtain rfl : reel = ((s.filmOpen p).tailed p).reels.faultReel := congrArg Prod.snd hcheck
    have hother := tailOut_other p (s.filmOpen p)
    have hseq := tailOut_seq p (s.filmOpen p)
    rw [filmOpen_other] at hother
    rw [filmOpen_onScreen] at hseq
    refine ⟨_, (exec_filmLoss_opened p s).trans (congrArg Host.Outcome.next (filmLoss_tailOut h)), ?_, hother,
      tailOut_reels .., hseq, tailOut_only p (s.filmOpen p), ⟨by simp [State.filmOpen], by simp [State.filmOpen],
      by simp [State.filmOpen]⟩, ?_⟩
    · rw [tailOut_unit, filmOpen_unit]
      rfl
    · simp [State.filmOpen]
  · refine ⟨_, (exec_filmLoss_opened p s).trans
      (congrArg Host.Outcome.next (filmLoss_break hmoving hrunout hend)), ?_, breakFilm_reels .., ?_, ?_, breakFilm_seq ..,
      breakFilm_only p (s.filmOpen p),
      ⟨by simp [State.filmOpen], by simp [State.filmOpen], by simp [State.filmOpen]⟩, ?_,
      by simp [State.filmOpen], by simp [State.filmOpen], by simp [State.filmOpen], by simp [State.filmOpen]⟩
    · rw [breakFilm_proj, filmOpen_unit]
      simp only [State.filmOpen, State.onProj_proj, Both.set_set]
      rfl
    · have hraised := breakFilm_raised p (s.filmOpen p)
      rw [filmOpen_unit] at hraised
      exact .of_cond rfl hraised
    · exact current_filmBreak (by rw [breakFilm_proj, Both.get_set_same]; rfl)
    · rw [breakFilm_lights, State.breakFade, filmOpen_onScreen]
      rfl
  · refine ⟨_, gateTrip_row hs hc, ?_⟩
    have hraised := gateTrip_raised p (s.onProj p fun x => { x with gate := gate })
    have honly := gateTrip_only p (s.onProj p fun x => { x with gate := gate })
    have htripped := gateTrip_update p (s.onProj p fun x => { x with gate := gate })
    rw [State.onProj_proj, Both.get_set_same] at hraised htripped
    generalize gateTrip p (s.onProj p fun x => { x with gate := gate }) = t at *
    refine ⟨?_, ?_, .of_cond rfl hraised, ?_, honly, ?_, ?_⟩
    all_goals rw [htripped]
    · rw [Both.set_set]
      rfl
    · rfl
    · rfl
    · exact ⟨rfl, rfl, rfl⟩
    · exact ⟨rfl, rfl, rfl, rfl⟩
  · intro hidle
    obtain ⟨-, -, hjudged, -⟩ := boundary_idle_unit p r hidle
    exact hjudged
  · exact fun e hcheck hloss hstate he =>
      ⟨boundary_broken r hcheck hloss hstate he, boundary_tailedOut r hcheck hloss hstate he⟩
  · exact fun hs hcheck => ⟨boundary_gateTrip r hs hcheck, boundary_stall r hs hcheck⟩

end

end Sys2Proof.Machine
end

section
/-! What keeps the booth safe: the screen, the withholding and the rods under each shared operation of the booth (R59, R66,
R75, R116). -/

namespace Sys2Proof.Machine

open Sys2Proof

section
variable {s t u : State} {p q l : Side}

/-! ### The screen (R59, R66) -/

/-- A projector's dowser and motor agree with its state (R59). -/
def Projector.Equipped (x : Projector) : Prop :=
  x.dowserOpen = decide (x.state = .onScreen) ∧ x.motorRunning = x.state.moving

/-- The screen is safe, but for what allows a projector on it where `P` does not hold. -/
structure ScreenSound (P : Side → Prop) (s : State) : Prop where
  equipped : ∀ p, (s.proj.get p).Equipped
  alone : ∀ p, s.onScreen p = true → s.onScreen p.other = false
  allowed : ∀ p, P p → s.onScreen p = true → s.screenAllowed p = true

theorem screenSafe_iff (s : State) : s.ScreenSafe ↔ ScreenSound (fun _ => True) s := by
  constructor
  · rintro ⟨⟨hdowserA, hmotorA, hallowedA⟩, ⟨hdowserB, hmotorB, hallowedB⟩, hboth⟩
    refine ⟨fun p => ?_, fun p hp => ?_, fun p _ => ?_⟩
    · cases p
      · exact ⟨hdowserA, hmotorA⟩
      · exact ⟨hdowserB, hmotorB⟩
    · rw [Bool.eq_false_iff]
      intro hother
      cases p
      · exact hboth ⟨hp, hother⟩
      · exact hboth ⟨hother, hp⟩
    · cases p
      · exact hallowedA
      · exact hallowedB
  · rintro ⟨hequipped, halone, hallowed⟩
    refine ⟨⟨(hequipped .a).1, (hequipped .a).2, hallowed .a trivial⟩,
      ⟨(hequipped .b).1, (hequipped .b).2, hallowed .b trivial⟩, ?_⟩
    rintro ⟨ha, hb⟩
    have hoff : s.onScreen .b = false := halone .a ha
    rw [hoff] at hb
    cases hb

namespace ScreenSound

variable {P Q : Side → Prop}

theorem mono (h : ScreenSound P s) (hPQ : ∀ p, Q p → P p) : ScreenSound Q s :=
  ⟨h.equipped, h.alone, fun p hp => h.allowed p (hPQ p hp)⟩

/-- Nobody comes ON_SCREEN, and who stays is still allowed to. -/
theorem shrink (h : ScreenSound P s) (hequipped : ∀ p, (s.proj.get p).Equipped → (t.proj.get p).Equipped)
    (hshow : ∀ p, t.onScreen p = true → s.onScreen p = true)
    (hallowed : ∀ p, Q p → t.onScreen p = true → (P p → s.screenAllowed p = true) → t.screenAllowed p = true) :
    ScreenSound Q t where
  equipped p := hequipped p (h.equipped p)
  alone p hp := by
    have hoff := h.alone p (hshow p hp)
    rw [Bool.eq_false_iff] at hoff ⊢
    exact fun ht => hoff (hshow _ ht)
  allowed p hQ hp := hallowed p hQ hp fun hP => h.allowed p hP (hshow p hp)

end ScreenSound

theorem screenAllowed_iff (s : State) (p : Side) :
    s.screenAllowed p = true ↔
      (s.lamp.get p).state = .lit ∧ (s.fire.get p.port).state = .up ∧ s.fireAllows = true := by
  simp [State.screenAllowed, and_assoc]

theorem openAllowed_iff (s : State) (p : Side) :
    s.openAllowed p = true ↔
      (s.proj.get p).state = .running ∧ s.screenAllowed p = true ∧ s.onScreen p.other = false := by
  simp [State.openAllowed, State.ready, and_assoc]

theorem screenAllowed_congr (hlamp : (t.lamp.get p).state = (s.lamp.get p).state) (hfire : t.fire = s.fire) :
    t.screenAllowed p = s.screenAllowed p := by
  simp only [State.screenAllowed, State.fireAllows, hlamp, hfire]

/-! ### The withholding (R75) -/

/-- What keeps a withholding standing in `s` keeps it standing in `t`. -/
def Supports (s t : State) : Prop := ∀ w : Withholding, w.stands s = true → w.stands t = true

theorem stands_iff (w : Withholding) (s : State) :
    w.stands s = true ↔
      (s.lamp.get w.lamp).state = .dark ∧ (s.boundReel w.lamp).map Reel.number = some w.reel
        ∧ s.seq.automation ≠ .off ∧ (∀ p, w.outgoing = some p → s.onScreen p = true)
        ∧ (w.outgoing = none → (s.proj.get w.lamp).startPending = true) := by
  unfold Withholding.stands
  cases w.outgoing <;> simp [and_assoc]

theorem Supports.of_parts (hlamp : ∀ l, (s.lamp.get l).state = .dark → (t.lamp.get l).state = .dark)
    (hbound : s.seq.automation ≠ .off → ∀ l, (t.boundReel l).map Reel.number = (s.boundReel l).map Reel.number)
    (hauto : s.seq.automation ≠ .off → t.seq.automation ≠ .off)
    (hscreen : ∀ p, s.onScreen p = true → t.onScreen p = true)
    (hpending : ∀ p, (s.proj.get p).startPending = true → (t.proj.get p).startPending = true) : Supports s t := by
  intro w hw
  obtain ⟨hdark, hnumber, hon, hshows, hstarts⟩ := (stands_iff w s).1 hw
  exact (stands_iff w t).2
    ⟨hlamp _ hdark, (hbound hon _).trans hnumber, hauto hon, fun p hp => hscreen p (hshows p hp),
      fun hp => hpending _ (hstarts hp)⟩

theorem withholdingSafe_none (h : t.seq.withholding = none) : t.WithholdingSafe := by
  rw [State.WithholdingSafe, h]
  exact fun _ hw => nomatch hw

theorem Supports.safe (h : Supports s t) (hw : t.seq.withholding = s.seq.withholding) (hs : s.WithholdingSafe) :
    t.WithholdingSafe := by
  rw [State.WithholdingSafe, hw]
  exact fun w hm => h w (hs w hm)

/-- Settling leaves no withholding that does not stand. -/
theorem settleWithholding_safe (s : State) : (settleWithholding s).WithholdingSafe := by
  intro w hw
  have hstands := (settleWithholding_stands hw).2
  rw [settleWithholding_eq]
  exact hstands

/-! ### The rods (R103, R116) -/

/-- A rod account goes from one lamp to another: the rod stays whole, and a sound account stays sound. -/
structure Lamp.RodKept (x y : Lamp) : Prop where
  sum : y.stock + y.fed = x.stock + x.fed
  sound : x.RodSound → y.RodSound

theorem Lamp.RodKept.refl (x : Lamp) : x.RodKept x := ⟨rfl, id⟩

theorem Lamp.RodKept.trans {x y z : Lamp} (h : x.RodKept y) (h' : y.RodKept z) : x.RodKept z :=
  ⟨h'.sum.trans h.sum, h'.sound ∘ h.sound⟩

theorem Lamp.RodKept.of_eq {x y : Lamp} (hstock : y.stock = x.stock) (hfed : y.fed = x.fed) (hcarry : y.carry = x.carry)
    (hvalid : y.rodValid = x.rodValid) : x.RodKept y := by
  refine ⟨by rw [hstock, hfed], fun h => ?_⟩
  rwa [Lamp.RodSound, hstock, hfed, hcarry, hvalid]

/-- The carbon that is advanced leaves the stock and joins the fed length (R116, R117). -/
theorem Lamp.fedOnce_rodKept (x : Lamp) : x.RodKept x.fedOnce := by
  unfold Lamp.fedOnce
  dsimp only
  split
  · exact .of_eq rfl rfl rfl rfl
  · split
    · refine ⟨by simp; omega, fun ⟨hmost, hwhole, _, hvalid⟩ => ⟨by simp; omega, by simp; omega, by simp, fun h => ?_⟩⟩
      obtain ⟨hstock, hfed⟩ := hvalid h
      simp [hstock, hfed]
    · refine ⟨by simp; omega, fun ⟨hmost, hwhole, _, hvalid⟩ => ⟨by simp; omega, ?_, by simp; omega, fun h => ?_⟩⟩
      · dsimp only; rw [show x.stock - (x.f + x.carry) / 2 + (x.fed + (x.f + x.carry) / 2) = x.stock + x.fed by omega]
        exact hwhole
      · obtain ⟨hstock, hfed⟩ := hvalid h
        dsimp only
        omega

/-! ### The three together -/

/-- What the booth does from `s` to `t` leaves a withholding only while it stands, and keeps both rods. -/
structure AccountsKept (s t : State) : Prop where
  withholding : s.WithholdingSafe → t.WithholdingSafe
  rods : ∀ l, (s.lamp.get l).RodKept (t.lamp.get l)

theorem AccountsKept.trans (h : AccountsKept s t) (h' : AccountsKept t u) : AccountsKept s u :=
  ⟨h'.withholding ∘ h.withholding, fun l => (h.rods l).trans (h'.rods l)⟩

/-- Whatever keeps the rods keeps the withholding as well once it is settled. -/
theorem AccountsKept.settled (hrods : ∀ l, (s.lamp.get l).RodKept (u.lamp.get l)) :
    AccountsKept s (settleWithholding u) where
  withholding _ := settleWithholding_safe u
  rods l := by
    rw [settleWithholding_eq]
    exact hrods l

/-- The accounts are kept, and the screen stays safe. -/
structure SafetyKept (s t : State) : Prop extends AccountsKept s t where
  screen : s.ScreenSafe → t.ScreenSafe

namespace SafetyKept

theorem refl (s : State) : SafetyKept s s := ⟨⟨id, fun _ => .refl _⟩, id⟩

theorem trans (h : SafetyKept s t) (h' : SafetyKept t u) : SafetyKept s u :=
  ⟨h.toAccountsKept.trans h'.toAccountsKept, h'.screen ∘ h.screen⟩

/-- A change of the projectors that puts nobody on the screen or off it. -/
theorem of_proj (hequipped : ∀ p, (s.proj.get p).Equipped → (t.proj.get p).Equipped)
    (hscreen : ∀ p, t.onScreen p = s.onScreen p)
    (hpending : ∀ p, (s.proj.get p).startPending = true → (t.proj.get p).startPending = true)
    (hbound : s.seq.automation ≠ .off → ∀ l, (t.boundReel l).map Reel.number = (s.boundReel l).map Reel.number)
    (hlamp : t.lamp = s.lamp) (hfire : t.fire = s.fire)
    (hauto : s.seq.automation ≠ .off → t.seq.automation ≠ .off)
    (hwith : t.seq.withholding = s.seq.withholding) : SafetyKept s t where
  screen hs :=
    (screenSafe_iff t).2 <| ((screenSafe_iff s).1 hs).shrink hequipped (fun p hp => hscreen p ▸ hp)
      fun p _ _ h => (screenAllowed_congr (by rw [hlamp]) hfire).trans (h trivial)
  withholding :=
    Supports.safe (.of_parts (fun l h => by rwa [hlamp]) hbound hauto (fun p hp => (hscreen p).trans hp) hpending) hwith
  rods l := by rw [hlamp]; exact .refl _

theorem of_eq (hproj : t.proj = s.proj) (hrecords : t.reels.records = s.reels.records) (hlamp : t.lamp = s.lamp)
    (hfire : t.fire = s.fire) (hauto : s.seq.automation ≠ .off → t.seq.automation ≠ .off)
    (hwith : t.seq.withholding = s.seq.withholding) : SafetyKept s t :=
  .of_proj (fun p => by rw [hproj]; exact id) (fun p => by rw [State.onScreen, hproj]; rfl)
    (fun p => by rw [hproj]; exact id) (fun _ l => by rw [State.boundReel, hrecords]; rfl) hlamp hfire hauto hwith

theorem onProj {g : Projector → Projector} (hequipped : (s.proj.get p).Equipped → (g (s.proj.get p)).Equipped)
    (hscreen : (g (s.proj.get p)).state = .onScreen ↔ (s.proj.get p).state = .onScreen)
    (hpending : (s.proj.get p).startPending = true → (g (s.proj.get p)).startPending = true) :
    SafetyKept s (s.onProj p g) :=
  .of_proj (Both.forall_set (P := fun q (y : Projector) => (s.proj.get q).Equipped → y.Equipped) hequipped fun _ => id)
    (Both.forall_set (P := fun q (y : Projector) => decide (y.state = .onScreen) = s.onScreen q)
      (decide_eq_decide.2 hscreen) fun _ => rfl)
    (Both.forall_set (P := fun q (y : Projector) => (s.proj.get q).startPending = true → y.startPending = true) hpending fun _ => id)
    (fun _ _ => rfl) rfl rfl id rfl

theorem onSeq {g : Sequencer → Sequencer} (hauto : s.seq.automation ≠ .off → (g s.seq).automation ≠ .off)
    (hwith : (g s.seq).withholding = s.seq.withholding) : SafetyKept s (s.onSeq g) :=
  .of_eq rfl rfl rfl rfl hauto hwith

theorem onLamp_screen {g : Lamp → Lamp} (hlit : (s.lamp.get l).state = .lit → (g (s.lamp.get l)).state = .lit)
    (hs : s.ScreenSafe) : (s.onLamp l g).ScreenSafe := by
  refine (screenSafe_iff _).2 <| ((screenSafe_iff s).1 hs).shrink (fun _ => id) (fun _ => id) fun p _ _ h => ?_
  obtain ⟨hp, hrest⟩ := (screenAllowed_iff s p).1 (h trivial)
  exact (screenAllowed_iff _ p).2
    ⟨Both.forall_set (P := fun q (y : Lamp) => (s.lamp.get q).state = .lit → y.state = .lit) hlit (fun _ => id) p hp,
      hrest⟩

theorem onLamp_rods {g : Lamp → Lamp} (hrod : (s.lamp.get l).RodKept (g (s.lamp.get l))) (k : Side) :
    (s.lamp.get k).RodKept ((s.onLamp l g).lamp.get k) :=
  Both.forall_set (P := fun q y => (s.lamp.get q).RodKept y) hrod (fun _ => .refl _) k

/-- A change of one lamp that leaves a LIT one LIT and a DARK one DARK. -/
theorem onLamp {g : Lamp → Lamp} (hlit : (s.lamp.get l).state = .lit → (g (s.lamp.get l)).state = .lit)
    (hdark : (s.lamp.get l).state = .dark → (g (s.lamp.get l)).state = .dark)
    (hrod : (s.lamp.get l).RodKept (g (s.lamp.get l))) : SafetyKept s (s.onLamp l g) where
  screen := onLamp_screen hlit
  withholding :=
    Supports.safe
      (.of_parts (Both.forall_set (P := fun q (y : Lamp) => (s.lamp.get q).state = .dark → y.state = .dark) hdark
        fun _ => id) (fun _ _ => rfl) id (fun _ => id) fun _ => id) rfl
  rods := onLamp_rods hrod

theorem settled (hscreen : s.ScreenSafe → u.ScreenSafe) (hrods : ∀ l, (s.lamp.get l).RodKept (u.lamp.get l)) :
    SafetyKept s (settleWithholding u) where
  toAccountsKept := .settled hrods
  screen hs := by
    rw [settleWithholding_eq]
    exact hscreen hs

/-- A shutter that was UP stays UP. -/
theorem onShutter {q : Port} {g : Shutter → Shutter} (h : (s.fire.get q).state = .up → (g (s.fire.get q)).state = .up) :
    SafetyKept s (s.onShutter q g) where
  screen hs := by
    refine (screenSafe_iff _).2 <| ((screenSafe_iff s).1 hs).shrink (fun _ => id) (fun _ => id) fun p _ _ hp => ?_
    obtain ⟨hlit, hup, hfire⟩ := (screenAllowed_iff s p).1 (hp trivial)
    refine (screenAllowed_iff _ p).2 ⟨hlit, ?_, ?_⟩
    · rw [State.onShutter_fire, FireUnit.get_set]
      split
      · rename_i hq
        exact h (hq ▸ hup)
      · exact hup
    · rw [State.fireAllows, State.onShutter_fire, FireUnit.set_state]
      exact hfire
  withholding := Supports.safe (fun _ => id) rfl
  rods _ := .refl _

end SafetyKept

end

end Sys2Proof.Machine
end

section
/-! The shared operations of the booth keep it safe: the screen, a withholding only while it stands, and the rods. -/

namespace Sys2Proof.Machine

open Sys2Proof

section
variable {s t : State} {p l : Side}

/-! ### Conditions, start-pending flags and the reel list -/

theorem automationAfter_ne_off {k : Condition} (h : s.seq.automation ≠ .off) : automationAfter s k ≠ .off := by
  unfold automationAfter
  split
  · decide
  · exact h

theorem raiseCondition_safety (k : Condition) (d : Detail) (s : State) : SafetyKept s (raiseCondition k d s) :=
  .of_eq (by simp) (by simp) (by simp) (by simp)
    (fun h => by rw [raiseCondition_automation]; exact automationAfter_ne_off h) (by simp)

/-- Clearing a start-pending flag bears on no projector's equipment. -/
theorem withoutStart_screen (p : Side) (hs : s.ScreenSafe) : (s.onProj p Projector.withoutStart).ScreenSafe := by
  refine (screenSafe_iff _).2 <| ((screenSafe_iff s).1 hs).shrink ?_ ?_ fun p _ _ h => h trivial
  · exact Both.forall_set (P := fun q (y : Projector) => (s.proj.get q).Equipped → y.Equipped) id fun _ => id
  · exact Both.forall_set (P := fun q (y : Projector) => decide (y.state = .onScreen) = true → s.onScreen q = true) id
      fun _ => id

theorem clearStart_safety (p : Side) (s : State) : SafetyKept s (clearStart p s) :=
  .settled (withoutStart_screen p) fun _ => .refl _

theorem automationOff_safety (s : State) : SafetyKept s (automationOff s) where
  withholding _ := withholdingSafe_none rfl
  rods l := by simpa using Lamp.RodKept.refl _
  screen hs := withoutStart_screen .b (withoutStart_screen .a hs)

/-- A change of the records that leaves each one's number and projector, and the bound ones bound. -/
theorem boundTo_map_number {f : Reel → Reel} (hnumber : ∀ r, (f r).number = r.number)
    (hprojector : ∀ r, (f r).projector = r.projector) (hbound : ∀ r, (f r).isBound = r.isBound) (records : List Reel)
    (p : Side) : (boundTo (records.map f) p).map Reel.number = (boundTo records p).map Reel.number := by
  have hpred : ((fun r : Reel => decide (r.projector = p) && r.isBound) ∘ f) =
      fun r : Reel => decide (r.projector = p) && r.isBound := by
    funext r
    rw [Function.comp, hprojector, hbound]
  rw [boundTo, List.find?_map, hpred, Option.map_map]
  exact congrArg (Option.map · _) (funext hnumber)

theorem mapRecords_safety {f : Reel → Reel} (hnumber : ∀ r, (f r).number = r.number)
    (hprojector : ∀ r, (f r).projector = r.projector) (hbound : ∀ r, (f r).isBound = r.isBound) (s : State) :
    SafetyKept s (s.onReels fun x => { x with records := x.records.map f }) :=
  .of_proj (fun _ => id) (fun _ => rfl) (fun _ => id)
    (fun _ l => boundTo_map_number hnumber hprojector hbound s.reels.records l) rfl rfl id rfl

/-- The status of a bound record moves to one that binds it still. -/
theorem setBoundStatus_safety {st : RecordStatus} (hst : st.binds = true) (p : Side) (s : State) :
    SafetyKept s (setBoundStatus p st s) := by
  refine mapRecords_safety (f := Reel.become p st) (fun r => ?_) (Reel.become_projector p st) (fun r => ?_) s
  · unfold Reel.become
    split <;> rfl
  · unfold Reel.become
    split
    · rename_i h
      rw [Bool.and_eq_true] at h
      rw [h.2, Reel.isBound_eq]
      exact hst
    · rfl

theorem giveTarget_safety (c : Channel) (percent tenths : Nat) (s : State) :
    SafetyKept s (giveTarget c percent tenths s) := .of_eq rfl rfl rfl rfl id rfl

theorem automaticFade_safety (percent tenths : Nat) (s : State) : SafetyKept s (automaticFade percent tenths s) :=
  .of_eq (by simp) (by simp) (by simp) (by simp) (by simp) (by simp)

/-! ### The screen (R59, R66, R75) -/

theorem leaveScreen_accounts (p : Side) (st : ProjectorState) (s : State) : AccountsKept s (leaveScreen p st s) :=
  .settled fun _ => .refl _

/-- A projector that leaves the screen with its motor running need not have been allowed there any longer (R86, R144). -/
theorem leaveScreen_screen {st : ProjectorState} (hmoving : st.moving = true) (hst : st ≠ .onScreen)
    (hp : s.onScreen p = true) (hs : ScreenSound (· ≠ p) s) : (leaveScreen p st s).ScreenSafe := by
  have hstate := (onScreen_iff s p).1 hp
  have hunit : ∀ q, (s.proj.get q).Equipped → ((leaveScreen p st s).proj.get q).Equipped := by
    rw [leaveScreen_eq]
    refine Both.forall_set (P := fun q (y : Projector) => (s.proj.get q).Equipped → y.Equipped) ?_ fun _ => id
    rintro ⟨-, hmotor⟩
    exact ⟨(decide_eq_false hst).symm, hmotor.trans (by rw [hstate]; exact hmoving.symm)⟩
  have hscreen (q : Side) (hq : (leaveScreen p st s).onScreen q = true) : q ≠ p ∧ s.onScreen q = true := by
    have hne : p ≠ q := by
      rintro rfl
      rw [leaveScreen_onScreen hst] at hq
      cases hq
    rw [leaveScreen_eq, State.onScreen, Both.get_set_ne _ _ hne] at hq
    exact ⟨hne.symm, hq⟩
  refine (screenSafe_iff _).2 <| hs.shrink hunit (fun q hq => (hscreen q hq).2) fun q _ hq h => ?_
  exact (screenAllowed_congr (by simp) (by simp)).trans (h (hscreen q hq).1)

theorem leaveScreen_safety {st : ProjectorState} (hmoving : st.moving = true) (hst : st ≠ .onScreen)
    (hp : s.onScreen p = true) : SafetyKept s (leaveScreen p st s) where
  toAccountsKept := leaveScreen_accounts p st s
  screen hs := leaveScreen_screen hmoving hst hp (((screenSafe_iff s).1 hs).mono fun _ _ => trivial)

theorem darkenScreen_safety (hp : s.onScreen p = true) : SafetyKept s (darkenScreen p s) :=
  (leaveScreen_safety rfl (by decide) hp).trans (setBoundStatus_safety rfl p _)

theorem darkenScreen_accounts (p : Side) (s : State) : AccountsKept s (darkenScreen p s) :=
  (leaveScreen_accounts p .running s).trans (setBoundStatus_safety rfl p _).toAccountsKept

theorem darkenScreen_screen (hp : s.onScreen p = true) (hs : ScreenSound (· ≠ p) s) : (darkenScreen p s).ScreenSafe :=
  (setBoundStatus_safety rfl p _).screen (leaveScreen_screen rfl (by decide) hp hs)

/-- A running projector takes an empty screen that it is allowed on (R65, R66). -/
theorem enterScreen_safety (h : s.openAllowed p = true) : SafetyKept s (enterScreen p s) := by
  obtain ⟨hrunning, hallowed, halone⟩ := (openAllowed_iff s p).1 h
  obtain ⟨hunit, hother, -, -, -, hlamp, -, hfire, -, -⟩ := enterScreen_opened p s
  have hoff : (enterScreen p s).onScreen p.other = false := (enterScreen_onScreen_other p s).trans halone
  refine ⟨⟨fun _ => settleWithholding_safe _, fun l => by rw [hlamp]; exact .refl _⟩, fun hs => ?_⟩
  have hsound := (screenSafe_iff s).1 hs
  refine (screenSafe_iff _).2 ⟨?_, ?_, ?_⟩
  · refine Side.forall_of_both p ?_ ?_
    · rw [hunit]
      exact ⟨rfl, (hsound.equipped p).2.trans (by rw [hrunning]; rfl)⟩
    · rw [hother]
      exact hsound.equipped p.other
  · refine Side.forall_of_both p (fun _ => hoff) fun hq => ?_
    rw [hoff] at hq
    cases hq
  · refine Side.forall_of_both p (fun _ _ => ?_) fun _ hq => ?_
    · exact (screenAllowed_congr (by rw [hlamp]) hfire).trans hallowed
    · rw [hoff] at hq
      cases hq

/-! ### The lamps (R104, R112) -/

theorem lampToDark_accounts {g : Lamp → Lamp} (hg : (s.lamp.get l).RodKept (g (s.lamp.get l).darkened)) :
    AccountsKept s (lampToDark l g s) :=
  .settled (Both.forall_set (P := fun q y => (s.lamp.get q).RodKept y) hg fun _ => .refl _)

/-- A lamp that goes to DARK leaves the screen safe but for its own projector, which may show no longer. -/
theorem lampToDark_screen (g : Lamp → Lamp) (hs : s.ScreenSafe) : ScreenSound (· ≠ l) (lampToDark l g s) := by
  refine ((screenSafe_iff s).1 hs).shrink (fun p => ?_) (fun p hp => by rwa [lampToDark_onScreen] at hp)
    fun p hp _ h => ?_
  · have hproj : (lampToDark l g s).proj = s.proj.set l (s.proj.get l).notStarting := by rw [lampToDark_eq]
    rw [hproj]
    exact Both.forall_set (v := (s.proj.get l).notStarting)
      (P := fun q (y : Projector) => (s.proj.get q).Equipped → y.Equipped) id (fun _ => id) p
  · refine (screenAllowed_congr ?_ (by simp)).trans (h trivial)
    rw [lampToDark_eq, Both.get_set_ne _ _ (Ne.symm hp)]

theorem lampToDark_safety {g : Lamp → Lamp} (hg : (s.lamp.get l).RodKept (g (s.lamp.get l).darkened))
    (hoff : s.ScreenSafe → s.onScreen l = false) : SafetyKept s (lampToDark l g s) where
  toAccountsKept := lampToDark_accounts hg
  screen hs := by
    have hsound := lampToDark_screen (l := l) g hs
    refine (screenSafe_iff _).2 ⟨hsound.equipped, hsound.alone, fun p _ hp => hsound.allowed p ?_ hp⟩
    rintro rfl
    rw [lampToDark_onScreen, hoff hs] at hp
    cases hp

/-- The projector of a lamp that is not LIT is off a safe screen. -/
theorem State.ScreenSafe.off_of_not_lit (hs : s.ScreenSafe) (h : (s.lamp.get l).state ≠ .lit) : s.onScreen l = false := by
  rw [Bool.eq_false_iff]
  exact fun hl => h ((screenAllowed_iff s l).1 (((screenSafe_iff s).1 hs).allowed l trivial hl)).1

theorem Lamp.noLowCurrent_rodKept (x : Lamp) : x.RodKept x.darkened.noLowCurrent := .of_eq rfl rfl rfl rfl

theorem extinguishLamp_safety (l : Side) (s : State) : SafetyKept s (extinguishLamp l s) := by
  unfold extinguishLamp
  dsimp only
  split
  · exact .refl s
  · have haccounts := lampToDark_accounts (s := s) (l := l) (Lamp.noLowCurrent_rodKept _)
    split
    · rename_i hp
      rw [← lampToDark_onScreen l l Lamp.noLowCurrent] at hp
      exact ⟨haccounts.trans (darkenScreen_accounts l _), fun hs => darkenScreen_screen hp (lampToDark_screen _ hs)⟩
    · rename_i hp
      exact lampToDark_safety (Lamp.noLowCurrent_rodKept _) fun _ => Bool.eq_false_iff.2 hp

theorem startDouse_safety (m : Moment) (hoff : s.onScreen l = false) : SafetyKept s (startDouse l m s) := by
  unfold startDouse
  (repeat' split)
  · exact lampToDark_safety (Lamp.noLowCurrent_rodKept _) fun _ => hoff
  · exact .onSeq id rfl
  · exact .refl s

theorem ready_iff (s : State) (p : Side) :
    s.ready p = true ↔ (s.proj.get p).state = .running ∧ s.screenAllowed p = true := by
  simp [State.ready]

/-- The screen given up by `o`, what is left of a swap takes it for a ready projector. -/
theorem swapScreens_rest {i o : Side} (m : Moment) (hi : s.ready i = true) (hne : i ≠ o) :
    SafetyKept (leaveScreen o .runout s) (swapScreens i o m s) := by
  obtain rfl : i = o.other := Side.eq_other_of_ne hne
  obtain ⟨hrunning, hallowed⟩ := (ready_iff s _).1 hi
  have hoff : (leaveScreen o .runout s).onScreen o = false := leaveScreen_onScreen (by decide) o s
  have hopen : (leaveScreen o .runout s).openAllowed o.other = true := by
    refine (openAllowed_iff _ _).2 ⟨?_, (screenAllowed_congr (by simp) (by simp)).trans hallowed, ?_⟩
    · rw [leaveScreen_eq, Both.get_set_other]
      exact hrunning
    · rw [Side.other_other]
      exact hoff
  refine (enterScreen_safety hopen).trans (startDouse_safety m ?_)
  have hkept := enterScreen_onScreen_other o.other (leaveScreen o .runout s)
  rw [Side.other_other] at hkept
  exact hkept.trans hoff

theorem ready_ne {i o : Side} (hi : s.ready i = true) (ho : s.onScreen o = true) : i ≠ o := by
  rintro rfl
  rw [onScreen_iff, ((ready_iff s i).1 hi).1] at ho
  cases ho

theorem swapScreens_safety {i o : Side} (m : Moment) (hi : s.ready i = true) (ho : s.onScreen o = true) :
    SafetyKept s (swapScreens i o m s) :=
  (leaveScreen_safety rfl (by decide) ho).trans (swapScreens_rest m hi (ready_ne hi ho))

theorem loseArc_safety (l : Side) (m : Moment) (s : State) : SafetyKept s (loseArc l m s) := by
  have hrod : (s.lamp.get l).RodKept { (s.lamp.get l).darkened with lowCurrent := 10 } := .of_eq rfl rfl rfl rfl
  have hdark := lampToDark_accounts (s := s) (l := l) (g := fun x => { x with lowCurrent := 10 }) hrod
  have hsound (hs : s.ScreenSafe) := lampToDark_screen (l := l) (fun x => { x with lowCurrent := 10 }) hs
  have hkept := lampToDark_onScreen l l (fun x => { x with lowCurrent := 10 }) s
  unfold loseArc
  dsimp only
  refine SafetyKept.trans ?_ (raiseCondition_safety ..)
  generalize lampToDark l (fun x => { x with lowCurrent := 10 }) s = u at hdark hsound hkept ⊢
  (repeat' split)
  · rename_i hp hready
    rw [← hkept] at hp
    have hrest := swapScreens_rest m hready.2 (Side.other_ne l)
    exact ⟨(hdark.trans (leaveScreen_accounts l .runout u)).trans hrest.toAccountsKept,
      fun hs => hrest.screen (leaveScreen_screen rfl (by decide) hp (hsound hs))⟩
  · rename_i hp _
    rw [← hkept] at hp
    exact ⟨hdark.trans (darkenScreen_accounts l u), fun hs => darkenScreen_screen hp (hsound hs)⟩
  · rename_i hp
    refine ⟨hdark, fun hs => ?_⟩
    refine (screenSafe_iff u).2 ⟨(hsound hs).equipped, (hsound hs).alone, fun q _ hq => (hsound hs).allowed q ?_ hq⟩
    rintro rfl
    exact hp (hkept ▸ hq)

theorem beginStrike_safety (m : Moment) (h : (s.lamp.get l).state = .dark) : SafetyKept s (beginStrike l m s) :=
  .settled (SafetyKept.onLamp_screen fun hlit => by rw [h] at hlit; cases hlit)
    (SafetyKept.onLamp_rods (.of_eq rfl rfl rfl rfl))

/-! ### The projectors (R59, R62 to R64, R151 to R154) -/

/-- A projector that goes off the screen, if it was on it, with dowser and motor as its new state has them. -/
theorem onProj_off_screen {g : Projector → Projector} (hg : (g (s.proj.get p)).Equipped)
    (hstate : (g (s.proj.get p)).state ≠ .onScreen) (hproj : t.proj = (s.onProj p g).proj) (hlamp : t.lamp = s.lamp)
    (hfire : t.fire = s.fire) (hs : s.ScreenSafe) : t.ScreenSafe := by
  refine (screenSafe_iff _).2 <| ((screenSafe_iff s).1 hs).shrink ?_ ?_ fun p _ _ h =>
    (screenAllowed_congr (by rw [hlamp]) hfire).trans (h trivial)
  · rw [hproj]
    exact Both.forall_set (P := fun q (y : Projector) => (s.proj.get q).Equipped → y.Equipped) (fun _ => hg) fun _ => id
  · simp only [State.onScreen, hproj]
    exact Both.forall_set (P := fun q (y : Projector) => decide (y.state = .onScreen) = true → s.onScreen q = true)
      (fun h => absurd (of_decide_eq_true h) hstate) fun _ => id

theorem stopProjector_safety (p : Side) (s : State) : SafetyKept s (stopProjector p s) :=
  .settled (onProj_off_screen (p := p) (g := Projector.rethreaded) ⟨rfl, rfl⟩ (by simp [Projector.rethreaded])
    (by simp) (by simp) (by simp)) fun l => by simpa using Lamp.RodKept.refl _

theorem failStart_safety (p : Side) (s : State) : SafetyKept s (failStart p s) :=
  (stopProjector_safety p s).trans (raiseCondition_safety ..)

theorem finishInch_safety (h : (s.proj.get p).state = .inching) : SafetyKept s (finishInch p s) :=
  .onProj (fun ⟨hdowser, _⟩ => ⟨hdowser.trans (by rw [h]; rfl), rfl⟩) (by simp [h]) id

theorem startMotor_safety (m : Moment) (h : (s.proj.get p).state = .threaded ∨ (s.proj.get p).state = .inching) :
    SafetyKept s (startMotor p m s) :=
  .onProj (fun ⟨hdowser, _⟩ => ⟨hdowser.trans (by obtain h | h := h <;> rw [h] <;> rfl), rfl⟩)
    (by obtain h | h := h <;> simp [h]) id

theorem askStart_safety (p : Side) (m : Moment) (s : State) : SafetyKept s (askStart p m s) := by
  unfold askStart
  split
  · exact startMotor_safety m (startAllowed_state ‹_›)
  · exact .refl s

theorem reachSpeed_safety (h : (s.proj.get p).state = .starting) : SafetyKept s (reachSpeed p s) := by
  have hrunning : SafetyKept s (s.onProj p fun x => { x with state := .running, runUpTimer := none }) :=
    .onProj (fun ⟨hdowser, hmotor⟩ => ⟨hdowser.trans (by rw [h]; rfl), hmotor.trans (by rw [h]; rfl)⟩) (by simp [h]) id
  exact hrunning.trans (setBoundStatus_safety rfl p _)

/-- The record of a projector becomes SHOWN: a withholding is left to be settled. -/
theorem markShown_screen (p : Side) (hs : s.ScreenSafe) : (markShown p s).ScreenSafe := by
  have hshown : (evaluateFormat (setBoundStatus p .shown s)).ScreenSafe := by
    simpa [State.ScreenSafe, State.ScreenSafeOn, State.onScreen, State.screenAllowed, State.fireAllows] using hs
  unfold markShown
  dsimp only
  split
  · exact (automationOff_safety _).screen hshown
  · exact hshown

theorem tailOut_safety (p : Side) (s : State) : SafetyKept s (tailOut p s) := by
  have hout {u : State} (hproj : u.proj = (s.onProj p Projector.tailedOut).proj) (hlamp : u.lamp = s.lamp)
      (hfire : u.fire = s.fire) (hs : s.ScreenSafe) : u.ScreenSafe :=
    onProj_off_screen (p := p) (g := Projector.tailedOut) ⟨rfl, rfl⟩ (by simp [Projector.tailedOut]) hproj hlamp hfire hs
  refine .settled (fun hs => markShown_screen p ?_) fun l => ?_
  · split <;> exact hout rfl rfl rfl hs
  · have hlamp : (tailOut p s).lamp = s.lamp := by simp
    rw [tailOut, settleWithholding_eq] at hlamp
    rw [show (markShown p _).lamp = s.lamp from hlamp]
    exact .refl _

theorem breakFilm_safety (p : Side) (s : State) : SafetyKept s (breakFilm p s) := by
  have hbroken :
      SafetyKept s (settleWithholding
        ((setBoundStatus p .interrupted (s.onProj p Projector.filmBroken)).onSeq fun q => { q with swapDue := false })) :=
    .settled (onProj_off_screen (p := p) (g := Projector.filmBroken) ⟨rfl, rfl⟩ (by simp [Projector.filmBroken])
      (by simp) (by simp) (by simp)) fun l => by simpa using Lamp.RodKept.refl _
  unfold breakFilm
  dsimp only
  refine SafetyKept.trans ?_ (raiseCondition_safety ..)
  split
  · exact hbroken.trans (giveTarget_safety ..)
  · exact hbroken

theorem judgeFilmLoss_safety (p : Side) (s : State) : SafetyKept s (judgeFilmLoss p s) := by
  unfold judgeFilmLoss
  (repeat' split)
  all_goals first | exact tailOut_safety .. | exact breakFilm_safety .. | exact .refl s

theorem gateTrip_safety (h : s.onScreen p = true) : SafetyKept s (gateTrip p s) :=
  (darkenScreen_safety h).trans (raiseCondition_safety ..)

/-! ### The entry to DROPPED (R147) -/

/-- A projector unit after the entry to DROPPED (R147). -/
def Projector.fireStopped (x : Projector) : Projector := { x.emergencyStopped with inchCount := 0 }

theorem fireStop_proj (p : Side) (s : State) : (fireStop p s).proj = s.proj.set p (s.proj.get p).fireStopped := by
  have hstop : (fireStop p s).proj = ((emergencyStop p s).onProj p fun x => { x with inchCount := 0 }).proj := by
    simp [fireStop, emergencyStop]
  rw [hstop, State.onProj_proj, emergencyStop_proj, Both.set_set, Both.get_set_same]
  rfl

theorem fireStopped_safe {x : Projector} (h : x.Equipped) :
    x.fireStopped.Equipped ∧ x.fireStopped.state ≠ .onScreen := by
  have hmoves : x.fireStopped.state.moving = false := emergencyStopped_not_moving x
  refine ⟨?_, fun hs => by rw [hs] at hmoves; cases hmoves⟩
  cases hm : x.state.moving with
  | true =>
    obtain ⟨hstate, hmotor, hdowser, -⟩ := emergencyStopped_moving hm
    exact ⟨hdowser.trans (by rw [Projector.fireStopped, hstate]; rfl),
      hmotor.trans (by rw [Projector.fireStopped, hstate]; rfl)⟩
  | false =>
    rw [Projector.fireStopped, emergencyStopped_still hm]
    exact h

/-- Once nobody is on the screen, the lamps may go. -/
theorem fireExtinguish_unit (l : Side) (hoff : s.onScreen p = false) :
    ((fireExtinguish l s).proj.get p).withoutStart = (s.proj.get p).withoutStart :=
  (extinguishLamp_dims l s).unit hoff

theorem Projector.equipped_congr {x y : Projector} (h : y.withoutStart = x.withoutStart) (hx : x.Equipped) :
    y.Equipped := by
  have hstate : y.state = x.state := congrArg (·.state) h
  have hdowser : y.dowserOpen = x.dowserOpen := congrArg (·.dowserOpen) h
  have hmotor : y.motorRunning = x.motorRunning := congrArg (·.motorRunning) h
  rwa [Projector.Equipped, hstate, hdowser, hmotor]

/-- A screen with nobody on it. -/
theorem screenSafe_of_off (hequipped : ∀ p, (s.proj.get p).Equipped) (hoff : ∀ p, s.onScreen p = false) : s.ScreenSafe :=
  (screenSafe_iff s).2
    ⟨hequipped, fun p hp => (by rw [hoff p] at hp; cases hp), fun p _ hp => (by rw [hoff p] at hp; cases hp)⟩

theorem onScreen_congr (h : (t.proj.get p).withoutStart = (s.proj.get p).withoutStart) : t.onScreen p = s.onScreen p := by
  have hstate : (t.proj.get p).state = (s.proj.get p).state := congrArg (·.state) h
  rw [State.onScreen, hstate]
  rfl

/-- Both lamps extinguished with nobody on the screen. -/
theorem fireExtinguishes_screen (hequipped : ∀ p, (s.proj.get p).Equipped) (hoff : ∀ p, s.onScreen p = false)
    (hproj : t.proj = (fireExtinguish .b (fireExtinguish .a s)).proj) : t.ScreenSafe := by
  have hfirst (p : Side) := fireExtinguish_unit (s := s) .a (hoff p)
  have hoff' (p : Side) : (fireExtinguish .a s).onScreen p = false := (onScreen_congr (hfirst p)).trans (hoff p)
  have hunit (p : Side) : (t.proj.get p).withoutStart = (s.proj.get p).withoutStart := by
    rw [hproj]
    exact (fireExtinguish_unit .b (hoff' p)).trans (hfirst p)
  exact screenSafe_of_off (fun p => Projector.equipped_congr (hunit p) (hequipped p))
    fun p => (onScreen_congr (hunit p)).trans (hoff p)

theorem fireExtinguish_rods (l k : Side) (s : State) :
    (s.lamp.get k).RodKept ((fireExtinguish l s).lamp.get k) := (extinguishLamp_safety l s).rods k

theorem enterDropped_safety (u : DetailUnit) (m : Moment) (s : State) : SafetyKept s (enterDropped u m s) := by
  unfold enterDropped
  dsimp only
  refine SafetyKept.trans (.settled (fun hs => ?_) fun l => ?_) (raiseCondition_safety ..)
  · have hequipped := ((screenSafe_iff s).1 hs).equipped
    generalize hfire : s.onFire _ = v
    have hstopped : (fireStop .b (fireStop .a v)).proj =
        { a := s.proj.a.fireStopped, b := s.proj.b.fireStopped } := by
      rw [fireStop_proj, fireStop_proj, ← hfire]
      rfl
    refine fireExtinguishes_screen (s := fireStop .b (fireStop .a v)) (fun p => ?_) (fun p => ?_) (by simp)
    · rw [hstopped]
      cases p
      · exact (fireStopped_safe (hequipped .a)).1
      · exact (fireStopped_safe (hequipped .b)).1
    · rw [onScreen_eq_false_iff, hstopped]
      cases p
      · exact (fireStopped_safe (hequipped .a)).2
      · exact (fireStopped_safe (hequipped .b)).2
  · generalize hfire : fireStop .b _ = v
    have hlamp : v.lamp = s.lamp := by simp [← hfire]
    rw [← hlamp]
    simpa using (fireExtinguish_rods .a l v).trans (fireExtinguish_rods .b l _)

theorem dropFire_safety (u : DetailUnit) (m : Moment) (s : State) : SafetyKept s (dropFire u m s) := by
  unfold dropFire
  split
  · exact .refl s
  · exact enterDropped_safety u m s

end

end Sys2Proof.Machine
end

section
/-! The events of the booth and a period boundary keep it safe: the screen, a withholding only while it stands, and the
rods. -/

namespace Sys2Proof.Machine

open Sys2Proof

section
variable {s t : State} {p l : Side}

/-! ### Projectors (chapter 4) -/

/-- A change of a projector unit that leaves its state, its dowser, its motor and its start as they are. -/
theorem SafetyKept.unit {g : Projector → Projector} (hstate : (g (s.proj.get p)).state = (s.proj.get p).state)
    (hdowser : (g (s.proj.get p)).dowserOpen = (s.proj.get p).dowserOpen)
    (hmotor : (g (s.proj.get p)).motorRunning = (s.proj.get p).motorRunning)
    (hpending : (g (s.proj.get p)).startPending = (s.proj.get p).startPending) : SafetyKept s (s.onProj p g) :=
  .onProj (fun h => by rwa [Projector.Equipped, hstate, hdowser, hmotor]) (by rw [hstate]) (by rw [hpending]; exact id)

theorem endInch_safety (p : Side) (s : State) : SafetyKept s (endInch p s) := by
  unfold endInch
  split
  · rename_i h; exact finishInch_safety h.1
  · exact .refl s

theorem countPulse_safety (p : Side) (s : State) : SafetyKept s (countPulse p s) :=
  (SafetyKept.unit (g := Projector.pulsed) rfl rfl rfl rfl).trans (endInch_safety p _)

theorem expireInch_safety (p : Side) (s : State) : SafetyKept s (expireInch p s) := by
  unfold expireInch
  split
  · exact failStart_safety p s
  · exact .refl s

theorem endRunUp_safety (p : Side) (s : State) : SafetyKept s (endRunUp p s) := by
  unfold endRunUp
  split
  · rename_i h; exact reachSpeed_safety h.1
  · exact .refl s

theorem expireRunUp_safety (p : Side) (s : State) : SafetyKept s (expireRunUp p s) := by
  unfold expireRunUp
  split
  · rename_i h
    split
    · exact reachSpeed_safety h.1
    · exact failStart_safety p s
  · exact .refl s

theorem moveFilmLoss_safety (p : Side) (position : Contact) (s : State) : SafetyKept s (moveFilmLoss p position s) := by
  have hmoved : SafetyKept s (s.onProj p fun x => { x with filmLoss := position }) := .unit rfl rfl rfl rfl
  unfold moveFilmLoss
  dsimp only
  split
  · exact hmoved.trans (judgeFilmLoss_safety ..)
  · exact hmoved

theorem moveGate_safety (p : Side) (position : Contact) (s : State) : SafetyKept s (moveGate p position s) := by
  have hmoved : SafetyKept s (s.onProj p fun x => { x with gate := position }) := .unit rfl rfl rfl rfl
  unfold moveGate
  dsimp only
  split
  · rename_i h; exact hmoved.trans (gateTrip_safety h.2)
  · exact hmoved

theorem expireStall_safety (p : Side) (s : State) : SafetyKept s (expireStall p s) := by
  unfold expireStall
  split
  · rename_i h; exact gateTrip_safety h.1
  · exact .refl s

theorem judgeStanding_safety (p : Side) (s : State) : SafetyKept s (judgeStanding p s) := by
  have hcleared : SafetyKept s (s.onProj p fun x => { x with lossCheck := false }) := .unit rfl rfl rfl rfl
  unfold judgeStanding
  dsimp only
  split
  · exact hcleared.trans (judgeFilmLoss_safety ..)
  · exact hcleared

theorem tickInch_safety (p : Side) (s : State) : SafetyKept s (tickInch p s) := by
  unfold tickInch
  split
  · exact expireInch_safety ..
  · exact .unit rfl rfl rfl rfl

theorem tickRunUp_safety (p : Side) (s : State) : SafetyKept s (tickRunUp p s) := by
  unfold tickRunUp
  (repeat' split)
  · exact endRunUp_safety ..
  · exact expireRunUp_safety ..
  · exact .unit rfl rfl rfl rfl

theorem projectorWork_safety (p : Side) (s : State) : SafetyKept s (projectorWork p s) :=
  ((judgeStanding_safety p s).trans (tickInch_safety p _)).trans (tickRunUp_safety p _)

theorem gateWork_safety (p : Side) (s : State) : SafetyKept s (gateWork p s) := by
  unfold gateWork
  dsimp only
  generalize (if (s.proj.get p).rate < stallRate then (s.proj.get p).stall + 1 else 0) = count
  split
  · split
    · exact gateTrip_safety ‹_›
    · exact .unit rfl rfl rfl rfl
  · exact .refl s

/-! ### Lamps (chapter 6) -/

/-- A change of one lamp that leaves its state and its rod as they are. -/
theorem SafetyKept.lampUnit {g : Lamp → Lamp} (hstate : (g (s.lamp.get l)).state = (s.lamp.get l).state)
    (hrod : (s.lamp.get l).RodKept (g (s.lamp.get l))) : SafetyKept s (s.onLamp l g) :=
  .onLamp (by rw [hstate]; exact id) (by rw [hstate]; exact id) hrod

/-- A change of a lamp that is neither DARK nor LIT, its rod as it is. -/
theorem SafetyKept.lampBegins {g : Lamp → Lamp} (hlit : (s.lamp.get l).state ≠ .lit)
    (hdark : (s.lamp.get l).state ≠ .dark) (hrod : (s.lamp.get l).RodKept (g (s.lamp.get l))) :
    SafetyKept s (s.onLamp l g) := .onLamp (fun h => absurd h hlit) (fun h => absurd h hdark) hrod

theorem attempting_state (h : (s.lamp.get l).attempting = true) : (s.lamp.get l).state = .striking := by
  simp only [Lamp.attempting, Bool.and_eq_true, decide_eq_true_eq] at h
  exact h.1

theorem failAttempt_safety (amperes : Nat) (m : Moment) (h : (s.lamp.get l).state = .striking) :
    SafetyKept s (failAttempt l amperes m s) := by
  unfold failAttempt failStrike
  dsimp only
  have hread : SafetyKept s (s.onLamp l fun x =>
      { x with amperes := amperes, strikerClosed := false, attemptTimer := none }) :=
    .lampUnit rfl (.of_eq rfl rfl rfl rfl)
  split
  · exact hread.trans (.lampUnit rfl (.of_eq rfl rfl rfl rfl))
  · refine SafetyKept.trans ?_ (raiseCondition_safety ..)
    refine hread.trans (lampToDark_safety (.of_eq rfl rfl rfl rfl) fun hs => hs.off_of_not_lit ?_)
    simp [h]

theorem judgeArc_safety (l : Side) (amperes : Nat) (m : Moment) (s : State) :
    SafetyKept s (judgeArc l amperes m s) := by
  unfold judgeArc
  split
  · rename_i h
    have hstriking := attempting_state h.1
    exact .lampBegins (by simp [hstriking]) (by simp [hstriking]) (.of_eq rfl rfl rfl rfl)
  · exact .refl s

theorem expireAttempt_safety (l : Side) (amperes : Nat) (m : Moment) (s : State) :
    SafetyKept s (expireAttempt l amperes m s) := by
  unfold expireAttempt
  split
  · rename_i h
    have hstriking := attempting_state h.1
    split
    · exact .lampBegins (by simp [hstriking]) (by simp [hstriking]) (.of_eq rfl rfl rfl rfl)
    · exact failAttempt_safety amperes m hstriking
  · exact .refl s

theorem expireSettling_safety (l : Side) (m : Moment) (s : State) : SafetyKept s (expireSettling l m s) := by
  unfold expireSettling
  split
  · rename_i h
    exact .lampBegins (by simp [h.1]) (by simp [h.1]) (.of_eq rfl rfl rfl rfl)
  · exact .refl s

theorem expireWait_safety (l : Side) (m : Moment) (s : State) : SafetyKept s (expireWait l m s) := by
  unfold expireWait
  split
  · rename_i h
    exact .lampBegins (by simp [h.1]) (by simp [h.1]) (.of_eq rfl rfl rfl rfl)
  · exact .refl s

theorem expireWarm_safety (l : Side) (s : State) : SafetyKept s (expireWarm l s) := by
  unfold expireWarm
  split
  · rename_i h
    exact .lampBegins (by simp [h.1]) (by simp [h.1]) (.of_eq rfl rfl rfl rfl)
  · exact .refl s

theorem tickAttempt_safety (l : Side) (amperes : Nat) (s : State) : SafetyKept s (tickAttempt l amperes s) := by
  unfold tickAttempt
  (repeat' split)
  · exact judgeArc_safety ..
  · exact expireAttempt_safety ..
  · exact .lampUnit rfl (.of_eq rfl rfl rfl rfl)
  · exact .refl s

theorem firstReading_safety (l : Side) (amperes : Nat) (s : State) : SafetyKept s (firstReading l amperes s) := by
  unfold firstReading
  split
  · exact judgeArc_safety ..
  · exact .lampUnit rfl (.of_eq rfl rfl rfl rfl)

theorem lampWork_safety (l : Side) (amperes : Nat) (s : State) : SafetyKept s (lampWork l amperes s) := by
  unfold lampWork
  split
  · exact .refl s
  · split
    · exact (expireSettling_safety ..).trans (firstReading_safety ..)
    · exact .lampUnit rfl (.of_eq rfl rfl rfl rfl)
  · (repeat' split)
    · exact (expireWait_safety ..).trans (firstReading_safety ..)
    · exact .lampUnit rfl (.of_eq rfl rfl rfl rfl)
    · exact tickAttempt_safety ..
  · split
    · exact expireWarm_safety ..
    · exact .lampUnit rfl (.of_eq rfl rfl rfl rfl)
  · exact .refl s

theorem expireArc_safety (l : Side) (amperes : Nat) (m : Moment) (s : State) :
    SafetyKept s (expireArc l amperes m s) := by
  unfold expireArc
  split
  · exact (SafetyKept.lampUnit rfl (.of_eq rfl rfl rfl rfl)).trans (loseArc_safety ..)
  · exact .refl s

theorem arcWatch_safety (l : Side) (amperes : Nat) (s : State) : SafetyKept s (arcWatch l amperes s) := by
  unfold arcWatch
  split
  · split
    · exact expireArc_safety ..
    · exact .lampUnit rfl (.of_eq rfl rfl rfl rfl)
  · exact .refl s

/-! ### The feed (R113 to R121) -/

/-- The reading and the clamp counts of an interval leave the rod to its last step. -/
theorem Lamp.countClamp_read_rodKept (x : Lamp) (t : LampSettings) (volts amperes : Nat) :
    x.RodKept ((x.read t volts amperes).countClamp t) := by
  unfold Lamp.countClamp Lamp.read Lamp.lowered Lamp.lifted
  dsimp only
  (repeat' split) <;> exact .of_eq rfl rfl rfl rfl

theorem convergeTrim_safety (l : Side) (rate : Nat) (s : State) : SafetyKept s (convergeTrim l rate s) := by
  have hended : SafetyKept s (s.onLamp l Lamp.trimEnded) := .lampUnit rfl (.of_eq rfl rfl rfl rfl)
  exact hended.trans (.of_eq rfl rfl rfl rfl id rfl)

theorem failTrim_safety (l : Side) (s : State) : SafetyKept s (failTrim l s) := by
  have hended : SafetyKept s (s.onLamp l Lamp.trimEnded) := .lampUnit rfl (.of_eq rfl rfl rfl rfl)
  exact hended.trans (raiseCondition_safety ..)

theorem countTrim_safety (l : Side) (inBand : Bool) (s : State) : SafetyKept s (countTrim l inBand s) := by
  unfold countTrim
  dsimp only
  (repeat' split)
  · exact convergeTrim_safety ..
  · exact failTrim_safety ..
  · exact .lampUnit rfl (.of_eq rfl rfl rfl rfl)
  · exact .lampUnit rfl (.of_eq rfl rfl rfl rfl)
  · exact .refl s

theorem feedOnce_safety (l : Side) (volts amperes : Nat) (s : State) : SafetyKept s (feedOnce l volts amperes s) := by
  unfold feedOnce
  dsimp only
  refine SafetyKept.trans ?_ (.lampUnit (Lamp.fedOnce_state _) (Lamp.fedOnce_rodKept _))
  refine SafetyKept.trans ?_ (countTrim_safety ..)
  exact .lampUnit ((Lamp.countClamp_state _ _).trans rfl) (Lamp.countClamp_read_rodKept _ _ _ _)

theorem feedInterval_safety (l : Side) (volts amperes : Nat) (m : Moment) (s : State) :
    SafetyKept s (feedInterval l volts amperes m s) := by
  unfold feedInterval
  split
  · exact (feedOnce_safety ..).trans (.lampUnit rfl (.of_eq rfl rfl rfl rfl))
  · exact .refl s

theorem tickFeed_safety (l : Side) (volts amperes : Nat) (s : State) : SafetyKept s (tickFeed l volts amperes s) := by
  unfold tickFeed
  split
  · exact feedInterval_safety ..
  · exact .lampUnit rfl (.of_eq rfl rfl rfl rfl)

/-! ### Shutters, the link and the store (chapters 8 and 10) -/

/-- A shutter that was not UP takes what state it will. -/
theorem SafetyKept.shutterNotUp {q : Port} {g : Shutter → Shutter} (h : (s.fire.get q).state ≠ .up) :
    SafetyKept s (s.onShutter q g) := .onShutter fun hup => absurd hup h

theorem expireFall_safety (q : Port) (s : State) : SafetyKept s (expireFall q s) := by
  unfold expireFall
  split
  · rename_i h
    exact (SafetyKept.shutterNotUp (by simp [h.1])).trans (raiseCondition_safety ..)
  · exact .refl s

theorem expireRaise_safety (q : Port) (s : State) : SafetyKept s (expireRaise q s) := by
  unfold expireRaise
  split
  · rename_i h
    exact (SafetyKept.shutterNotUp (by simp [h.1])).trans (raiseCondition_safety ..)
  · exact .refl s

theorem tickShutter_safety (q : Port) (s : State) : SafetyKept s (tickShutter q s) := by
  unfold tickShutter
  (repeat' split)
  · exact expireFall_safety ..
  · exact expireRaise_safety ..
  · exact .onShutter id

theorem landed_safety (q : Port) (s : State) : SafetyKept s (s.onShutter q Shutter.landed) :=
  .onShutter fun h => by rw [Shutter.landed, h]; exact h

theorem caught_safety (q : Port) (s : State) : SafetyKept s (s.onShutter q Shutter.caught) :=
  .onShutter fun h => by rw [Shutter.caught, h]; exact h

/-- The latch that lets go takes what allowed its projector on the screen, and the projector off it (R144). -/
theorem loseLatch_safety (q : Port) (m : Moment) (s : State) : SafetyKept s (loseLatch q m s) := by
  unfold loseLatch
  split
  · refine SafetyKept.trans ?_ (raiseCondition_safety ..)
    have hsound (hs : s.ScreenSafe) : ScreenSound (·.port ≠ q) (s.onShutter q fun x => x.released m) := by
      refine ((screenSafe_iff s).1 hs).shrink (fun _ => id) (fun _ => id) fun p hp _ h => ?_
      obtain ⟨hlit, hup, hfire⟩ := (screenAllowed_iff s p).1 (h trivial)
      refine (screenAllowed_iff _ p).2 ⟨hlit, ?_, ?_⟩
      · rwa [State.onShutter_fire, FireUnit.get_set, if_neg (Ne.symm hp)]
      · rw [State.fireAllows, State.onShutter_fire, FireUnit.set_state]
        exact hfire
    have haccounts : AccountsKept s (s.onShutter q fun x => x.released m) :=
      ⟨Supports.safe (fun _ => id) rfl, fun _ => .refl _⟩
    generalize (s.onShutter q fun x => x.released m) = u at hsound haccounts ⊢
    by_cases hshow : ∃ p : Side, p.port = q ∧ u.onScreen p = true
    · obtain ⟨p, hport, hp⟩ := hshow
      rw [darkenPort_screen hport hp]
      refine ⟨haccounts.trans (darkenScreen_accounts p u), fun hs => darkenScreen_screen hp ((hsound hs).mono ?_)⟩
      intro k hk hkq
      rw [← hport] at hkq
      exact hk (by cases k <;> cases p <;> first | rfl | cases hkq)
    · have hoff (p : Side) (hport : p.port = q) : u.onScreen p = false :=
        Bool.eq_false_iff.2 fun hp => hshow ⟨p, hport, hp⟩
      rw [darkenPort_clear hoff]
      refine ⟨haccounts, fun hs => (screenSafe_iff u).2
        ⟨(hsound hs).equipped, (hsound hs).alone, fun p _ hp => (hsound hs).allowed p (fun hport => ?_) hp⟩⟩
      rw [hoff p hport] at hp
      cases hp
  · exact .refl s

/-- A change of the fire unit that leaves the shutters, and leaves the fire state or allows nobody before it. -/
theorem onFire_safety {g : FireUnit → FireUnit} (hshutter : ∀ q, (g s.fire).get q = s.fire.get q)
    (hfire : s.fireAllows = true → (s.onFire g).fireAllows = true) : SafetyKept s (s.onFire g) where
  screen hs := by
    refine (screenSafe_iff _).2 <| ((screenSafe_iff s).1 hs).shrink (fun _ => id) (fun _ => id) fun p _ _ h => ?_
    obtain ⟨hlit, hup, hallows⟩ := (screenAllowed_iff s p).1 (h trivial)
    exact (screenAllowed_iff _ p).2 ⟨hlit, by rw [State.onFire_fire, hshutter]; exact hup, hfire hallows⟩
  withholding := Supports.safe (fun _ => id) rfl
  rods _ := .refl _

theorem linkSensed_safety (k : FireLink) (s : State) : SafetyKept s (s.onFire fun u => { u with link := k }) :=
  onFire_safety (fun q => by cases q <;> rfl) id

/-- A fire state that allows nobody on the screen goes to any other. -/
theorem setFireState_safety {st : FireState} (h : s.fireAllows = false ∨ st = .clear ∨ st = .alert) :
    SafetyKept s (s.onFire fun u => { u with state := st }) := by
  refine onFire_safety (fun q => by cases q <;> rfl) fun hallows => ?_
  obtain h | rfl | rfl := h
  · rw [h] at hallows
    cases hallows
  · rfl
  · rfl

theorem fireAllows_dropped (h : s.fire.state = .dropped) : s.fireAllows = false := by
  rw [State.fireAllows, h]

theorem judgeLink_safety (s : State) : SafetyKept s (judgeLink s) := by
  unfold judgeLink
  split
  · rename_i h
    exact setFireState_safety (.inl (fireAllows_dropped h.1))
  · exact .refl s

theorem findLink_safety (s : State) : SafetyKept s (findLink s) := by
  unfold findLink
  split
  · exact linkSensed_safety .intact s
  · exact judgeLink_safety s

theorem openLink_safety (m : Moment) (s : State) : SafetyKept s (openLink m s) :=
  (linkSensed_safety .opened s).trans (dropFire_safety ..)

theorem finishSave_safety (s : State) : SafetyKept s (finishSave s) :=
  .of_eq (by simp) (by simp) (by simp) (by simp) (by simp) (by simp)

theorem tickSave_safety (s : State) : SafetyKept s (tickSave s) :=
  .of_eq (by simp) (by simp) (by simp) (by simp) (by simp) (by simp)

/-! ### The changeover sequencer (chapters 4 and 5) -/

theorem expireDouse_safety (l : Side) (s : State) : SafetyKept s (expireDouse l s) := by
  have hcancelled : SafetyKept s (s.onSeq fun q => { q with douse := q.douse.set l none }) := .onSeq id rfl
  unfold expireDouse
  dsimp only
  (repeat' split)
  · exact hcancelled
  · exact hcancelled.trans (extinguishLamp_safety ..)
  · exact .refl s

theorem tickDouse_safety (l : Side) (s : State) : SafetyKept s (tickDouse l s) := by
  unfold tickDouse
  split
  · exact expireDouse_safety ..
  · exact .onSeq id rfl

/-- The outgoing projector has left the screen for RUNOUT, the house fades, and its douse begins (R80 to R82). -/
theorem runout_safety (percent tenths : Nat) (m : Moment) (hp : s.onScreen p = true) :
    SafetyKept s (startDouse p m (automaticFade percent tenths (leaveScreen p .runout s))) := by
  refine ((leaveScreen_safety rfl (by decide) hp).trans (automaticFade_safety ..)).trans (startDouse_safety m ?_)
  have hkept : (automaticFade percent tenths (leaveScreen p .runout s)).onScreen p = (leaveScreen p .runout s).onScreen p := by
    simp [State.onScreen]
  exact hkept.trans (leaveScreen_onScreen (by decide) p s)

theorem missChangeover_safety (o : Side) (s : State) : SafetyKept s (missChangeover o s) := by
  unfold missChangeover
  dsimp only
  exact (SafetyKept.onSeq id rfl).trans (raiseCondition_safety ..)

theorem incomingReady_ready {i : Side} (h : s.incomingReady = some i) : s.ready i = true := by
  unfold State.incomingReady at h
  (repeat' split at h) <;> first | (cases h; done) | skip
  rename_i hready
  cases h
  exact hready.2

theorem takeEnding_safety (r : Reel) (m : Moment) (hp : s.onScreen p = true) : SafetyKept s (takeEnding p r m s) := by
  unfold takeEnding intermissionEnding lastReelEnding
  (repeat' split)
  · exact runout_safety _ _ m hp
  · exact (runout_safety _ _ m hp).trans (automationOff_safety _)
  · exact swapScreens_safety m (incomingReady_ready ‹_›) hp
  · exact missChangeover_safety p s

theorem reachSwapPoint_safety (m : Moment) (s : State) : SafetyKept s (reachSwapPoint m s) := by
  unfold reachSwapPoint
  split
  · rename_i o r ho hr
    split
    · exact .refl s
    · exact (SafetyKept.onSeq id rfl).trans (takeEnding_safety r m (outgoing_onScreen ho))
  · exact .refl s

theorem swapPointTest_safety (m : Moment) (s : State) : SafetyKept s (swapPointTest m s) := by
  unfold swapPointTest
  split
  · exact reachSwapPoint_safety m s
  · exact .refl s

theorem lateSwapTest_safety (m : Moment) (s : State) : SafetyKept s (lateSwapTest m s) := by
  unfold lateSwapTest
  (repeat' split)
  · rename_i o i ho hi
    exact swapScreens_safety m (incomingReady_ready hi) (outgoing_onScreen ho)
  · exact .refl s
  · exact .refl s

/-- The pair of a lead test: the outgoing projector on the screen, its record with neither flag, and the incoming record
bound (R74, R76). -/
theorem leadPair_eq_some {r : Reel} (h : s.leadPair = some (p, r)) :
    s.outgoing = some p ∧ s.incomingReel = some r ∧ s.reelBound r = true
      ∧ ∃ o, s.outgoingReel = some o ∧ o.intermission = false ∧ o.last = false := by
  unfold State.leadPair at h
  split at h
  · rename_i q o i hq ho hi
    split at h
    · rename_i hflags
      cases h
      exact ⟨hq, hi, hflags.2.2, o, ho, hflags.1, hflags.2.1⟩
    · cases h
  · cases h

theorem reelBound_iff (r : Reel) : s.reelBound r = true ↔ (s.boundReel r.projector).map Reel.number = some r.number :=
  decide_eq_true_iff

/-- A withholding is made where it stands. -/
theorem withholdStrike_safety {w : Withholding} (d : Detail) (h : w.stands s = true) :
    SafetyKept s (withholdStrike w d s) := by
  have hmade : SafetyKept s (s.onSeq fun q => { q with withholding := some w }) := by
    refine ⟨⟨fun _ v hv => ?_, fun _ => .refl _⟩, fun hs => hs⟩
    cases hv
    exact h
  unfold withholdStrike
  split
  · exact .refl s
  · exact hmade.trans (raiseCondition_safety ..)

theorem automaticStrike_safety (l : Side) (m : Moment) (s : State) : SafetyKept s (automaticStrike l m s) := by
  unfold automaticStrike
  split
  · rename_i h; exact beginStrike_safety m h.1
  · exact .refl s

theorem strikeIncoming_safety {o : Side} {r : Reel} (m : Moment) (ho : s.onScreen o = true)
    (hdark : (s.lamp.get r.projector).state = .dark) (hbound : s.reelBound r = true) (hon : s.seq.automation ≠ .off) :
    SafetyKept s (strikeIncoming o r m s) := by
  unfold strikeIncoming
  split
  · exact (automaticStrike_safety ..).trans (.onSeq id rfl)
  · refine withholdStrike_safety _ ((stands_iff _ s).2 ⟨hdark, (reelBound_iff r).1 hbound, hon, ?_, fun h => nomatch h⟩)
    rintro _ ⟨⟩
    exact ho

theorem raiseUnordered_safety (o : Side) (s : State) : SafetyKept s (raiseUnordered o s) := by
  unfold raiseUnordered
  split
  · exact .refl s
  · exact (SafetyKept.onSeq id rfl).trans (raiseCondition_safety ..)

theorem unawareTest_safety {o : Side} {lead : Nat} {act : State → State} (h : SafetyKept s (act s)) :
    SafetyKept s (unawareTest o lead act s) := by
  unfold unawareTest
  (repeat' split)
  · exact raiseUnordered_safety o s
  · exact h
  · exact .refl s

theorem strikeTest_safety (m : Moment) (s : State) : SafetyKept s (strikeTest m s) := by
  unfold strikeTest
  split
  · exact .refl s
  · rename_i o r hpair
    split
    · rename_i h
      obtain ⟨hengaged, hdark, -⟩ := h
      obtain ⟨ho, -, hbound, -⟩ := leadPair_eq_some hpair
      refine unawareTest_safety (strikeIncoming_safety m (outgoing_onScreen ho) hdark hbound ?_)
      rw [of_decide_eq_true hengaged]
      decide
    · exact .refl s

theorem startIncoming_safety (r : Reel) (m : Moment) (s : State) : SafetyKept s (startIncoming r m s) :=
  (askStart_safety ..).trans (.onSeq id rfl)

theorem motorTest_safety (m : Moment) (s : State) : SafetyKept s (motorTest m s) := by
  unfold motorTest
  split
  · exact .refl s
  · exact unawareTest_safety (startIncoming_safety ..)

theorem leadTests_safety (evaluated : Option Side) (s : State) : SafetyKept s (leadTests evaluated s) := by
  have hstrike : SafetyKept s (if s.outgoing = evaluated then strikeTest .atBoundary s else s) := by
    split
    · exact strikeTest_safety ..
    · exact .refl s
  unfold leadTests
  dsimp only
  generalize (if s.outgoing = evaluated then strikeTest .atBoundary s else s) = u at hstrike ⊢
  split
  · exact hstrike.trans (motorTest_safety ..)
  · exact hstrike

theorem sequencerTests_safety (s : State) : SafetyKept s (sequencerTests s) :=
  ((swapPointTest_safety .atBoundary s).trans (lateSwapTest_safety .atBoundary _)).trans (leadTests_safety _ _)

theorem starting_iff (p : Side) (s : State) :
    s.starting p = true ↔ s.seq.automation = .engaged ∧ (s.proj.get p).startPending = true := by
  simp [State.starting, State.engaged]

theorem showStartStrike_safety (p : Side) (m : Moment) (s : State) : SafetyKept s (showStartStrike p m s) := by
  unfold showStartStrike
  split
  · exact .refl s
  · rename_i r hr
    split
    · rename_i h
      obtain ⟨hstarting, hdark⟩ := h
      obtain ⟨hengaged, hpending⟩ := (starting_iff p s).1 hstarting
      split
      · exact automaticStrike_safety ..
      · refine withholdStrike_safety _ ((stands_iff _ s).2 ⟨hdark, ?_, ?_, fun _ hout => (nomatch hout), fun _ => hpending⟩)
        · rw [hr]
          rfl
        · rw [hengaged]
          decide
    · exact .refl s

theorem showStartFadeAndMotor_safety (p : Side) (m : Moment) (s : State) :
    SafetyKept s (showStartFadeAndMotor p m s) := by
  unfold showStartFadeAndMotor
  dsimp only
  split
  · exact ((automaticFade_safety ..).trans (.unit rfl rfl rfl rfl)).trans (askStart_safety ..)
  · exact .refl s

theorem showStartOpen_safety (p : Side) (s : State) : SafetyKept s (showStartOpen p s) := by
  unfold showStartOpen
  (repeat' split)
  · exact .refl s
  · rename_i h; exact enterScreen_safety h.2.2
  · exact .refl s

theorem showStartSteps_safety (p : Side) (s : State) : SafetyKept s (showStartSteps p s) :=
  ((showStartStrike_safety ..).trans (showStartFadeAndMotor_safety ..)).trans (showStartOpen_safety ..)

theorem takeHouseCue_safety (r : Reel) (c : HouseCue) (s : State) : SafetyKept s (takeHouseCue r c s) := by
  refine SafetyKept.trans (mapRecords_safety (fun y => ?_) (fun y => ?_) (fun y => ?_) s) (automaticFade_safety ..)
  all_goals split <;> rfl

theorem judgeHouseCue_safety (s : State) : SafetyKept s (judgeHouseCue s) := by
  unfold judgeHouseCue
  (repeat' split)
  all_goals first | exact takeHouseCue_safety .. | exact .refl s

theorem learnEnd_safety (p : Side) (s : State) : SafetyKept s (learnEnd p s) := by
  refine mapRecords_safety (fun y => ?_) (fun y => ?_) (fun y => ?_) s
  all_goals split <;> rfl

theorem setMarks_safety (p : Side) (n : Nat) (s : State) : SafetyKept s (setMarks p n s) := .unit rfl rfl rfl rfl

theorem applyMotorCue_safety (m : Moment) (s : State) : SafetyKept s (applyMotorCue m s) := by
  unfold applyMotorCue
  split
  · exact .refl s
  · exact startIncoming_safety ..

theorem countMotorCue_safety (p : Side) (m : Moment) (s : State) : SafetyKept s (countMotorCue p m s) := by
  unfold countMotorCue
  dsimp only
  split
  · exact (setMarks_safety ..).trans (applyMotorCue_safety ..)
  · exact setMarks_safety ..

theorem countChangeoverCue_safety (p : Side) (m : Moment) (s : State) : SafetyKept s (countChangeoverCue p m s) := by
  have hlearned := (setMarks_safety p 2 s).trans (learnEnd_safety p _)
  unfold countChangeoverCue
  dsimp only
  split
  · exact setMarks_safety ..
  · exact hlearned
  · exact hlearned.trans (reachSwapPoint_safety ..)

theorem judgeMark_safety (p : Side) (m : Moment) (s : State) : SafetyKept s (judgeMark p m s) := by
  unfold judgeMark
  (repeat' split)
  · exact raiseCondition_safety ..
  · exact countMotorCue_safety ..
  · exact countChangeoverCue_safety ..
  · exact .refl s

/-! ### A boundary (R1, R73) -/

theorem ownWork_safety (r : Readings) (s : State) : SafetyKept s (ownWork r s) := by
  unfold ownWork
  dsimp only
  refine SafetyKept.trans ?_ ((tickDouse_safety .a _).trans (tickDouse_safety .b _))
  refine SafetyKept.trans ?_ ((judgeLink_safety _).trans (tickSave_safety _))
  refine SafetyKept.trans ?_ ((tickShutter_safety .observation1 _).trans (tickShutter_safety .observation2 _))
  refine SafetyKept.trans ?_ ((tickShutter_safety .a _).trans (tickShutter_safety .b _))
  refine SafetyKept.trans ?_ ((tickFeed_safety .a ..).trans (tickFeed_safety .b ..))
  refine SafetyKept.trans ?_ ((arcWatch_safety .a ..).trans (arcWatch_safety .b ..))
  refine SafetyKept.trans ?_ ((gateWork_safety .a _).trans (gateWork_safety .b _))
  refine SafetyKept.trans ?_ ((lampWork_safety .a ..).trans (lampWork_safety .b ..))
  refine SafetyKept.trans ?_ ((projectorWork_safety .a _).trans (projectorWork_safety .b _))
  exact (SafetyKept.unit rfl rfl rfl rfl).trans (.unit rfl rfl rfl rfl)

theorem judgeWindow_safety (s : State) : SafetyKept s (judgeWindow s) := by
  unfold judgeWindow
  (repeat' split)
  · exact .refl s
  · exact .unit rfl rfl rfl rfl
  · exact .refl s

theorem countdownStep_safety (s : State) : SafetyKept s (countdownStep s) := by
  unfold countdownStep
  split <;> exact .onSeq id rfl

theorem evaluatedWork_safety (s : State) : SafetyKept s (evaluatedWork s) := by
  refine SafetyKept.trans ?_ (sequencerTests_safety _)
  refine SafetyKept.trans ?_ ((judgeWindow_safety _).trans (judgeHouseCue_safety _))
  exact (countdownStep_safety s).trans <| .of_eq (by simp) (by simp) (by simp) (by simp) (by simp) (by simp)

theorem boundary_safety (r : Readings) (s : State) : SafetyKept s (boundary r s) := by
  have hstepped : SafetyKept s (rampStep (ownWork r s)) :=
    (ownWork_safety r s).trans (.of_eq (by simp) (by simp) (by simp) (by simp) (by simp) (by simp))
  rw [boundary_eq]
  refine SafetyKept.trans ?_ ((showStartSteps_safety .a _).trans (showStartSteps_safety .b _))
  split
  · exact hstepped.trans (.of_eq (by simp) (by simp) (by simp) (by simp) (by simp) (by simp))
  · exact hstepped.trans (evaluatedWork_safety _)

/-- Every event of the booth but power-on and the line's own keeps it safe. -/
theorem exec_event_safety {c : Instr} (hr : requestOf c = none) (hl : isLineRow c = false) (he : exec c s = .next t) :
    SafetyKept s t := by
  cases c
  all_goals first | (cases hr; done) | (cases hl; done) | obtain rfl := Host.Outcome.next.inj he
  case saveTimerExpiry => exact finishSave_safety s
  case tachometerPulse => exact countPulse_safety ..
  case inchDone => exact endInch_safety ..
  case inchTimerExpiry => exact expireInch_safety ..
  case runUpDone => exact endRunUp_safety ..
  case runUpTimerExpiry => exact expireRunUp_safety ..
  case cueMark => exact judgeMark_safety ..
  case swapPoint => exact swapPointTest_safety ..
  case lateSwap => exact lateSwapTest_safety ..
  case strikeTest => exact strikeTest_safety ..
  case motorTest => exact motorTest_safety ..
  case showStartStrike => exact showStartStrike_safety ..
  case showStartFadeAndMotor => exact showStartFadeAndMotor_safety ..
  case showStartOpen => exact showStartOpen_safety ..
  case houseCueReached => exact judgeHouseCue_safety ..
  case douseTimerExpiry => exact expireDouse_safety ..
  case settlingTimerExpiry => exact expireSettling_safety ..
  case arcEstablished => exact judgeArc_safety ..
  case attemptTimerExpiry => exact expireAttempt_safety ..
  case waitTimerExpiry => exact expireWait_safety ..
  case warmTimerExpiry => exact expireWarm_safety ..
  case arcLoss => exact expireArc_safety ..
  case feedInterval => exact feedInterval_safety ..
  case highClampAdjust => split <;> first | exact .lampUnit rfl (.of_eq rfl rfl rfl rfl) | exact .refl s
  case lowClampAdjust => split <;> first | exact .lampUnit rfl (.of_eq rfl rfl rfl rfl) | exact .refl s
  case trimConverged => split <;> first | exact convergeTrim_safety .. | exact .refl s
  case trimFailed => split <;> first | exact failTrim_safety .. | exact .refl s
  case filmLossSwitch => exact moveFilmLoss_safety ..
  case gateThermalOpen => exact moveGate_safety ..
  case stallTrip => exact expireStall_safety ..
  case fireLinkOpen => exact openLink_safety ..
  case fireLinkIntact => exact findLink_safety s
  case shutterDownSwitch => exact landed_safety ..
  case fallTimerExpiry => exact expireFall_safety ..
  case shutterUpSwitch => exact caught_safety ..
  case raiseTimerExpiry => exact expireRaise_safety ..
  case shutterLatchLetGo => exact loseLatch_safety ..

end

end Sys2Proof.Machine
end

section
/-! The requests keep the booth safe: the screen, a withholding only while it stands, and the rods but for a new one. -/

namespace Sys2Proof.Machine

open Sys2Proof

section
variable {s t : State} {p l : Side}

/-! ### Values and settings (chapters 9 and 10) -/

theorem setModeWork_safety (t : Target) (mode : Nat) (s : State) : SafetyKept s (setModeWork t mode s).1 := by
  have hlight (c : Channel) : SafetyKept s (setLightMode c mode s).1 := by
    unfold setLightMode
    split
    · exact .of_eq rfl rfl rfl rfl id rfl
    · exact .of_eq rfl rfl rfl rfl id rfl
    · exact .refl s
  unfold setModeWork
  split
  · exact hlight .house
  · exact hlight .aisle
  · unfold setArcMode
    (repeat' split)
    · exact .refl s
    · exact .refl s
    · exact .refl s
    · rw [answerDone_fst]
      exact .lampUnit rfl (.of_eq rfl rfl rfl rfl)
  · exact .refl s

theorem setValueLightWork_safety (c : Channel) (level ramp : Nat) (s : State) :
    SafetyKept s (setValueLightWork c level ramp s).1 := by
  unfold setValueLightWork
  (repeat' split)
  · exact .refl s
  · exact giveTarget_safety ..
  · exact .refl s

theorem setTargetWork_safety (t : Target) (level ramp : Nat) (s : State) :
    SafetyKept s (setTargetWork t level ramp s).1 := by
  have hlight (c : Channel) : SafetyKept s (setTargetLight c level ramp s).1 := by
    unfold setTargetLight
    (repeat' split)
    · exact .refl s
    · exact .refl s
    · exact giveTarget_safety ..
  unfold setTargetWork
  split
  · exact hlight .house
  · exact hlight .aisle
  · exact .refl s

theorem setValueArcWork_safety (l : Side) (rate : Nat) (s : State) : SafetyKept s (setValueArcWork l rate s).1 := by
  unfold setValueArcWork
  dsimp only
  split
  · exact .of_eq rfl rfl rfl rfl id rfl
  · exact .refl s

/-- The neighbours of a changed setting bring a lamp's Iset within its range and lift the aisle (R119, R128). -/
theorem applySettings_safety (x : Settings) (s : State) : SafetyKept s (applySettings x s) := by
  have hiset (l : Side) (y : State) :
      SafetyKept y
        (if (x.lamp.get l).inom ≠ (s.store.working.lamp.get l).inom ∨ (x.lamp.get l).imin ≠ (s.store.working.lamp.get l).imin
          then y.onLamp l fun z => z.isetWithin (x.lamp.get l) else y) := by
    split
    · refine .lampUnit ?_ ?_ <;> unfold Lamp.isetWithin <;> split
      · rfl
      · rfl
      · exact .of_eq rfl rfl rfl rfl
      · exact .refl _
    · exact .refl y
  have hlamps := SafetyKept.trans (s := s) (t := s.onStore fun z => { z with working := x })
    (.of_eq rfl rfl rfl rfl id rfl) ((hiset .a _).trans (hiset .b _))
  unfold applySettings
  dsimp only
  split
  · exact hlamps.trans (.of_eq rfl rfl rfl rfl id rfl)
  · exact hlamps

theorem evaluateFormat_safety (s : State) : SafetyKept s (evaluateFormat s) := .of_eq rfl rfl rfl rfl id rfl

theorem changeSettingWork_safety (n value : Nat) (s : State) : SafetyKept s (changeSettingWork n value s).1 := by
  unfold changeSettingWork
  dsimp only
  (repeat' split) <;> try rw [settingReply_fst]
  · exact .refl s
  · exact .refl s
  · exact (applySettings_safety ..).trans (evaluateFormat_safety _)
  · exact applySettings_safety ..

theorem loadPresetWork_safety (n : Nat) (s : State) : SafetyKept s (loadPresetWork n s).1 := by
  unfold loadPresetWork
  dsimp only
  (repeat' split)
  · exact .refl s
  · exact .refl s
  · exact .refl s
  · rw [answerDone_fst]
    exact (applySettings_safety ..).trans (.of_eq rfl rfl rfl rfl id rfl)

/-! ### Projectors and lamps (chapters 4 and 6) -/

theorem onArc_safety {work : Side → State → Judged} (h : ∀ l, SafetyKept s (work l s).1) (t : Target) :
    SafetyKept s (onArc t work s).1 := onArc_keeps h (.refl s) t

theorem onProjector_safety {work : Side → State → Judged} (h : ∀ p, SafetyKept s (work p s).1) (t : Target) :
    SafetyKept s (onProjector t work s).1 := onProjector_keeps h (.refl s) t

theorem strikeAllowed_iff (s : State) (l : Side) :
    s.strikeAllowed l = true ↔ (s.lamp.get l).state = .dark ∧ s.fireAllows = true ∧ 0 < (s.lamp.get l).stock := by
  simp [State.strikeAllowed, and_assoc]

theorem strikeWork_safety (l : Side) (s : State) : SafetyKept s (strikeWork l s).1 := by
  unfold strikeWork
  split
  · rename_i h; exact beginStrike_safety .between ((strikeAllowed_iff s l).1 h).1
  · exact .refl s

/-- A projector threaded, or with its reel taken off, and the withholding settled (R61). -/
theorem threading_safety {g : Projector → Projector} (hdowser : (g (s.proj.get p)).dowserOpen = (s.proj.get p).dowserOpen)
    (hmotor : (g (s.proj.get p)).motorRunning = (s.proj.get p).motorRunning)
    (hbefore : (s.proj.get p).state ≠ .onScreen ∧ (s.proj.get p).state.moving = false)
    (hafter : (g (s.proj.get p)).state ≠ .onScreen ∧ (g (s.proj.get p)).state.moving = false)
    (hproj : t.proj = (s.onProj p g).proj) (hlamp : t.lamp = s.lamp) (hfire : t.fire = s.fire) :
    SafetyKept s (settleWithholding t) := by
  refine .settled (fun hs => ?_) fun l => by rw [hlamp]; exact .refl _
  obtain ⟨hdark, hstill⟩ := ((screenSafe_iff s).1 hs).equipped p
  refine onProj_off_screen ⟨?_, ?_⟩ hafter.1 hproj hlamp hfire hs
  · rw [hdowser, hdark, decide_eq_false hbefore.1, decide_eq_false hafter.1]
  · rw [hmotor, hstill, hbefore.2, hafter.2]

theorem loadWork_safety (reel f0 : Nat) (p : Side) (s : State) : SafetyKept s (loadWork reel f0 p s).1 := by
  unfold loadWork
  (repeat' split)
  · exact .refl s
  · exact .refl s
  · rename_i hallowed
    obtain ⟨hidle, -⟩ := loadAllowed_iff.1 hallowed
    exact threading_safety (g := fun x => x.threaded f0) rfl rfl (by rw [hidle]; decide)
      ⟨ProjectorState.noConfusion, rfl⟩ rfl rfl rfl
  · exact .refl s

theorem unloadWork_safety (p : Side) (s : State) : SafetyKept s (unloadWork p s).1 := by
  have hunloaded {t : State} (hbefore : (s.proj.get p).state ≠ .onScreen ∧ (s.proj.get p).state.moving = false)
      (hproj : t.proj = (s.onProj p Projector.unloaded).proj) (hlamp : t.lamp = s.lamp) (hfire : t.fire = s.fire) :
      SafetyKept s (settleWithholding t) :=
    threading_safety (g := Projector.unloaded) rfl rfl hbefore ⟨ProjectorState.noConfusion, rfl⟩ hproj hlamp hfire
  unfold unloadWork
  split
  · rename_i h; exact hunloaded (by rw [h]; decide) rfl rfl rfl
  · rename_i h; exact hunloaded (by rw [h]; decide) rfl rfl rfl
  · rename_i h; exact hunloaded (by rw [h]; decide) rfl rfl rfl
  · exact .refl s

theorem inchWork_safety (frames : Nat) (p : Side) (s : State) : SafetyKept s (inchWork frames p s).1 := by
  unfold inchWork
  (repeat' split)
  · exact .refl s
  · rename_i h
    exact .onProj (g := fun x => x.inching frames .between)
      (fun ⟨hdowser, _⟩ => ⟨hdowser.trans (by rw [h.1]; rfl), rfl⟩) (by simp [Projector.inching, h.1]) id
  · exact .refl s

theorem startWork_safety (p : Side) (s : State) : SafetyKept s (startWork p s).1 := by
  unfold startWork
  split
  · exact startMotor_safety .between (startAllowed_state ‹_›)
  · exact .refl s

theorem stopWork_safety (p : Side) (s : State) : SafetyKept s (stopWork p s).1 := by
  unfold stopWork
  (repeat' split)
  · exact stopProjector_safety p s
  · exact clearStart_safety p s
  · exact .refl s

theorem openWork_safety (p : Side) (s : State) : SafetyKept s (openWork p s).1 := by
  unfold openWork
  split
  · exact enterScreen_safety ‹_›
  · exact .refl s

theorem swapWork_safety (p : Side) (s : State) : SafetyKept s (swapWork p s).1 := by
  unfold swapWork
  split
  · rename_i h; exact swapScreens_safety .between h.1 h.2
  · exact .refl s

/-! ### The reel list (chapter 3) -/

/-- An edit that changes no bound record while automation is not OFF. -/
theorem commitEdit_safety {records : List Reel}
    (h : s.seq.automation ≠ .off → ∀ p, (boundTo records p).map Reel.number = (s.boundReel p).map Reel.number) :
    SafetyKept s (commitEdit records s).1 := by
  by_cases hcommits : s.seq.automation = .off ∨ (formatCheck s.store.working records).1 = 0
  · rw [commitEdit_done hcommits]
    exact .of_proj (fun _ => id) (fun _ => rfl) (fun _ => id) h rfl rfl id rfl
  · obtain ⟨hauto, hcode⟩ := not_or.1 hcommits
    rw [commitEdit_refused hauto hcode]
    exact .refl s

/-- An edit taken while automation is OFF, when no withholding stands. -/
theorem commitEdit_safety_of_off (records : List Reel) (h : s.seq.automation = .off) :
    SafetyKept s (commitEdit records s).1 := commitEdit_safety fun hon => absurd h hon

theorem boundTo_middle_of_free {r : Reel} (h : r.isBound = false) (front back : List Reel) (p : Side) :
    boundTo (front ++ r :: back) p = boundTo (front ++ back) p := by
  simp [boundTo, List.find?_append, h]

theorem addWork_safety (x : ReelEntry) (s : State) : SafetyKept s (addWork x s).1 := by
  unfold addWork
  (repeat' split)
  · exact .refl s
  · exact .refl s
  · refine commitEdit_safety fun _ p => ?_
    rw [boundTo_middle_of_free rfl, List.append_nil]
    rfl

theorem insertWork_safety (before : Nat) (x : ReelEntry) (s : State) : SafetyKept s (insertWork before x s).1 := by
  unfold insertWork
  (repeat' split)
  · exact .refl s
  · exact .refl s
  · exact .refl s
  · exact .refl s
  · rename_i hoff _
    exact commitEdit_safety_of_off _ (not_not.1 hoff)

theorem removeWork_safety (reel : Nat) (s : State) : SafetyKept s (removeWork reel s).1 := by
  unfold removeWork
  (repeat' split)
  · exact .refl s
  · exact .refl s
  · rename_i hoff
    exact commitEdit_safety_of_off _ (not_not.1 (not_or.1 hoff).1)

theorem reelCueWork_safety (reel action point level ramp : Nat) (s : State) :
    SafetyKept s (reelCueWork reel action point level ramp s).1 := by
  unfold reelCueWork
  (repeat' split)
  · exact .refl s
  · exact .refl s
  · exact .refl s
  · refine commitEdit_safety fun _ p => boundTo_map_number (fun r => ?_) (fun r => ?_) (fun r => ?_) _ p
    all_goals split <;> rfl

theorem clearListWork_safety (s : State) : SafetyKept s (clearListWork s).1 := by
  unfold clearListWork
  split
  · exact commitEdit_safety_of_off _ (listFree_iff.1 ‹_›).1
  · exact .refl s

theorem repeatShowWork_safety (s : State) : SafetyKept s (repeatShowWork s).1 := by
  unfold repeatShowWork
  split
  · exact commitEdit_safety_of_off _ (listFree_iff.1 ‹_›).1
  · exact .refl s

/-- The record skipped was WAITING, and in a list of distinct numbers no other has its number (R53). -/
theorem skipReelWork_safety (reel : Nat) (hsound : SoundList s.reels.records) : SafetyKept s (skipReelWork reel s).1 := by
  unfold skipReelWork
  split
  · exact .refl s
  · rename_i r hnamed
    split
    · exact .refl s
    · rename_i hst
      obtain ⟨rfl, front, back, hrecords, halone⟩ := hsound.split (findReel_of_namedReel hnamed)
      refine commitEdit_safety fun _ p => ?_
      have hfree : r.isBound = false := by rw [Reel.isBound_eq, not_not.1 hst]; rfl
      rw [State.boundReel, hrecords, map_at_number halone, boundTo_middle_of_free rfl, boundTo_middle_of_free hfree]

/-! ### Automation, the fire unit and the console (chapters 4, 8 and 11) -/

theorem engageWork_safety (s : State) : SafetyKept s (engageWork s).1 := by
  unfold engageWork
  (repeat' split)
  · exact .refl s
  · exact .refl s
  · exact .refl s
  · rw [answerDone_fst]
    exact .onSeq (fun _ => Automation.noConfusion) rfl

theorem resumeWork_safety (s : State) : SafetyKept s (resumeWork s).1 := by
  unfold resumeWork
  split
  · rw [answerDone_fst]
    exact .onSeq (fun _ => Automation.noConfusion) rfl
  · exact .refl s

theorem disengageWork_safety (s : State) : SafetyKept s (disengageWork s).1 := by
  unfold disengageWork
  split
  · exact .refl s
  · exact automationOff_safety s

theorem startShowWork_safety (s : State) : SafetyKept s (startShowWork s).1 := by
  unfold startShowWork
  (repeat' split)
  · exact .refl s
  · rw [answerDone_fst]
    exact .onProj id Iff.rfl fun _ => rfl
  · exact .refl s

theorem emergencyStopped_safe {x : Projector} (h : x.Equipped) :
    x.emergencyStopped.Equipped ∧ x.emergencyStopped.state ≠ .onScreen := fireStopped_safe h

theorem stopAllWork_safety (s : State) : SafetyKept s (stopAllWork s).1 := by
  have hstopped : SafetyKept s (settleWithholding
      ((stopBoth s).onSeq fun q => { q with automation := q.automation.halt })) := by
    refine .settled (fun hs => ?_) fun l => by simpa using Lamp.RodKept.refl _
    have hequipped := ((screenSafe_iff s).1 hs).equipped
    refine screenSafe_of_off (fun p => ?_) fun p => ?_
    · rw [State.onSeq_proj, stopBoth_proj]
      exact (emergencyStopped_safe (hequipped p)).1
    · rw [onScreen_eq_false_iff, State.onSeq_proj, stopBoth_proj]
      exact (emergencyStopped_safe (hequipped p)).2
  unfold stopAllWork
  dsimp only
  split
  · exact hstopped.trans (.of_eq rfl rfl rfl rfl id rfl)
  · exact hstopped

theorem Lamp.generalReset_rodKept (x : Lamp) : x.RodKept x.generalReset := .of_eq rfl rfl rfl rfl

/-- A booth whose projectors are all as at power-on. -/
theorem screenSafe_of_powerOn (h : ∀ p, (s.proj.get p).state = .idle ∧ (s.proj.get p).dowserOpen = false
    ∧ (s.proj.get p).motorRunning = false) : s.ScreenSafe := by
  refine screenSafe_of_off (fun p => ?_) fun p => ?_
  · obtain ⟨hidle, hdowser, hmotor⟩ := h p
    rw [Projector.Equipped, hidle, hdowser, hmotor]
    exact ⟨rfl, rfl⟩
  · rw [onScreen_eq_false_iff, (h p).1]
    decide

theorem generalResetWork_safety (s : State) : SafetyKept s (generalResetWork s).1 := by
  unfold generalResetWork
  (repeat' split)
  · exact .refl s
  · exact .refl s
  · refine ⟨⟨fun _ => withholdingSafe_none rfl, fun l => ?_⟩, fun _ => screenSafe_of_powerOn fun p => ?_⟩
    · cases l <;> exact Lamp.generalReset_rodKept _
    · cases p <;> exact ⟨rfl, rfl, rfl⟩

theorem alertWork_safety (n : Station) (s : State) : SafetyKept s (alertWork n s).1 := by
  unfold alertWork
  split
  · exact (setFireState_safety (.inr (.inr rfl))).trans (raiseCondition_safety ..)
  · exact .refl s
  · exact .refl s

theorem fireClearWork_safety (s : State) : SafetyKept s (fireClearWork s).1 := by
  unfold fireClearWork
  (repeat' split)
  · exact setFireState_safety (.inr (.inl rfl))
  · exact setFireState_safety (.inl (by simp [State.fireAllows, *]))
  · exact .refl s
  · exact .refl s

theorem fireAckWork_safety (s : State) : SafetyKept s (fireAckWork s).1 := by
  unfold fireAckWork
  split
  · exact setFireState_safety (.inr (.inl rfl))
  · exact .refl s

theorem raiseWork_safety (port : Nat) (s : State) : SafetyKept s (raiseWork port s).1 := by
  unfold raiseWork
  (repeat' split)
  · exact .refl s
  · rename_i h
    rw [answerDone_fst]
    exact .shutterNotUp (by rw [h.2.2]; decide)
  · exact .refl s

/-! ### Every request -/

/-- The rows that put a new rod in a lamp, or skip a record. -/
def isRodOrSkipRow : Instr → Bool
  | .newRod .. | .skipReel .. => true
  | _ => false

/-- Every other request keeps the booth safe, whatever the list. -/
theorem rowWork_safety {c : Instr} (h : isRodOrSkipRow c = false) (s : State) : SafetyKept s (rowWork c s).1 := by
  have hkept {t : State} (hproj : t.proj = s.proj) (hreels : t.reels = s.reels) (hlamp : t.lamp = s.lamp)
      (hfire : t.fire = s.fire) (hseq : t.seq = s.seq) : SafetyKept s t :=
    .of_eq hproj (by rw [hreels]) hlamp hfire (by rw [hseq]; exact id) (by rw [hseq])
  cases c
  case newRod | skipReel => nomatch h
  case setMode => exact setModeWork_safety ..
  case setValueHouse => exact setValueLightWork_safety ..
  case setValueArc => exact setValueArcWork_safety ..
  case setValueSetting =>
    change SafetyKept s (setValueSettingWork _ _ s).1
    unfold setValueSettingWork
    split
    · exact setValueArcWork_safety ..
    · exact changeSettingWork_safety ..
  case setTarget => exact setTargetWork_safety ..
  case strike => exact onArc_safety (fun l => strikeWork_safety l s) _
  case extinguish => exact onArc_safety (fun l => extinguishLamp_safety l s) _
  case load => exact onProjector_safety (fun p => loadWork_safety _ _ p s) _
  case unload => exact onProjector_safety (fun p => unloadWork_safety p s) _
  case inch => exact onProjector_safety (fun p => inchWork_safety _ p s) _
  case start => exact onProjector_safety (fun p => startWork_safety p s) _
  case stop => exact onProjector_safety (fun p => stopWork_safety p s) _
  case openDowser => exact onProjector_safety (fun p => openWork_safety p s) _
  case swap => exact onProjector_safety (fun p => swapWork_safety p s) _
  case add => exact addWork_safety _ s
  case insert => exact insertWork_safety _ _ s
  case remove => exact removeWork_safety _ s
  case reelCue => exact reelCueWork_safety _ _ _ _ _ s
  case clearList => exact clearListWork_safety s
  case repeatShow => exact repeatShowWork_safety s
  case engage => exact engageWork_safety s
  case disengage => exact disengageWork_safety s
  case startShow => exact startShowWork_safety s
  case resume => exact resumeWork_safety s
  case generalReset => exact generalResetWork_safety s
  case stopAll => exact stopAllWork_safety s
  case alert n _ => exact alertWork_safety n s
  case fireClear => exact fireClearWork_safety s
  case drop => exact dropFire_safety ..
  case fireAck => exact fireAckWork_safety s
  case raise => exact raiseWork_safety _ s
  case loadPreset => exact loadPresetWork_safety _ s
  case inquire =>
    change SafetyKept s (inquireWork _ _ s).1
    unfold inquireWork
    split <;> exact .refl s
  case read =>
    change SafetyKept s (readWork _ _ s).1
    unfold readWork
    split <;> exact .refl s
  case readReel =>
    change SafetyKept s (readReelWork _ s).1
    unfold readReelWork
    split <;> exact .refl s
  case readConditions =>
    change SafetyKept s (readConditionsWork _ _ s).1
    unfold readConditionsWork
    (repeat' split) <;> exact .refl s
  case clearConditions =>
    change SafetyKept s (clearConditionsWork _ s).1
    unfold clearConditionsWork
    (repeat' split) <;> exact hkept rfl rfl rfl rfl rfl
  case lockStation =>
    change SafetyKept s (lockWork _ s).1
    unfold lockWork
    (repeat' split) <;> exact hkept rfl rfl rfl rfl rfl
  case unlockStation =>
    change SafetyKept s (unlockWork _ s).1
    unfold unlockWork
    (repeat' split) <;> exact hkept rfl rfl rfl rfl rfl
  case savePreset =>
    change SafetyKept s (savePresetWork _ s).1
    unfold savePresetWork
    (repeat' split) <;> exact hkept rfl rfl rfl rfl rfl
  all_goals exact .refl s

end

end Sys2Proof.Machine
end

section
/-! Every step keeps the screen safe, the rods whole and a withholding only while it stands (R59, R66, R75, R116, R117,
R122). -/

namespace Sys2Proof.Machine

open Sys2Proof

section
variable {s t : State} {l : Side}

/-! ### A new rod and a skipped record (R122, R53) -/

theorem Lamp.withRod_sound (x : Lamp) {length : Nat} (h : ¬(length < 50 ∨ 600 < length)) :
    (x.withRod length).RodSound := by
  obtain ⟨hleast, hmost⟩ := not_or.1 h
  refine ⟨?_, ?_, ?_, fun hvalid => (nomatch hvalid)⟩ <;> simp only [Lamp.withRod] <;> omega

/-- A new rod is sound, and is put in a DARK lamp, whose projector a safe screen does not show. -/
theorem newRodWork_keeps (length : Nat) (l : Side) (s : State) :
    (s.ScreenSafe → (newRodWork length l s).1.ScreenSafe) ∧ (s.WithholdingSafe → (newRodWork length l s).1.WithholdingSafe)
      ∧ ((∀ k, (s.lamp.get k).RodSound) → ∀ k, ((newRodWork length l s).1.lamp.get k).RodSound) := by
  unfold newRodWork
  (repeat' split)
  · exact ⟨id, id, id⟩
  · rename_i hlength _
    rw [answerDone_fst]
    refine ⟨SafetyKept.onLamp_screen id, ?_, fun hs => ?_⟩
    · refine Supports.safe (.of_parts ?_ (fun _ _ => rfl) id (fun _ => id) fun _ => id) rfl
      exact Both.forall_set (P := fun q (y : Lamp) => (s.lamp.get q).state = .dark → y.state = .dark) id fun _ => id
    · exact Both.forall_set (P := fun _ => Lamp.RodSound) (Lamp.withRod_sound _ hlength) hs
  · exact ⟨id, id, id⟩

theorem skipReelWork_screen (reel : Nat) (hs : s.ScreenSafe) : (skipReelWork reel s).1.ScreenSafe := by
  unfold skipReelWork commitEdit
  dsimp only
  (repeat' split) <;> exact hs

theorem skipReelWork_lamp (reel : Nat) (s : State) : (skipReelWork reel s).1.lamp = s.lamp := by
  unfold skipReelWork commitEdit
  dsimp only
  (repeat' split) <;> rfl

/-! ### What every request keeps -/

theorem rowWork_screenSafe (c : Instr) (hs : s.ScreenSafe) : (rowWork c s).1.ScreenSafe := by
  cases h : isRodOrSkipRow c with
  | false => exact (rowWork_safety h s).screen hs
  | true =>
    cases c
    case newRod => exact onArc_keeps (P := State.ScreenSafe) (fun l => (newRodWork_keeps _ l s).1 hs) hs _
    case skipReel => exact skipReelWork_screen _ hs
    all_goals nomatch h

theorem rowWork_withholdingSafe (c : Instr) (hlist : s.ListSafe) (hs : s.WithholdingSafe) :
    (rowWork c s).1.WithholdingSafe := by
  cases h : isRodOrSkipRow c with
  | false => exact (rowWork_safety h s).withholding hs
  | true =>
    cases c
    case newRod => exact onArc_keeps (P := State.WithholdingSafe) (fun l => (newRodWork_keeps _ l s).2.1 hs) hs _
    case skipReel => exact (skipReelWork_safety _ ((listSafe_iff s).1 hlist).1).withholding hs
    all_goals nomatch h

theorem rowWork_rodsSound (c : Instr) (hs : ∀ k, (s.lamp.get k).RodSound) :
    ∀ k, ((rowWork c s).1.lamp.get k).RodSound := by
  cases h : isRodOrSkipRow c with
  | false => exact fun k => ((rowWork_safety h s).rods k).sound (hs k)
  | true =>
    cases c
    case newRod =>
      exact onArc_keeps (P := fun u => ∀ k, (u.lamp.get k).RodSound) (fun l => (newRodWork_keeps _ l s).2.2 hs) hs _
    case skipReel _ _ reel =>
      intro k
      change ((skipReelWork reel s).1.lamp.get k).RodSound
      rw [skipReelWork_lamp]
      exact hs k
    all_goals nomatch h

/-! ### The invariants -/

theorem powerUp_safe (x : PowerOnSensed) (s : State) :
    (powerUp x s).ScreenSafe ∧ (powerUp x s).WithholdingSafe ∧ ∀ k, ((powerUp x s).lamp.get k).RodSound := by
  rw [powerUp_eq]
  refine ⟨screenSafe_of_powerOn fun p => ?_, withholdingSafe_none rfl, fun k => ?_⟩
  · cases p <;> exact ⟨rfl, rfl, rfl⟩
  · cases k <;> exact (by decide : Lamp.powerOn.RodSound)

theorem keptByBooth_screenSafe : KeptByBooth State.ScreenSafe where
  line h hs := by rw [h]; exact hs
  raise k d _ hs := (raiseCondition_safety k d _).screen hs
  work c _ hs := rowWork_screenSafe c hs
  event hr hl he hs := (exec_event_safety hr hl he).screen hs
  boundary r _ hs := (boundary_safety r _).screen hs
  powerUp x s _ := (powerUp_safe x s).1

theorem keptByBooth_withholdingSafe : KeptByBooth fun s => s.ListSafe ∧ s.WithholdingSafe where
  line h hs := by rw [h]; exact hs
  raise k d _ hs := ⟨keptByBooth_listSafe.raise k d hs.1, (raiseCondition_safety k d _).withholding hs.2⟩
  work c _ hs := ⟨rowWork_listSafe c hs.1, rowWork_withholdingSafe c hs.1 hs.2⟩
  event hr hl he hs := ⟨keptByBooth_listSafe.event hr hl he hs.1, (exec_event_safety hr hl he).withholding hs.2⟩
  boundary r _ hs := ⟨keptByBooth_listSafe.boundary r hs.1, (boundary_safety r _).withholding hs.2⟩
  powerUp x s hs := ⟨keptByBooth_listSafe.powerUp x hs.1, (powerUp_safe x s).2.1⟩

theorem keptByBooth_rodsSound : KeptByBooth fun s => ∀ k, (s.lamp.get k).RodSound where
  line h hs := by rw [h]; exact hs
  raise k d _ hs l := ((raiseCondition_safety k d _).rods l).sound (hs l)
  work c _ hs := rowWork_rodsSound c hs
  event hr hl he hs l := ((exec_event_safety hr hl he).rods l).sound (hs l)
  boundary r _ hs l := ((boundary_safety r _).rods l).sound (hs l)
  powerUp x s _ := (powerUp_safe x s).2.2

theorem rodSafe_iff (s : State) : s.RodSafe ↔ ∀ k, (s.lamp.get k).RodSound :=
  ⟨fun ⟨ha, hb⟩ k => by cases k <;> assumption, fun h => ⟨h .a, h .b⟩⟩

/-- Settles O54: whoever comes ON_SCREEN is ready on an empty screen, and whatever takes from a projector what allows it
there takes it off. -/
theorem stepKeepsScreenSafe : Obligations.StepKeepsScreenSafe := by
  unfold Obligations.StepKeepsScreenSafe
  exact fun _ _ hs hstep => keptByBooth_screenSafe.step hs hstep

/-! ### The rod of one lamp over a step -/

/-- The rod of a lamp, in stock and fed (R116). -/
def State.wholeRod (s : State) (l : Side) : Nat := (s.lamp.get l).stock + (s.lamp.get l).fed

theorem State.wholeRod_congr (h : t.lamp = s.lamp) : t.wholeRod l = s.wholeRod l := by
  rw [State.wholeRod, State.wholeRod, h]

theorem SafetyKept.wholeRod (h : SafetyKept s t) (l : Side) : t.wholeRod l = s.wholeRod l := (h.rods l).sum

theorem loseForStation_wholeRod (n : Station) (s : State) (l : Side) : (loseForStation n s).wholeRod l = s.wholeRod l :=
  State.wholeRod_congr (by simp [loseForStation])

theorem queuePriorityAnswer_wholeRod (n : Station) (kind : Nat) (x : Judged) (l : Side) :
    (queuePriorityAnswer n kind x).wholeRod l = x.1.wholeRod l := by
  unfold queuePriorityAnswer
  split
  · rfl
  · exact loseForStation_wholeRod ..

theorem judge_wholeRod {work : State → Judged} (h : (work s).1.wholeRod l = s.wholeRod l) (n : Station) (k : Kind)
    (t : Target) : (judge n k t work s).1.wholeRod l = s.wholeRod l := by
  unfold judge
  (repeat' split) <;> first | exact h | rfl

/-- Only NEW ROD for a lamp puts another rod in it (R122). -/
theorem rowWork_wholeRod {c : Instr} (h : ∀ n length, c ≠ .newRod n (.arc l) length) (s : State) :
    (rowWork c s).1.wholeRod l = s.wholeRod l := by
  cases hrow : isRodOrSkipRow c with
  | false => exact (rowWork_safety hrow s).wholeRod l
  | true =>
    cases c
    case newRod n target length =>
      change (onArc target (newRodWork length) s).1.wholeRod l = _
      unfold onArc
      split
      · rename_i k
        have hne : k ≠ l := fun hk => h n length (by rw [hk])
        unfold newRodWork
        (repeat' split)
        · rfl
        · simp [State.wholeRod, Both.get_set_ne _ _ hne]
        · rfl
      · rfl
    case skipReel => exact State.wholeRod_congr (skipReelWork_lamp _ s)
    all_goals nomatch hrow

theorem takeAs_wholeRod {work : State → Judged} {n : Station} {k : Kind} {target : Target}
    (hwork : (work s).1.wholeRod l = s.wholeRod l) (h : takeAs n k target work s = .next t) :
    t.wholeRod l = s.wholeRod l := by
  have hjudged := judge_wholeRod hwork n k target
  unfold takeAs takePriority takeRequest at h
  split at h <;> injection h with h <;> subst h <;> split
  · rfl
  · exact (queuePriorityAnswer_wholeRod ..).trans hjudged
  · exact hjudged
  · rfl

theorem kind_of_commandOf_newRod {n m : Station} {k : Kind} {target target' : Target} {d : List Nat} {length : Nat}
    (h : commandOf n k target d = some (.newRod m target' length)) : k = .newRod := by
  cases k
  case newRod => rfl
  case setValue => cases target <;> cases h
  all_goals cases h

/-- An entry of another kind than NEW ROD keeps the rod, as a BAD one does. -/
theorem handleEntry_wholeRod {e : Entry} (h : e.bad = true ∨ e.kind ≠ 18) (n : Station) (s : State) (l : Side) :
    (handleEntry n e s).1.wholeRod l = s.wholeRod l := by
  by_cases hbad : e.bad = true
  · rw [handleEntry_bad hbad]; rfl
  · have hgood : e.bad = false := Bool.eq_false_iff.2 hbad
    cases hk : Kind.ofCode e.kind with
    | none => rw [handleEntry_unknown hgood hk]; rfl
    | some k =>
      rw [handleEntry_kind hgood hk]
      have hcode : k.code ≠ 18 := fun h18 => h.resolve_left hbad ((kind_ofCode_code hk).symm.trans h18)
      refine judge_wholeRod ?_ n k _
      obtain ⟨c, hc, hwork⟩ | hwork := workOf_eq_rowWork n k (Target.ofCode e.target) e.data <;> rw [hwork]
      · refine rowWork_wholeRod (fun m length hrod => hcode ?_) s
        subst hrod
        exact congrArg Kind.code (kind_of_commandOf_newRod hc)
      · rfl

theorem arrive_wholeRod (e : Entry) (s : State) (l : Side) : (arrive e s).wholeRod l = s.wholeRod l := by
  unfold arrive joinQueue
  dsimp only
  (repeat' split)
  · rfl
  · exact State.wholeRod_congr (by simp)
  · rfl
  · exact loseForStation_wholeRod ..

theorem takeNext_wholeRod
    (h : ∀ n e rest, s.nextStation = some n → s.line.stations[n].queue = e :: rest → e.bad = true ∨ e.kind ≠ 18) (l : Side) :
    (takeNext s).wholeRod l = s.wholeRod l := by
  unfold takeNext
  split
  · split
    · rfl
    · rename_i n hn
      split
      · rfl
      · rename_i e rest hqueue
        rw [takeFrom_eq]
        exact handleEntry_wholeRod (h n e rest hn hqueue) n (s.withoutHead n rest) l
  · rfl

theorem takePriorityNext_wholeRod (h : ∀ e rest, s.line.lane = e :: rest → e.bad = true ∨ e.kind ≠ 18) (l : Side) :
    (takePriorityNext s).wholeRod l = s.wholeRod l := by
  unfold takePriorityNext
  split
  · rfl
  · rename_i e rest hlane
    rw [queuePriorityAnswer_wholeRod]
    exact handleEntry_wholeRod (h e rest hlane) _ _ l

/-- The commands that may put another rod in a lamp: POWER_ON, NEW ROD, and the taking of an entry of that kind. -/
structure RodCalm (c : Instr) (l : Side) (s : State) : Prop where
  power : ∀ x, c ≠ .powerOn x
  row : ∀ n length, c ≠ .newRod n (.arc l) length
  entry : c = .takeEntry →
    ∀ n e rest, s.nextStation = some n → s.line.stations[n].queue = e :: rest → e.bad = true ∨ e.kind ≠ 18
  lane : c = .takePriorityEntry → ∀ e rest, s.line.lane = e :: rest → e.bad = true ∨ e.kind ≠ 18

theorem exec_line_wholeRod {c : Instr} (hline : isLineRow c = true) (h : RodCalm c l s) (he : exec c s = .next t) :
    t.wholeRod l = s.wholeRod l := by
  cases c
  case powerOn x => exact absurd rfl (h.power x)
  case linePeriodBoundary r => exact Host.Outcome.next.inj he ▸ (boundary_safety r s).wholeRod l
  case requestSlot =>
    obtain rfl := Host.Outcome.next.inj he
    split
    · rfl
    · exact arrive_wholeRod ..
  case lineBreak =>
    obtain rfl := Host.Outcome.next.inj he
    unfold breakLine
    split
    · rfl
    · exact State.wholeRod_congr (by simp)
  case lineBreakEnd => exact Host.Outcome.next.inj he ▸ rfl
  case takeEntry => exact Host.Outcome.next.inj he ▸ takeNext_wholeRod (h.entry rfl) l
  case takePriorityEntry => exact Host.Outcome.next.inj he ▸ takePriorityNext_wholeRod (h.lane rfl) l
  all_goals nomatch hline

theorem exec_wholeRod {c : Instr} (h : RodCalm c l s) (he : exec c s = .next t) : t.wholeRod l = s.wholeRod l := by
  cases hreq : requestOf c with
  | some x =>
    obtain ⟨n, k, target⟩ := x
    rw [exec_eq_takeAs hreq] at he
    exact takeAs_wholeRod (rowWork_wholeRod h.row s) he
  | none =>
    cases hline : isLineRow c with
    | true => exact exec_line_wholeRod hline h he
    | false => exact (exec_event_safety hreq hline he).wholeRod l

theorem step_wholeRod (hstep : step s = .next t) (h : ∀ c ∈ s.pending.head?, RodCalm c l s) :
    t.wholeRod l = s.wholeRod l := by
  unfold step at hstep
  split at hstep
  · cases hstep; rfl
  · rename_i c rest hpending
    obtain ⟨hpower, hrow, hentry, hlane⟩ := h c (by rw [hpending]; rfl)
    exact (exec_wholeRod (s := { s with pending := rest }) ⟨hpower, hrow, hentry, hlane⟩ hstep).trans rfl

/-- Settles O60: carbon only passes from stock to fed length but for a new rod, and whatever bears on a withholding settles
it. -/
theorem stepKeepsRodAndWithholdingSafe : Obligations.StepKeepsRodAndWithholdingSafe := by
  unfold Obligations.StepKeepsRodAndWithholdingSafe
  intro s t hstep
  refine ⟨fun hs => ?_, fun hlist hs => ?_, fun l h => ?_⟩
  · exact (rodSafe_iff t).2 (keptByBooth_rodsSound.step ((rodSafe_iff s).1 hs) hstep)
  · exact (keptByBooth_withholdingSafe.step ⟨hlist, hs⟩ hstep).2
  · refine step_wholeRod hstep fun c hc => ?_
    obtain ⟨hpower, hrow, hentry, hlane⟩ := h c hc
    exact ⟨hpower, hrow, hentry, hlane⟩

end

end Sys2Proof.Machine
end

section
/-! STRIKE, EXTINGUISH, OPEN, SWAP and the four requests on automation (R65, R67, R71, R72, R83, R105, R112, R166). -/

namespace Sys2Proof.Machine

open Sys2Proof

section
variable {s u : State} {n : Station} {p l : Side}

/-- The answer to a work that leaves the line, the rotation and the queue of commands. -/
theorem LineKept.replies {k : Kind} {st : Status} {d : Nat} (h : s.LineKept u) : s.Replies (u.answered n k st d) n k st d := by
  obtain ⟨hline, hrotation, hpending⟩ := h
  exact ⟨by rw [State.answered, State.answered, hline], hrotation, hpending⟩

/-! ### STRIKE and EXTINGUISH (R105, R112) -/

theorem strikeWork_done (hdark : (s.lamp.get l).state = .dark) (hfire : s.fireAllows = true)
    (hstock : 0 < (s.lamp.get l).stock) : strikeWork l s = answerDone (beginStrike l .between s) 0 :=
  if_pos ((strikeAllowed_iff s l).2 ⟨hdark, hfire, hstock⟩)

theorem strikeWork_refused (h : (s.lamp.get l).state ≠ .dark ∨ s.fireAllows = false ∨ (s.lamp.get l).stock = 0) :
    strikeWork l s = answerRefused s .refusedState 0 := by
  refine if_neg fun hallowed => ?_
  obtain ⟨hdark, hfire, hstock⟩ := (strikeAllowed_iff s l).1 hallowed
  obtain h | h | h := h
  · exact h hdark
  · exact Bool.false_ne_true (h.symm.trans hfire)
  · exact hstock.ne' h

/-- Settles O24: a strike that is allowed is `beginStrike` between boundaries. -/
theorem strikeBeginsSettling : Obligations.StrikeBeginsSettling := by
  unfold Obligations.StrikeBeginsSettling
  intro n l s hadmits
  have hexec : exec (.strike n (.arc l)) s = .next (queueAnswer n Kind.strike.code (strikeWork l s)) :=
    takeRequest_admits (onArc (.arc l) strikeWork) hadmits
  rw [hexec]
  refine ⟨fun hdark hfire hstock => ?_, fun hrefused => ?_⟩
  · rw [strikeWork_done hdark hfire hstock, queueAnswer_done]
    have heq := beginStrike_eq l .between s
    have hlamp := congrArg State.lamp heq
    have hseq := congrArg State.seq heq
    obtain ⟨hline, hrotation, hreels, hproj, hlights, hfire, hcond, hstore, hpending, -⟩ :=
      beginStrike_frame l .between s
    exact ⟨_, rfl, hlamp, LineKept.replies ⟨hline, hrotation, hpending⟩, fun _ => beginStrike_ends, hseq,
      beginStrike_only l .between s, hreels, hproj, hlights, hfire, hcond, hstore⟩
  · rw [strikeWork_refused hrefused, queueAnswer_refused]

theorem extinguishLamp_dark (h : (s.lamp.get l).state = .dark) : extinguishLamp l s = s := if_pos h

/-- Settles O25: EXTINGUISH is `extinguishLamp`, which a DARK lamp leaves and any other is put out by. -/
theorem extinguishTakesTheLampDark : Obligations.ExtinguishTakesTheLampDark := by
  unfold Obligations.ExtinguishTakesTheLampDark
  intro n l s hadmits
  have hexec : exec (.extinguish n (.arc l)) s = .next (queueAnswer n Kind.extinguish.code (extinguishWork l s)) :=
    takeRequest_admits (onArc (.arc l) extinguishWork) hadmits
  rw [hexec, extinguishWork, queueAnswer_done]
  refine ⟨fun hdark => by rw [extinguishLamp_dark hdark], fun hlive => ⟨_, rfl, extinguishLamp_putOut hlive, ?_⟩⟩
  obtain ⟨hline, hrotation, -, -, -, -, hpending, -⟩ := extinguishLamp_frame l s
  exact LineKept.replies ⟨hline, hrotation, hpending⟩

/-! ### OPEN and SWAP (R65 to R67) -/

theorem openWork_done (hrunning : (s.proj.get p).state = .running) (hallowed : s.screenAllowed p = true)
    (halone : s.onScreen p.other = false) : openWork p s = answerDone (enterScreen p s) 0 :=
  if_pos ((openAllowed_iff s p).2 ⟨hrunning, hallowed, halone⟩)

theorem openWork_refused
    (h : (s.proj.get p).state ≠ .running ∨ s.screenAllowed p = false ∨ s.onScreen p.other = true) :
    openWork p s = answerRefused s .refusedState 0 := by
  refine if_neg fun hopen => ?_
  obtain ⟨hrunning, hallowed, halone⟩ := (openAllowed_iff s p).1 hopen
  obtain h | h | h := h
  · exact h hrunning
  · exact Bool.false_ne_true (h.symm.trans hallowed)
  · exact Bool.false_ne_true (halone.symm.trans h)

theorem swapWork_done (hrunning : (s.proj.get p).state = .running) (hallowed : s.screenAllowed p = true)
    (hother : s.onScreen p.other = true) : swapWork p s = answerDone (swapScreens p p.other .between s) 0 :=
  if_pos ⟨(ready_iff s p).2 ⟨hrunning, hallowed⟩, hother⟩

theorem swapWork_refused
    (h : (s.proj.get p).state ≠ .running ∨ s.screenAllowed p = false ∨ s.onScreen p.other = false) :
    swapWork p s = answerRefused s .refusedState 0 := by
  refine if_neg fun ⟨hready, hother⟩ => ?_
  obtain ⟨hrunning, hallowed⟩ := (ready_iff s p).1 hready
  obtain h | h | h := h
  · exact h hrunning
  · exact Bool.false_ne_true (h.symm.trans hallowed)
  · exact Bool.false_ne_true (h.symm.trans hother)

/-- Settles O31: each request asks for a ready projector, OPEN for an empty screen and SWAP for the other one on it. -/
theorem openAndSwapGiveTheScreen : Obligations.OpenAndSwapGiveTheScreen := by
  unfold Obligations.OpenAndSwapGiveTheScreen
  intro n p s
  refine ⟨fun hadmits => ?_, fun hadmits => ?_⟩
  · have hexec : exec (.openDowser n (.proj p)) s = .next (queueAnswer n Kind.openDowser.code (openWork p s)) :=
      takeRequest_admits (onProjector (.proj p) openWork) hadmits
    rw [hexec]
    refine ⟨fun hrunning hallowed halone => ?_, fun hrefused => ?_⟩
    · rw [openWork_done hrunning hallowed halone, queueAnswer_done]
      obtain ⟨hline, hrotation, -, -, -, -, -, hpending, -⟩ := enterScreen_frame p s
      exact ⟨_, rfl, enterScreen_opened p s, LineKept.replies ⟨hline, hrotation, hpending⟩⟩
    · rw [openWork_refused hrefused, queueAnswer_refused]
  · have hexec : exec (.swap n (.proj p)) s = .next (queueAnswer n Kind.swap.code (swapWork p s)) :=
      takeRequest_admits (onProjector (.proj p) swapWork) hadmits
    rw [hexec]
    refine ⟨fun hrunning hallowed hother => ?_, fun hrefused => ?_⟩
    · rw [swapWork_done hrunning hallowed hother, queueAnswer_done]
      obtain ⟨hline, hrotation, hlights, hfire, hcond, hstore, hpending, -⟩ := swapScreens_frame p p.other .between s
      exact ⟨_, rfl, swapScreens_swapped s (Side.ne_other p), LineKept.replies ⟨hline, hrotation, hpending⟩, hlights,
        hfire, hcond, hstore⟩
    · rw [swapWork_refused hrefused, queueAnswer_refused]

/-! ### Automation (R71, R72, R83, R166) -/

theorem engageWork_done (hoff : s.seq.automation = .off) (hcode : s.reels.code = 0) (hfire : s.fireAllows = true) :
    engageWork s = answerDone (s.onSeq fun q => { q with automation := .engaged }) 0 := by
  rw [engageWork, if_neg (not_not.2 hoff), if_neg (not_not.2 hcode), if_neg (by simp [hfire])]

theorem engageWork_on (hon : s.seq.automation ≠ .off) : engageWork s = answerRefused s .refusedState 0 := if_pos hon

/-- The code refuses before the fire state does (log entry 28); where the fire state alone refuses, the code is 0. -/
theorem engageWork_held (hoff : s.seq.automation = .off) (h : s.reels.code ≠ 0 ∨ s.fireAllows = false) :
    engageWork s = answerRefused s .refusedState s.reels.code := by
  rw [engageWork, if_neg (not_not.2 hoff)]
  by_cases hcode : s.reels.code = 0
  · rw [if_neg (not_not.2 hcode), if_pos (h.resolve_left (not_not.2 hcode)), hcode]
  · exact if_pos hcode

theorem disengageWork_done (hon : s.seq.automation ≠ .off) : disengageWork s = answerDone (automationOff s) 0 := if_neg hon

theorem disengageWork_refused (hoff : s.seq.automation = .off) : disengageWork s = answerRefused s .refusedState 0 :=
  if_pos hoff

theorem current_filmBreak_eq_false_iff :
    s.current .filmBreak = false ↔ s.proj.a.state ≠ .broken ∧ s.proj.b.state ≠ .broken := by
  simp [State.current]

theorem current_fire_eq_false_iff : s.current .fire = false ↔ s.fireAllows = true := by
  simp [State.current]

theorem resumeWork_done (hhalted : s.seq.automation = .halted) (hfire : s.fireAllows = true)
    (ha : s.proj.a.state ≠ .broken) (hb : s.proj.b.state ≠ .broken) :
    resumeWork s = answerDone (s.onSeq fun q => { q with automation := .engaged }) 0 :=
  if_pos ⟨hhalted, current_fire_eq_false_iff.2 hfire, current_filmBreak_eq_false_iff.2 ⟨ha, hb⟩⟩

theorem resumeWork_refused
    (h : s.seq.automation ≠ .halted ∨ s.fireAllows = false ∨ s.proj.a.state = .broken ∨ s.proj.b.state = .broken) :
    resumeWork s = answerRefused s .refusedState 0 := by
  refine if_neg fun ⟨hhalted, hfire, hbreak⟩ => ?_
  have hallows := current_fire_eq_false_iff.1 hfire
  obtain ⟨ha, hb⟩ := current_filmBreak_eq_false_iff.1 hbreak
  obtain h | h | h | h := h
  · exact h hhalted
  · exact Bool.false_ne_true (h.symm.trans hallows)
  · exact ha h
  · exact hb h

theorem outgoing_eq_none_iff : s.outgoing = none ↔ s.onScreen .a = false ∧ s.onScreen .b = false := by
  have h := outgoing_isSome_iff s
  rw [← Option.not_isSome_iff_eq_none, h, not_or, Bool.not_eq_true, Bool.not_eq_true]

/-- A record that the show may start with: bound, its projector THREADED and its port shutter UP (R83). -/
def State.Startable (s : State) (r : Reel) : Prop :=
  r.isBound = true ∧ (s.proj.get r.projector).state = .threaded ∧ (s.fire.get r.projector.port).state = .up

theorem showStarter_eq_some_iff :
    s.showStarter = some p ↔
      ∃ r rest, remainingShow s.reels.records = r :: rest ∧ s.Startable r ∧ r.projector = p := by
  unfold State.showStarter State.Startable
  split
  · rename_i hshow
    simp [hshow]
  · rename_i r rest hshow
    simp [hshow]

theorem startShowWork_done (hstarter : s.showStarter = some p) (hengaged : s.seq.automation = .engaged)
    (hempty : s.outgoing = none) (hfire : s.fireAllows = true) :
    startShowWork s = answerDone (s.onProj p fun x => { x with startPending := true }) 0 := by
  unfold startShowWork
  rw [hstarter]
  exact if_pos ⟨hengaged, hempty, hfire⟩

/-- START_SHOW is carried out for its starter alone (R83). -/
theorem startShowWork_refused
    (h : ∀ p, s.showStarter = some p → ¬(s.seq.automation = .engaged ∧ s.outgoing = none ∧ s.fireAllows = true)) :
    startShowWork s = answerRefused s .refusedState 0 := by
  unfold startShowWork
  split
  · rfl
  · rename_i p hp
    exact if_neg (h p hp)

theorem not_startable {r : Reel} (h : r.isBound = false ∨ (s.proj.get r.projector).state ≠ .threaded
    ∨ (s.fire.get r.projector.port).state ≠ .up) : ¬s.Startable r := by
  rintro ⟨hbound, hthreaded, hup⟩
  obtain h | h | h := h
  · exact Bool.false_ne_true (h.symm.trans hbound)
  · exact h hthreaded
  · exact h hup

/-- Settles O34: each of the four is its work, carried out in the one state its rule asks. -/
theorem automationRequestsMoveTheState : Obligations.AutomationRequestsMoveTheState := by
  unfold Obligations.AutomationRequestsMoveTheState
  intro n s
  refine ⟨fun hadmits => ?_, fun hadmits => ?_, fun hadmits => ?_, fun hadmits => ?_⟩
  · rw [show exec (.engage n .automation) s = _ from takeRequest_admits engageWork hadmits]
    refine ⟨fun hoff hcode hfire => ?_, fun hon => ?_, fun hoff hheld => ?_⟩
    · rw [engageWork_done hoff hcode hfire]; rfl
    · rw [engageWork_on hon, queueAnswer_refused]
    · rw [engageWork_held hoff hheld, queueAnswer_refused]
  · rw [show exec (.disengage n .automation) s = _ from takeRequest_admits disengageWork hadmits]
    refine ⟨fun hon => ?_, fun hoff => ?_⟩
    · rw [disengageWork_done hon]; rfl
    · rw [disengageWork_refused hoff, queueAnswer_refused]
  · rw [show exec (.resume n .automation) s = _ from takeRequest_admits resumeWork hadmits]
    refine ⟨fun hhalted hfire ha hb => ?_, fun hrefused => ?_⟩
    · rw [resumeWork_done hhalted hfire ha hb]; rfl
    · rw [resumeWork_refused hrefused, queueAnswer_refused]
  · rw [show exec (.startShow n .automation) s = _ from takeRequest_admits startShowWork hadmits]
    refine ⟨fun r rest hshow hengaged ha hb hfire hbound hthreaded hup => ?_, fun hrefused => ?_⟩
    · have hstarter := showStarter_eq_some_iff.2 ⟨r, rest, hshow, ⟨hbound, hthreaded, hup⟩, rfl⟩
      rw [startShowWork_done hstarter hengaged (outgoing_eq_none_iff.2 ⟨ha, hb⟩) hfire]
      rfl
    · have hwork : startShowWork s = answerRefused s .refusedState 0 := by
        refine startShowWork_refused fun p hp ⟨hengaged, hempty, hfire⟩ => ?_
        obtain ⟨r, rest, hshow, hstartable, -⟩ := showStarter_eq_some_iff.1 hp
        obtain ⟨ha, hb⟩ := outgoing_eq_none_iff.1 hempty
        obtain h | h | h | h | h | ⟨r', rest', hshow', h⟩ := hrefused
        · rw [hshow] at h; cases h
        · exact h hengaged
        · exact Bool.false_ne_true (ha.symm.trans h)
        · exact Bool.false_ne_true (hb.symm.trans h)
        · exact Bool.false_ne_true (h.symm.trans hfire)
        · rw [hshow] at hshow'
          cases hshow'
          exact not_startable h hstartable
      rw [hwork, queueAnswer_refused]

end

end Sys2Proof.Machine
end

section
/-! The automatic strikes: those of the strike test and of the show start's first step, and their withholding (R74, R75,
R84, R101, R102, R106). -/

namespace Sys2Proof.Machine

open Sys2Proof

section
variable {s t : State} {p l : Side} {r : Reel} {m : Moment}

/-! ### The rod need (R101) -/

theorem rodSuffices_iff :
    s.rodSuffices r = true ↔ rodNeed r (s.store.working.lamp.get r.projector) ≤ (s.lamp.get r.projector).stock :=
  decide_eq_true_iff

/-! ### When a strike is asked (R74, R84) -/

/-- The lead test is within its lead: its action is taken. -/
theorem unawareTest_within {lead within : Nat} {act : State → State} (hstate : s.seq.countdown.state = .ordered)
    (ht : s.seq.countdown.t = some within) (h : within ≤ lead) : unawareTest p lead act s = act s := by
  have hwithin : s.countdownWithin lead = true := by simp [State.countdownWithin, hstate, ht, h]
  rw [unawareTest, hstate, if_neg (by decide), if_pos hwithin]

/-- The countdown is above the lead: nothing is done. -/
theorem unawareTest_above {lead above : Nat} {act : State → State} (hstate : s.seq.countdown.state = .ordered)
    (ht : s.seq.countdown.t = some above) (h : lead < above) : unawareTest p lead act s = s := by
  have habove : s.countdownWithin lead = false := by simp [State.countdownWithin, hstate, ht, h]
  rw [unawareTest, hstate, if_neg (by decide), habove, if_neg Bool.false_ne_true]

theorem unawareTest_unordered {lead : Nat} {act : State → State} (hstate : s.seq.countdown.state = .unordered) :
    unawareTest p lead act s = raiseUnordered p s := if_pos hstate

/-- What the strike test asks of its pair, of the incoming lamp and of its flag (R74). -/
theorem strikeTest_asked (hpair : s.leadPair = some (p, r)) (hengaged : s.seq.automation = .engaged)
    (hdark : (s.lamp.get r.projector).state = .dark) (htaken : s.seq.strikeTaken = false) :
    strikeTest m s = unawareTest p s.store.working.sLead (strikeIncoming p r m) s := by
  rw [strikeTest, hpair]
  exact if_pos ⟨decide_eq_true hengaged, hdark, htaken⟩

theorem showStartStrike_asked (hr : s.boundReel p = some r) (hengaged : s.seq.automation = .engaged)
    (hpending : (s.proj.get p).startPending = true) (hdark : (s.lamp.get p).state = .dark) :
    showStartStrike p m s =
      if s.rodSuffices r then automaticStrike p m s
      else withholdStrike { lamp := p, reel := r.number, outgoing := none } (s.detailOf (.lamp p) p) s := by
  rw [showStartStrike, hr]
  exact if_pos ⟨(starting_iff p s).2 ⟨hengaged, hpending⟩, hdark⟩

/-! ### The strike (R105, R106) -/

/-- An automatic strike is carried out between boundaries, with the strike flag left at `taken` (R74, R105, R106). -/
def State.Struck (s t : State) (l : Side) (taken : Bool) : Prop :=
  t.lamp =
      s.lamp.set l
        { s.lamp.get l with
          state := .settling, rectifierClosed := true, iset := (s.store.working.lamp.get l).inom
          attempt := 0, settlingTimer := some 41 }
    ∧ t.seq = { s.seq with strikeTaken := taken, withholding := t.seq.withholding }
    ∧ s.WithholdingOnlyEnds t ∧ (∀ v, t.seq.withholding = some v → v.lamp ≠ l)
    ∧ s.LineKept t ∧ t.reels = s.reels ∧ t.proj = s.proj ∧ t.lights = s.lights ∧ t.fire = s.fire
    ∧ t.cond = s.cond ∧ t.store = s.store

theorem automaticStrike_allowed (hdark : (s.lamp.get l).state = .dark) (hfire : s.fireAllows = true) :
    automaticStrike l m s = beginStrike l m s := if_pos ⟨hdark, hfire⟩

theorem beginStrike_struck (l : Side) (s : State) : s.Struck (beginStrike l .between s) l s.seq.strikeTaken := by
  have heq := beginStrike_eq l .between s
  have hlamp := congrArg State.lamp heq
  have hseq := congrArg State.seq heq
  obtain ⟨hline, hrotation, hreels, hproj, hlights, hfire, hcond, hstore, hpending, -⟩ := beginStrike_frame l .between s
  exact ⟨hlamp, hseq, beginStrike_only l .between s, fun _ => beginStrike_ends, ⟨hline, hrotation, hpending⟩, hreels,
    hproj, hlights, hfire, hcond, hstore⟩

theorem State.Struck.marked {taken : Bool} (h : s.Struck t l taken) :
    s.Struck (t.onSeq fun q => { q with strikeTaken := true }) l true := by
  obtain ⟨hlamp, hseq, hrest⟩ := h
  refine ⟨hlamp, ?_, hrest⟩
  rw [State.onSeq_seq, hseq]

/-! ### The withholding (R75) -/

theorem withholdStrike_standing {w : Withholding} (d : Detail) (h : s.seq.withholding = some w) :
    withholdStrike w d s = s := if_pos h

/-- A new withholding raises ROD_SHORT, which is current while it stands (R75, R158). -/
theorem withholdStrike_made {w : Withholding} (d : Detail) (h : s.seq.withholding ≠ some w) :
    s.Raised (withholdStrike w d s) .rodShort d ∧ (withholdStrike w d s).current .rodShort = true
      ∧ withholdStrike w d s =
          { s with
            cond := (withholdStrike w d s).cond
            seq := { s.seq with withholding := some w, automation := automationAfter s .rodShort } } := by
  have heq := raiseCondition_eq .rodShort d (s.onSeq fun q => { q with withholding := some w })
  rw [withholdStrike, if_neg h]
  exact ⟨raiseCondition_raised .rodShort d (s.onSeq fun q => { q with withholding := some w }),
    by rw [heq]; rfl, heq⟩

/-! ### The statement -/

/-- The strike that a row asks: carried out from a rod that suffices, and withheld from a shorter one. -/
theorem asked_or_withheld {c : Instr} {w : Withholding} {d : Detail} {taken : Bool} {need : Nat}
    (hneed : s.rodSuffices r = true ↔ need ≤ (s.lamp.get l).stock)
    (hstrike : s.rodSuffices r = true → s.fireAllows = true → ∃ t, exec c s = .next t ∧ s.Struck t l taken)
    (hwithhold : s.rodSuffices r = false → exec c s = .next (withholdStrike w d s)) :
    (need ≤ (s.lamp.get l).stock → s.fireAllows = true → ∃ t, exec c s = .next t ∧ s.Struck t l taken)
      ∧ ((s.lamp.get l).stock < need → s.seq.withholding = some w → exec c s = .next s)
      ∧ ((s.lamp.get l).stock < need → s.seq.withholding ≠ some w →
          ∃ t, exec c s = .next t ∧ s.Raised t .rodShort d ∧ t.current .rodShort = true
            ∧ t =
                { s with
                  cond := t.cond
                  seq := { s.seq with withholding := some w, automation := automationAfter s .rodShort } }) := by
  have hshort (h : (s.lamp.get l).stock < need) : s.rodSuffices r = false :=
    Bool.eq_false_iff.2 fun hsuffices => (hneed.1 hsuffices).not_gt h
  refine ⟨fun h hfire => hstrike (hneed.2 h) hfire, fun h hstands => ?_, fun h hnew => ?_⟩
  · rw [hwithhold (hshort h), withholdStrike_standing d hstands]
  · exact ⟨_, hwithhold (hshort h), withholdStrike_made d hnew⟩

/-- Settles O46: both rows ask the one strike, and withhold it by the one rod need. -/
theorem automaticStrikesAreAskedOrWithheld : Obligations.AutomaticStrikesAreAskedOrWithheld := by
  unfold Obligations.AutomaticStrikesAreAskedOrWithheld
  intro c s l r w d taken need hrow hengaged hdark hl hneed
  subst hl
  have hsuffices : s.rodSuffices r = true ↔ need ≤ (s.lamp.get r.projector).stock := by
    rw [rodSuffices_iff, rodNeed_eq, hneed]
  obtain ⟨p, o, lead, rfl, hout, ho, hintermission, hlast, hr, hbound, hnot, hordered, ht, hlead, rfl, rfl, rfl⟩ |
    ⟨rfl, hr, hpending, rfl, rfl, rfl⟩ := hrow
  · have htest : exec .strikeTest s = .next (strikeIncoming p r .between s) := by
      refine congrArg Host.Outcome.next ?_
      rw [strikeTest_asked (leadPair_some hout ho hr hintermission hlast hbound) hengaged hdark hnot,
        unawareTest_within hordered ht hlead]
    refine asked_or_withheld hsuffices (fun hrod hfire => ⟨_, htest, ?_⟩) fun hrod => ?_
    · rw [strikeIncoming, if_pos hrod, automaticStrike_allowed hdark hfire]
      exact (beginStrike_struck r.projector s).marked
    · rw [htest, strikeIncoming, hrod, if_neg Bool.false_ne_true, State.detailOf, State.detailT, if_pos hordered, ht]
  · have hstep := showStartStrike_asked (m := .between) hr hengaged hpending hdark
    have hexec : exec (.showStartStrike r.projector) s = .next (showStartStrike r.projector .between s) := rfl
    rw [hstep] at hexec
    refine asked_or_withheld hsuffices (fun hrod hfire => ⟨_, hexec, ?_⟩) fun hrod => ?_
    · rw [if_pos hrod, automaticStrike_allowed hdark hfire]
      exact beginStrike_struck r.projector s
    · rw [hexec, hrod, if_neg Bool.false_ne_true, State.detailOf, detailT_eq]

end

end Sys2Proof.Machine
end

section
/-! A boundary whose own work finds nothing at its end: no switch, timer, count or trim changes a state, and nothing is
raised (R73, log entry 6). -/

namespace Sys2Proof.Machine

open Sys2Proof

section
variable {s t u : State} {p l : Side} {r : Readings}

/-! ### Work that stirs nothing -/

/-- Work that changes neither list, sequencer, fire unit, conditions nor working settings, and of projectors and lamps no
state; a DARK lamp keeps its stock. -/
structure Unstirred (s t : State) : Prop where
  reels : t.reels = s.reels
  seq : t.seq = s.seq
  fire : t.fire = s.fire
  cond : t.cond = s.cond
  working : t.store.working = s.store.working
  screen : ScreenKept s t
  state : ∀ q, (t.proj.get q).state = (s.proj.get q).state
  gate : ∀ q, (t.proj.get q).gate = (s.proj.get q).gate
  loss : s.NoStandingLoss → t.NoStandingLoss
  lamp : ∀ q, (t.lamp.get q).state = (s.lamp.get q).state
  mode : ∀ q, (t.lamp.get q).mode = (s.lamp.get q).mode
  stock : ∀ q, (s.lamp.get q).state = .dark → (t.lamp.get q).stock = (s.lamp.get q).stock

namespace Unstirred

theorem of_eq (hreels : t.reels = s.reels) (hseq : t.seq = s.seq) (hfire : t.fire = s.fire) (hcond : t.cond = s.cond)
    (hworking : t.store.working = s.store.working) (hproj : t.proj = s.proj) (hlamp : t.lamp = s.lamp) :
    Unstirred s t :=
  ⟨hreels, hseq, hfire, hcond, hworking, .of_proj hproj, fun _ => by rw [hproj], fun _ => by rw [hproj],
    fun h => by rwa [State.NoStandingLoss, hproj], fun _ => by rw [hlamp], fun _ => by rw [hlamp],
    fun _ _ => by rw [hlamp]⟩

theorem refl (s : State) : Unstirred s s := .of_eq rfl rfl rfl rfl rfl rfl rfl

theorem trans (h : Unstirred s t) (h' : Unstirred t u) : Unstirred s u :=
  ⟨h'.reels.trans h.reels, h'.seq.trans h.seq, h'.fire.trans h.fire, h'.cond.trans h.cond,
    h'.working.trans h.working, h.screen.trans h'.screen, fun q => (h'.state q).trans (h.state q),
    fun q => (h'.gate q).trans (h.gate q), h'.loss ∘ h.loss, fun q => (h'.lamp q).trans (h.lamp q),
    fun q => (h'.mode q).trans (h.mode q),
    fun q hq => (h'.stock q ((h.lamp q).trans hq)).trans (h.stock q hq)⟩

theorem projectors (h : ProjectorsTick s t) (hscreen : ScreenKept s t) : Unstirred s t := by
  have hrest := h.rest
  exact ⟨by rw [hrest], by rw [hrest], by rw [hrest], by rw [hrest], by rw [hrest], hscreen, h.state, h.gate, h.loss,
    fun _ => by rw [hrest], fun _ => by rw [hrest], fun _ _ => by rw [hrest]⟩

theorem onLamp {g : Lamp → Lamp} (hstate : (g (s.lamp.get l)).state = (s.lamp.get l).state)
    (hmode : (g (s.lamp.get l)).mode = (s.lamp.get l).mode)
    (hstock : (s.lamp.get l).state = .dark → (g (s.lamp.get l)).stock = (s.lamp.get l).stock) :
    Unstirred s (s.onLamp l g) :=
  ⟨rfl, rfl, rfl, rfl, rfl, .of_proj rfl, fun _ => rfl, fun _ => rfl, id,
    Both.forall_set (P := fun q (y : Lamp) => y.state = (s.lamp.get q).state) hstate fun _ => rfl,
    Both.forall_set (P := fun q (y : Lamp) => y.mode = (s.lamp.get q).mode) hmode fun _ => rfl,
    Both.forall_set (P := fun q (y : Lamp) => (s.lamp.get q).state = .dark → y.stock = (s.lamp.get q).stock) hstock
      fun _ _ => rfl⟩

theorem onScreen (h : Unstirred s t) (q : Side) : t.onScreen q = s.onScreen q := by
  rw [State.onScreen, h.state]
  rfl

end Unstirred

/-! ### A booth at rest but for what shows and burns -/

/-- Nothing of the blocks' own work with the readings `r` is at its end. -/
structure Hushed (r : Readings) (s : State) : Prop where
  loss : s.NoStandingLoss
  fire : s.fire.state ≠ .dropped
  shutters : ∀ q, (s.fire.get q).fallTimer = none ∧ (s.fire.get q).raiseTimer = none
  motors : ∀ q, (s.proj.get q).state ≠ .inching ∧ (s.proj.get q).state ≠ .starting
  gate : ∀ q, s.onScreen q = true → (s.proj.get q).gate = .closed ∧ 8 ≤ (s.proj.get q).rate
  arcs : ∀ q, 30 ≤ r.amperes.get q
  lamps : ∀ q, (s.lamp.get q).state = .dark ∨ (s.lamp.get q).state = .lit
  trims : ∀ q, (s.lamp.get q).mode ≠ .trim
  douses : ∀ q, s.seq.douse.get q = none

theorem Unstirred.hushed (h : Unstirred s t) (hs : Hushed r s) : Hushed r t where
  loss := h.loss hs.loss
  fire := by rw [h.fire]; exact hs.fire
  shutters q := by rw [h.fire]; exact hs.shutters q
  motors q := by rw [h.state]; exact hs.motors q
  gate q hq := by
    rw [h.gate, (h.screen q).rate]
    exact hs.gate q (h.onScreen q ▸ hq)
  arcs := hs.arcs
  lamps q := by rw [h.lamp]; exact hs.lamps q
  trims q := by rw [h.mode]; exact hs.trims q
  douses q := by rw [h.seq]; exact hs.douses q

/-- Unstirring work goes on with work that a hushed booth is not stirred by. -/
theorem Unstirred.andThen (h : Unstirred s t) (hs : Hushed r s) {work : State → State}
    (hwork : ∀ {v}, Hushed r v → Unstirred v (work v)) : Unstirred s (work t) := h.trans (hwork (h.hushed hs))

namespace Hushed

theorem projectorWork (h : Hushed r s) (q : Side) : Unstirred s (projectorWork q s) :=
  .projectors (projectorWork_tick h.loss (h.motors q).1 (h.motors q).2) (projectorWork_calm q s).screen

theorem lampWork (h : Hushed r s) (q : Side) : Unstirred s (lampWork q (r.amperes.get q) s) := by
  have hidle : Machine.lampWork q (r.amperes.get q) s = s := by
    obtain hdark | hlit := h.lamps q
    · unfold Machine.lampWork
      rw [hdark]
    · exact lampWork_lit _ hlit
  rw [hidle]
  exact .refl s

theorem gateWork (h : Hushed r s) (q : Side) : Unstirred s (gateWork q s) :=
  .projectors (gateWork_tick (h.gate q)) (gateWork_steady q s).screen

theorem arcWatch (h : Hushed r s) (q : Side) : Unstirred s (arcWatch q (r.amperes.get q) s) := by
  have hburning : ¬(r.amperes.get q < arcAmperes ∧ 9 ≤ (s.lamp.get q).lowCurrent) :=
    fun hlow => (h.arcs q).not_gt hlow.1
  unfold Machine.arcWatch
  rw [if_neg hburning]
  split
  · exact .onLamp rfl rfl fun _ => rfl
  · exact .refl s

theorem countClamp_read_mode (x : Lamp) (t : LampSettings) (volts amperes : Nat) :
    ((x.read t volts amperes).countClamp t).mode = x.mode := by
  unfold Lamp.countClamp Lamp.read Lamp.lowered Lamp.lifted
  dsimp only
  (repeat' split) <;> rfl

theorem fedOnce_mode (x : Lamp) : x.fedOnce.mode = x.mode := by
  unfold Lamp.fedOnce
  dsimp only
  (repeat' split) <;> rfl

/-- Without a trim, an interval feeds its lamp and does nothing else. -/
theorem feedOnce (h : (s.lamp.get l).mode ≠ .trim) (hlit : (s.lamp.get l).state ≠ .dark) (volts amperes : Nat) :
    Unstirred s (feedOnce l volts amperes s) := by
  have hstate (t : LampSettings) : (((s.lamp.get l).read t volts amperes).countClamp t).state = (s.lamp.get l).state :=
    (Lamp.countClamp_state _ _).trans rfl
  have hread (t : LampSettings) :
      Unstirred s (s.onLamp l fun x => (x.read t volts amperes).countClamp t) :=
    .onLamp (hstate t) (countClamp_read_mode _ t volts amperes) fun hdark => absurd hdark hlit
  unfold Machine.feedOnce
  dsimp only
  have hkept := hread (s.store.working.lamp.get l)
  generalize (s.onLamp l fun x => _) = v at hkept ⊢
  have hnone : countTrim l (intervalFeed (s.store.working.lamp.get l) (s.lamp.get l) volts amperes).inBand v = v := by
    have hmode : (v.lamp.get l).trimming = false := by simp [Lamp.trimming, hkept.mode, h]
    rw [countTrim, hmode, if_neg Bool.false_ne_true]
  rw [hnone]
  refine hkept.trans (.onLamp (Lamp.fedOnce_state _) (fedOnce_mode _) fun hdark => absurd ?_ hlit)
  rw [← hkept.lamp, hdark]

theorem tickFeed (h : Hushed r s) (q : Side) : Unstirred s (tickFeed q (r.volts.get q) (r.amperes.get q) s) := by
  unfold Machine.tickFeed feedInterval
  (repeat' split)
  · rename_i hburning
    have hlive : (s.lamp.get q).state ≠ .dark := by
      intro hdark
      simp [Lamp.burning, hdark] at hburning
    exact (feedOnce (h.trims q) hlive _ _).trans (.onLamp rfl rfl fun _ => rfl)
  · exact .refl s
  · exact .onLamp rfl rfl fun _ => rfl

theorem tickShutter (h : Hushed r s) (q : Port) : Unstirred s (tickShutter q s) := by
  obtain ⟨hfall, hraise⟩ := h.shutters q
  have hfire : (Machine.tickShutter q s).fire = s.fire := by
    unfold Machine.tickShutter
    rw [hfall, hraise, if_neg (by decide), if_neg (by decide), State.onShutter_fire]
    have hsame : ({ s.fire.get q with
        fallTimer := (s.fire.get q).fallTimer.counted, raiseTimer := (s.fire.get q).raiseTimer.counted } : Shutter) =
        s.fire.get q := by
      cases hx : s.fire.get q
      rw [hx] at hfall hraise
      cases hfall
      cases hraise
      rfl
    rw [hsame]
    cases q <;> rfl
  have hidle : Machine.tickShutter q s = { s with fire := (Machine.tickShutter q s).fire } := by
    unfold Machine.tickShutter
    rw [hfall, hraise, if_neg (by decide), if_neg (by decide)]
    rfl
  rw [hidle, hfire]
  exact .refl s

theorem judgeLink (h : Hushed r s) : Unstirred s (judgeLink s) := by
  rw [Machine.judgeLink, if_neg fun hdropped => h.fire hdropped.1]
  exact .refl s

theorem tickSave (s : State) : Unstirred s (tickSave s) :=
  .of_eq (by simp) (by simp) (by simp) (by simp) (tickSave_working s) (by simp) (by simp)

theorem tickDouse (h : Hushed r s) (q : Side) : Unstirred s (tickDouse q s) := by
  have hnone := h.douses q
  have hidle : Machine.tickDouse q s = s := by
    have hset : s.seq.douse.set q (ReadTimer.counted (s.seq.douse.get q)) = s.seq.douse := by
      rw [show ReadTimer.counted (s.seq.douse.get q) = s.seq.douse.get q by rw [hnone]; rfl, Both.set_get]
    rw [Machine.tickDouse, hnone, if_neg (by decide), State.onSeq, hset]
  rw [hidle]
  exact .refl s

theorem beforeWatch (h : Hushed r s) : Unstirred s (beforeWatch r s) := by
  have hprojectors := (h.projectorWork .a).andThen h fun hv => hv.projectorWork .b
  have hlamps := (hprojectors.andThen h fun hv => hv.lampWork .a).andThen h fun hv => hv.lampWork .b
  exact (hlamps.andThen h fun hv => hv.gateWork .a).andThen h fun hv => hv.gateWork .b

theorem afterWatch (h : Hushed r s) : Unstirred s (afterWatch r s) := by
  have hfed := (h.tickFeed .a).andThen h fun hv => hv.tickFeed .b
  have hports := (hfed.andThen h fun hv => hv.tickShutter .a).andThen h fun hv => hv.tickShutter .b
  have hobserved := (hports.andThen h fun hv => hv.tickShutter .observation1).andThen h fun hv =>
    hv.tickShutter .observation2
  have hlinked := (hobserved.andThen h judgeLink).andThen h fun {v} _ => tickSave v
  exact (hlinked.andThen h fun hv => hv.tickDouse .a).andThen h fun hv => hv.tickDouse .b

/-- The blocks' own work of a boundary does not stir a hushed booth, once the pulses are counted (R60). -/
theorem ownWork (h : Hushed r s.counted) : Unstirred s.counted (ownWork r s) := by
  rw [ownWork_eq]
  exact ((h.beforeWatch.andThen h fun hv => hv.arcWatch .a).andThen h fun hv => hv.arcWatch .b).andThen h afterWatch

end Hushed

/-- A quiet booth is hushed once its pulses are counted, unless a projector is INCHING or STARTING. -/
theorem hushed_of_quiet (h : s.Quiet r p)
    (hmotors : ∀ q, (s.proj.get q).state ≠ .inching ∧ (s.proj.get q).state ≠ .starting) : Hushed r s.counted := by
  obtain ⟨⟨hp, hq, -⟩, hloss, hfire, hunits, -, hgate, hrate, hshutters⟩ := h
  refine ⟨fun q => ?_, fun hdropped => ?_, hshutters, fun q => ?_, fun q hon => ?_, fun q => (hunits q).2.2.2.1,
    fun q => (hunits q).2.2.2.2.2.2, fun q => (hunits q).2.2.2.2.1, fun q => (hunits q).2.2.2.2.2.1⟩
  · rw [counted_get]; exact hloss q
  · rw [fireAllows_dropped (s := s) hdropped] at hfire
    cases hfire
  · rw [counted_get]; exact hmotors q
  · rw [counted_onScreen] at hon
    obtain rfl | hne := eq_or_ne q p
    · rw [counted_get]; exact ⟨hgate, hrate⟩
    · rw [Side.eq_other_of_ne hne, hq] at hon
      cases hon

end

end Sys2Proof.Machine
end

section
/-! The lead tests as rows (R73, R74, R76, R97, R100), and a change of the list that leaves the pair they are made for. -/

namespace Sys2Proof.Machine

open Sys2Proof

section
variable {s t : State} {p : Side} {r o : Reel} {m : Moment}

/-! ### The tests that do nothing -/

/-- There is no pair where a flag is set or the incoming record is not bound (R74, R76). -/
theorem leadPair_none (ho : s.outgoingReel = some o) (hr : s.incomingReel = some r)
    (h : o.intermission = true ∨ o.last = true ∨ s.reelBound r = false) : s.leadPair = none := by
  cases hpair : s.leadPair with
  | none => rfl
  | some x =>
    obtain ⟨q, y⟩ := x
    obtain ⟨-, hy, hbound, o', ho', hintermission, hlast⟩ := leadPair_eq_some hpair
    obtain rfl := Option.some.inj (ho.symm.trans ho')
    obtain rfl := Option.some.inj (hr.symm.trans hy)
    simp [hintermission, hlast, hbound] at h

theorem strikeTest_noPair (h : s.leadPair = none) : strikeTest m s = s := by rw [strikeTest, h]

theorem motorTest_noPair (h : s.motorPair = none) : motorTest m s = s := by rw [motorTest, h]

/-- A lamp that is not DARK, a strike that is taken and a countdown above S_LEAD leave the strike test with nothing to do
(R74). -/
theorem strikeTest_nothing (hr : s.incomingReel = some r)
    (h : (s.lamp.get r.projector).state ≠ .dark ∨ s.seq.strikeTaken = true
      ∨ ∃ lead, s.seq.countdown.state = .ordered ∧ s.seq.countdown.t = some lead ∧ s.store.working.sLead < lead) :
    strikeTest m s = s := by
  unfold strikeTest
  split
  · rfl
  · rename_i q y hpair
    obtain ⟨-, hy, -⟩ := leadPair_eq_some hpair
    obtain rfl := Option.some.inj (hr.symm.trans hy)
    split
    · rename_i hasked
      obtain ⟨-, hdark, htaken⟩ := hasked
      obtain hlive | htook | ⟨lead, hordered, ht, habove⟩ := h
      · exact absurd hdark hlive
      · exact absurd (htook.symm.trans htaken) Bool.noConfusion
      · exact unawareTest_above hordered ht habove
    · rfl

/-! ### The tests that are made -/

theorem motorTest_asked (hpair : s.motorPair = some (p, r)) :
    motorTest m s = unawareTest p (motorLead r s.store.working) (startIncoming r m) s := by rw [motorTest, hpair]

theorem raiseUnordered_again (h : s.seq.countdown.raised = true) : raiseUnordered p s = s := if_pos h

/-- UNORDERED is raised, and the spell is marked (R97). -/
theorem raiseUnordered_first (h : s.seq.countdown.raised = false) :
    s.Raised (raiseUnordered p s) .unordered { unit := .projector p, f := some (s.proj.get p).f, t := none }
      ∧ raiseUnordered p s =
          { s with
            cond := (raiseUnordered p s).cond
            seq :=
              { s.seq with
                countdown := { s.seq.countdown with raised := true }, automation := automationAfter s .unordered } } := by
  rw [raiseUnordered, h, if_neg Bool.false_ne_true]
  exact ⟨raiseCondition_raised .unordered _
      (s.onSeq fun q => { q with countdown := { q.countdown with raised := true } }), raiseCondition_eq ..⟩

/-- What a lead test on an unordered countdown does (R97). -/
def State.UnorderedAnswer (s : State) (p : Side) (c : Instr) : Prop :=
  (s.seq.countdown.raised = true → exec c s = .next s)
    ∧ (s.seq.countdown.raised = false →
        ∃ t, exec c s = .next t
          ∧ s.Raised t .unordered { unit := .projector p, f := some (s.proj.get p).f, t := none }
          ∧ t =
              { s with
                cond := t.cond
                seq :=
                  { s.seq with
                    countdown := { s.seq.countdown with raised := true }
                    automation := automationAfter s .unordered } })

theorem unorderedAnswer_of_exec {c : Instr} (h : exec c s = .next (raiseUnordered p s)) : s.UnorderedAnswer p c := by
  refine ⟨fun hraised => ?_, fun hraised => ⟨_, h, raiseUnordered_first hraised⟩⟩
  rw [h, raiseUnordered_again hraised]

/-- The motor test of an ordered countdown, within its lead and above it (R76, R100). -/
theorem exec_motorTest_ordered {lead : Nat} (hpair : s.motorPair = some (p, r))
    (hthreaded : (s.proj.get r.projector).state = .threaded) (hordered : s.seq.countdown.state = .ordered)
    (ht : s.seq.countdown.t = some lead) :
    (lead ≤ motorLead r s.store.working → s.fireAllows = true →
        exec .motorTest s =
          .next { (s.onProj r.projector Projector.started) with seq := { s.seq with motorTaken := true } })
      ∧ (motorLead r s.store.working < lead → exec .motorTest s = .next s) := by
  have hexec : exec .motorTest s = .next (motorTest .between s) := rfl
  rw [hexec, motorTest_asked hpair]
  refine ⟨fun hwithin hfire => ?_, fun habove => ?_⟩
  · rw [unawareTest_within hordered ht hwithin, startIncoming_threaded hthreaded hfire]
  · rw [unawareTest_above hordered ht habove]

/-! ### A change of the list that leaves the pair -/

/-- A change of records that bears on the cue taken flag alone. -/
def CueOnly (g : Reel → Reel) : Prop := ∀ y, ∃ taken, g y = { y with cueTaken := taken }

namespace CueOnly

variable {g : Reel → Reel}

theorem number (hg : CueOnly g) (y : Reel) : (g y).number = y.number := by
  obtain ⟨taken, h⟩ := hg y
  rw [h]

theorem isBound (hg : CueOnly g) (y : Reel) : (g y).isBound = y.isBound := by
  obtain ⟨taken, h⟩ := hg y
  rw [h]
  rfl

theorem projector (hg : CueOnly g) (y : Reel) : (g y).projector = y.projector := by
  obtain ⟨taken, h⟩ := hg y
  rw [h]

theorem remains (hg : CueOnly g) (y : Reel) : (g y).remains = y.remains := by
  obtain ⟨taken, h⟩ := hg y
  rw [h]
  rfl

theorem flags (hg : CueOnly g) (y : Reel) : (g y).intermission = y.intermission ∧ (g y).last = y.last := by
  obtain ⟨taken, h⟩ := hg y
  rw [h]
  exact ⟨rfl, rfl⟩

theorem boundTo (hg : CueOnly g) (records : List Reel) (p : Side) :
    boundTo (records.map g) p = (boundTo records p).map g := by
  simp only [Machine.boundTo, List.find?_map, Function.comp_def, hg.projector, hg.isBound]

theorem linkedPairs (hg : CueOnly g) (records : List Reel) :
    linkedPairs (records.map g) = (linkedPairs records).map (Prod.map g g) := by
  have hshow : remainingShow (records.map g) = (remainingShow records).map g := by
    simp [remainingShow, List.filter_map, Function.comp_def, hg.remains]
  simp only [Machine.linkedPairs, hshow, ← List.map_tail, List.zip_map, List.filter_map]
  congr 2
  funext x
  simp [hg.flags]

theorem incomingOf (hg : CueOnly g) (records : List Reel) (y : Reel) :
    incomingOf (records.map g) (g y) = (incomingOf records y).map g := by
  simp only [Machine.incomingOf, hg.linkedPairs, List.find?_map, Function.comp_def, Option.map_map, Prod.map, hg.number]

/-- The pair stands, its incoming record with the flag it now has. -/
theorem leadPair (hg : CueOnly g) (hrecords : t.reels.records = s.reels.records.map g)
    (hscreen : ∀ q, t.onScreen q = s.onScreen q) : t.leadPair = s.leadPair.map (Prod.map id g) := by
  have hout : t.outgoing = s.outgoing := outgoing_congr hscreen
  have hbound (q : Side) : t.boundReel q = (s.boundReel q).map g := by rw [State.boundReel, hrecords, hg.boundTo]; rfl
  have hreel : t.outgoingReel = s.outgoingReel.map g := by
    rw [State.outgoingReel, State.outgoingReel, hout]
    cases s.outgoing with
    | none => rfl
    | some q => exact hbound q
  have hincoming : t.incomingReel = s.incomingReel.map g := by
    rw [State.incomingReel, State.incomingReel, hreel, hrecords]
    cases s.outgoingReel with
    | none => rfl
    | some y => exact hg.incomingOf _ y
  have hreelBound (y : Reel) : t.reelBound (g y) = s.reelBound y := by
    rw [State.reelBound, State.reelBound, hg.projector, hbound, Option.map_map, hg.number]
    exact congrArg (fun f => decide (Option.map f (s.boundReel y.projector) = some y.number)) (funext hg.number)
  unfold State.leadPair
  rw [hout, hreel, hincoming]
  cases s.outgoing with
  | none => rfl
  | some q =>
    cases s.outgoingReel with
    | none => rfl
    | some o =>
      cases s.incomingReel with
      | none => rfl
      | some i =>
        simp only [Option.map_some, (hg.flags o).1, (hg.flags o).2, hreelBound]
        split <;> rfl

end CueOnly

theorem leadPair_congr (hrecords : t.reels.records = s.reels.records) (hscreen : ∀ q, t.onScreen q = s.onScreen q) :
    t.leadPair = s.leadPair := by
  have hsame : CueOnly id := fun y => ⟨y.cueTaken, rfl⟩
  rw [hsame.leadPair (hrecords.trans (List.map_id _).symm) hscreen]
  cases s.leadPair <;> rfl

end

end Sys2Proof.Machine
end

section
/-! The four tests of a boundary at the swap point of an ordinary pair: a swap, or a missed changeover and the lead tests
on what it leaves (R73, R74, R76, R77, R79). -/

namespace Sys2Proof.Machine

open Sys2Proof

section
variable {s t u v w : State} {p : Side} {i : Reel} {m : Moment}

/-! ### The swap point (R77, R79) -/

/-- The tests of a boundary find the sequencer ENGAGED and the countdown at the swap point, for a pair whose incoming record
is the other projector's. -/
structure AtSwapPoint (u : State) (p : Side) (i : Reel) : Prop where
  engaged : u.seq.automation = .engaged
  pair : u.leadPair = some (p, i)
  opposite : i.projector = p.other
  countdown : u.countdownAtSwap = true
  fire : u.fireAllows = true

namespace AtSwapPoint

theorem swapPointTest (h : AtSwapPoint u p i) : swapPointTest m u = reachSwapPoint m u :=
  if_pos ⟨decide_eq_true h.engaged, h.countdown⟩

theorem incomingReady (h : AtSwapPoint u p i) :
    u.incomingReady = if u.ready p.other = true then some p.other else none := by
  obtain ⟨-, hi, hbound, -⟩ := leadPair_eq_some h.pair
  split
  · rename_i hready
    rw [← h.opposite] at hready ⊢
    exact incomingReady_some hi hbound hready
  · rename_i hready
    refine incomingReady_none fun y hy => .inr ?_
    obtain rfl := Option.some.inj (hi.symm.trans hy)
    rw [h.opposite]
    exact Bool.eq_false_iff.2 hready

/-- An ordinary ending swaps or misses the changeover, once. -/
theorem reachSwapPoint (h : AtSwapPoint u p i) :
    reachSwapPoint m u =
      if u.seq.swapReached = true then u
      else if u.ready p.other = true then swapScreens p.other p m u.reached else missChangeover p u.reached := by
  obtain ⟨hout, -, -, o, ho, hintermission, hlast⟩ := leadPair_eq_some h.pair
  have hready : (u.onSeq fun q => { q with swapReached := true }).incomingReady =
      if u.ready p.other = true then some p.other else none := h.incomingReady
  rw [Machine.reachSwapPoint, hout, ho]
  dsimp only
  split
  · rfl
  · rw [takeEnding, hintermission, hlast, if_neg Bool.false_ne_true, if_neg Bool.false_ne_true]
    by_cases hr : u.ready p.other = true
    · rw [if_pos hr] at hready ⊢
      rw [hready]
      rfl
    · rw [if_neg hr] at hready ⊢
      rw [hready]
      rfl

/-- What the swap-point test leaves where the incoming projector is not ready: a missed changeover, unless the swap point
was reached before. -/
theorem swapPointTest_unready (h : AtSwapPoint u p i) (hready : u.ready p.other = false) :
    Machine.swapPointTest m u = if u.seq.swapReached = true then u else missChangeover p u.reached := by
  rw [h.swapPointTest, h.reachSwapPoint, hready, if_neg Bool.false_ne_true]

/-- A ready projector takes the screen at the swap point, or late when a swap is due. -/
theorem swapped (h : AtSwapPoint u p i) (hready : u.ready p.other = true)
    (hdue : u.seq.swapReached = false ∨ u.seq.swapDue = true) :
    ∃ v, v.seq.automation = .engaged ∧ v.cond = u.cond
      ∧ lateSwapTest m (Machine.swapPointTest m u) = swapScreens p.other p m v := by
  obtain ⟨hout, -⟩ := leadPair_eq_some h.pair
  rw [h.swapPointTest, h.reachSwapPoint, hready, if_pos rfl]
  by_cases hreached : u.seq.swapReached = true
  · have hdue : u.seq.swapDue = true := hdue.resolve_left fun hnew => by rw [hnew] at hreached; cases hreached
    refine ⟨u, h.engaged, rfl, ?_⟩
    rw [if_pos hreached, lateSwapTest, if_pos ⟨decide_eq_true h.engaged, hdue⟩, hout, h.incomingReady, if_pos hready]
  · refine ⟨u.reached, h.engaged, rfl, ?_⟩
    rw [if_neg hreached, lateSwapTest_notDue m (swapScreens_passed p m u.reached).fresh.swapDue]

/-- The four tests pass the screen to a ready projector, and no lead test follows (R73, R79). -/
theorem sequencerTests_swapped (h : AtSwapPoint u p i) (hready : u.ready p.other = true)
    (hdue : u.seq.swapReached = false ∨ u.seq.swapDue = true) :
    Passed p (sequencerTests u) ∧ (sequencerTests u).seq.automation = .engaged ∧ (sequencerTests u).cond = u.cond := by
  obtain ⟨hout, -⟩ := leadPair_eq_some h.pair
  obtain ⟨v, hengaged, hcond, hswap⟩ := h.swapped (m := .atBoundary) hready hdue
  have hpassed := swapScreens_passed p .atBoundary v
  rw [sequencerTests, hswap, hout, leadTests_of_ne hpassed.outgoing_ne]
  exact ⟨hpassed, by simpa using hengaged, by simpa using hcond⟩

/-- What stands when the swap-point test has been made with the incoming projector not ready. -/
structure Reached (u w : State) : Prop where
  reels : w.reels = u.reels
  proj : w.proj = u.proj
  lamp : w.lamp = u.lamp
  fire : w.fire = u.fire
  store : w.store = u.store
  strikeTaken : w.seq.strikeTaken = u.seq.strikeTaken
  motorTaken : w.seq.motorTaken = u.seq.motorTaken
  withholding : w.seq.withholding = u.seq.withholding
  countdown : w.seq.countdown = u.seq.countdown
  automation : w.seq.automation =
    if u.seq.swapReached = false then automationAfter u .missedChangeover else u.seq.automation
  missed : u.seq.swapReached = false →
    (w.record .missedChangeover).accrued = true ∧ w.seq.swapReached = true ∧ w.seq.swapDue = true

theorem reached (h : AtSwapPoint u p i) (hready : u.ready p.other = false) :
    Reached u (Machine.swapPointTest m u) := by
  obtain ⟨-, hi, -⟩ := leadPair_eq_some h.pair
  rw [h.swapPointTest_unready hready]
  by_cases hreached : u.seq.swapReached = true
  · rw [if_pos hreached]
    have hnot : u.seq.swapReached ≠ false := by rw [hreached]; exact Bool.noConfusion
    exact ⟨rfl, rfl, rfl, rfl, rfl, rfl, rfl, rfl, rfl, (if_neg hnot).symm, fun hnew => absurd hnew hnot⟩
  · have hnew : u.seq.swapReached = false := Bool.eq_false_iff.2 hreached
    have hraised := (missChangeover_raised p u.reached).1
    rw [if_neg hreached]
    rw [missChangeover_eq] at hraised ⊢
    refine ⟨rfl, rfl, rfl, rfl, rfl, rfl, rfl, rfl, rfl, ?_, fun _ => ⟨hraised, rfl, ?_⟩⟩
    · rw [hnew, if_pos rfl]
      exact automationAfter_congr rfl rfl _
    · have hsome : u.reached.incomingReel.isSome = true := by
        rw [show u.reached.incomingReel = some i from hi]
        rfl
      dsimp only
      rw [hsome, Bool.or_true]

/-- No late swap follows: the incoming projector is not ready. -/
theorem sequencerTests_unready (h : AtSwapPoint u p i) (hready : u.ready p.other = false) :
    sequencerTests u = leadTests (some p) (Machine.swapPointTest .atBoundary u) := by
  have hreached := h.reached (m := .atBoundary) hready
  have hnone : (Machine.swapPointTest .atBoundary u).incomingReady = none := by
    have hpair : (Machine.swapPointTest .atBoundary u).leadPair = some (p, i) := by
      rw [← h.pair]
      exact leadPair_congr (by rw [hreached.reels]) fun q => by rw [State.onScreen, hreached.proj]; rfl
    obtain ⟨-, hi, -⟩ := leadPair_eq_some hpair
    refine incomingReady_none fun y hy => .inr ?_
    obtain rfl := Option.some.inj (hi.symm.trans hy)
    rw [h.opposite, ← hready]
    simp only [State.ready, State.screenAllowed, State.fireAllows, hreached.proj, hreached.lamp, hreached.fire]
  have hlate : lateSwapTest .atBoundary (Machine.swapPointTest .atBoundary u) = Machine.swapPointTest .atBoundary u := by
    unfold lateSwapTest
    rw [hnone]
    (repeat' split) <;> trivial
  obtain ⟨hout, -⟩ := leadPair_eq_some h.pair
  rw [sequencerTests, hlate, hout]

end AtSwapPoint

/-! ### What the lead tests leave of a missed changeover -/

/-- Conditions only accrue, and the flags of the changeover stand. -/
structure Recalls (s t : State) : Prop where
  accrued : AccruedKept s t
  reached : t.seq.swapReached = s.seq.swapReached
  due : t.seq.swapDue = s.seq.swapDue

theorem Recalls.refl (s : State) : Recalls s s := ⟨.of_cond rfl, rfl, rfl⟩

theorem Recalls.trans (h : Recalls s t) (h' : Recalls t u) : Recalls s u :=
  ⟨h.accrued.trans h'.accrued, h'.reached.trans h.reached, h'.due.trans h.due⟩

theorem raiseUnordered_recalls (o : Side) (s : State) : Recalls s (raiseUnordered o s) := by
  unfold raiseUnordered
  split
  · exact .refl s
  · exact ⟨raiseCondition_accrues _ _ (s.onSeq _), by simp, by simp⟩

theorem unawareTest_recalls {o : Side} {lead : Nat} {act : State → State} (h : Recalls s (act s)) :
    Recalls s (unawareTest o lead act s) := by
  unfold unawareTest
  (repeat' split)
  · exact raiseUnordered_recalls o s
  · exact h
  · exact .refl s

theorem withholdStrike_recalls (x : Withholding) (d : Detail) (s : State) : Recalls s (withholdStrike x d s) := by
  refine ⟨?_, by simp, by simp⟩
  unfold withholdStrike
  split
  · exact .of_cond rfl
  · exact raiseCondition_accrues _ _ (s.onSeq _)

theorem strikeIncoming_recalls (o : Side) (r : Reel) (m : Moment) (s : State) : Recalls s (strikeIncoming o r m s) := by
  unfold strikeIncoming
  split
  · exact ⟨.of_cond (by simp), by simp, by simp⟩
  · exact withholdStrike_recalls ..

theorem strikeTest_recalls (m : Moment) (s : State) : Recalls s (strikeTest m s) := by
  unfold strikeTest
  (repeat' split)
  · exact .refl s
  · exact unawareTest_recalls (strikeIncoming_recalls ..)
  · exact .refl s

theorem startIncoming_recalls (r : Reel) (m : Moment) (s : State) : Recalls s (startIncoming r m s) := by
  refine ⟨.of_cond (by simp), ?_, ?_⟩ <;> unfold startIncoming askStart startMotor <;> split <;> rfl

theorem motorTest_recalls (m : Moment) (s : State) : Recalls s (motorTest m s) := by
  unfold motorTest
  split
  · exact .refl s
  · exact unawareTest_recalls (startIncoming_recalls ..)

theorem leadTests_recalls (evaluated : Option Side) (s : State) : Recalls s (leadTests evaluated s) := by
  have hstrike : Recalls s (if s.outgoing = evaluated then strikeTest .atBoundary s else s) := by
    split
    · exact strikeTest_recalls ..
    · exact .refl s
  unfold leadTests
  dsimp only
  generalize (if s.outgoing = evaluated then strikeTest .atBoundary s else s) = u at hstrike ⊢
  split
  · exact hstrike.trans (motorTest_recalls ..)
  · exact hstrike

/-! ### The lead tests (R74, R76) -/

theorem leadTests_idle (evaluated : Option Side) (h : s.seq.automation ≠ .engaged) : leadTests evaluated s = s := by
  unfold leadTests
  dsimp only
  rw [strikeTest_idle _ h, ite_self, motorTest_idle _ h, ite_self]

/-- Both lead tests are to be made, with the countdown at 0. -/
structure AtLead (w : State) (p : Side) (i : Reel) : Prop where
  engaged : w.seq.automation = .engaged
  pair : w.leadPair = some (p, i)
  ordered : w.seq.countdown.state = .ordered
  zero : w.seq.countdown.t = some 0
  fire : w.fireAllows = true
  dark : (w.lamp.get i.projector).state = .dark
  threaded : (w.proj.get i.projector).state = .threaded
  strikeTaken : w.seq.strikeTaken = false
  motorTaken : w.seq.motorTaken = false

/-- A projector whose motor is started at a boundary (R63). -/
theorem startIncoming_atBoundary (hthreaded : (s.proj.get i.projector).state = .threaded) (hfire : s.fireAllows = true) :
    startIncoming i .atBoundary s =
      { s.onProj i.projector fun x => { x.started with runUpTimer := some 120 } with
        seq := { s.seq with motorTaken := true } } := by
  have hallowed : s.startAllowed i.projector = true := by rw [State.startAllowed, hthreaded, hfire]; rfl
  rw [startIncoming, askStart, if_pos hallowed]
  rfl

namespace AtLead

theorem strikeTest (h : AtLead w p i) : strikeTest m w = strikeIncoming p i m w := by
  rw [strikeTest_asked h.pair h.engaged h.dark h.strikeTaken]
  exact unawareTest_within h.ordered h.zero (Nat.zero_le _)

/-- The motor test starts the incoming projector, the strike test having left the sequencer ENGAGED. -/
theorem motorTest (h : AtLead w p i) (hengaged : v.seq.automation = .engaged) (hmotor : v.seq.motorTaken = false)
    (hreels : v.reels = w.reels) (hproj : v.proj = w.proj) (hcountdown : v.seq.countdown = w.seq.countdown) :
    motorTest m v = startIncoming i m v := by
  have hpair : v.leadPair = some (p, i) := by
    rw [← h.pair]
    exact leadPair_congr (by rw [hreels]) fun q => by rw [State.onScreen, hproj]; rfl
  have hmotorPair : v.motorPair = some (p, i) := by
    rw [State.motorPair, hpair]
    exact if_pos ⟨decide_eq_true hengaged, by rw [hproj]; exact h.threaded, hmotor⟩
  rw [motorTest_asked hmotorPair]
  exact unawareTest_within (by rw [hcountdown]; exact h.ordered) (by rw [hcountdown]; exact h.zero) (Nat.zero_le _)

theorem leadTests (h : AtLead w p i) :
    leadTests (some p) w = Machine.motorTest .atBoundary (strikeIncoming p i .atBoundary w) := by
  obtain ⟨hout, -⟩ := leadPair_eq_some h.pair
  have hkept : (strikeIncoming p i .atBoundary w).outgoing = some p := by
    rw [← hout]
    exact outgoing_congr fun q => by simp [State.onScreen]
  unfold Machine.leadTests
  rw [hout, if_pos rfl, h.strikeTest]
  exact if_pos hkept

/-- A rod that suffices: the lamp is struck and the motor started. -/
theorem struck (h : AtLead w p i) (hrod : w.rodSuffices i = true) :
    let t := Machine.leadTests (some p) w
    t.seq.automation = .engaged ∧ t.seq.strikeTaken = true ∧ t.seq.motorTaken = true
      ∧ (t.lamp.get i.projector).state = .settling ∧ (t.lamp.get i.projector).settlingTimer = some 40
      ∧ (t.proj.get i.projector).state = .starting ∧ (t.proj.get i.projector).runUpTimer = some 120 := by
  intro t
  have hx : strikeIncoming p i .atBoundary w =
      (beginStrike i.projector .atBoundary w).onSeq fun q => { q with strikeTaken := true } := by
    rw [strikeIncoming, if_pos hrod, automaticStrike_allowed h.dark h.fire]
  have ht : t = startIncoming i .atBoundary
      ((beginStrike i.projector .atBoundary w).onSeq fun q => { q with strikeTaken := true }) := by
    rw [← hx]
    refine h.leadTests.trans (h.motorTest ?_ ?_ (by simp) (by simp) (by simp)) <;> rw [hx]
    · simpa using h.engaged
    · simpa using h.motorTaken
  have hlamp : (t.lamp.get i.projector) = (beginStrike i.projector .atBoundary w).lamp.get i.projector := by
    rw [ht]; simp
  rw [beginStrike_eq, Both.get_set_same] at hlamp
  rw [startIncoming_atBoundary (by simpa using h.threaded) (by simpa [State.fireAllows] using h.fire)] at ht
  refine ⟨?_, ?_, ?_, by rw [hlamp], by rw [hlamp]; rfl, ?_, ?_⟩ <;> rw [ht]
  · simpa using h.engaged
  · simp
  · simp [Projector.started]
  · simp

/-- A shorter rod: the strike is withheld, and the motor is started unless that halts. -/
theorem withheld (h : AtLead w p i) (hrod : w.rodSuffices i = false) (hnone : w.seq.withholding = none) :
    let t := Machine.leadTests (some p) w
    (t.record .rodShort).accrued = true ∧ t.current .rodShort = true ∧ t.seq.strikeTaken = false
      ∧ (t.lamp.get i.projector).state = .dark
      ∧ (automationAfter w .rodShort = .halted →
          t.seq.automation = .halted ∧ t.seq.motorTaken = false ∧ (t.proj.get i.projector).state = .threaded)
      ∧ (automationAfter w .rodShort = .engaged →
          t.seq.automation = .engaged ∧ t.seq.motorTaken = true
            ∧ (t.proj.get i.projector).state = .starting ∧ (t.proj.get i.projector).runUpTimer = some 120) := by
  intro t
  have hx : strikeIncoming p i .atBoundary w = withholdStrike
      { lamp := i.projector, reel := i.number, outgoing := some p } (w.detailOf (.lamp i.projector) p) w := by
    rw [strikeIncoming, hrod, if_neg Bool.false_ne_true]
  generalize hd : w.detailOf (.lamp i.projector) p = d at hx
  generalize hy : ({ lamp := i.projector, reel := i.number, outgoing := some p } : Withholding) = y at hx
  obtain ⟨⟨haccrued, -⟩, hcurrent, heq⟩ := withholdStrike_made (w := y) d (s := w) (by rw [hnone]; exact (Option.some_ne_none y).symm)
  have ht : t = Machine.motorTest .atBoundary (withholdStrike y d w) := by rw [← hx]; exact h.leadTests
  have hautomation : (withholdStrike y d w).seq.automation = automationAfter w .rodShort := by rw [heq]
  have hdark : ((withholdStrike y d w).lamp.get i.projector).state = .dark := by simpa using h.dark
  have hthreaded : ((withholdStrike y d w).proj.get i.projector).state = .threaded := by simpa using h.threaded
  have hfire : (withholdStrike y d w).fireAllows = true := by simpa [State.fireAllows] using h.fire
  have hmotor : (withholdStrike y d w).seq.motorTaken = false := by simpa using h.motorTaken
  have hstrike : (withholdStrike y d w).seq.strikeTaken = false := by simpa using h.strikeTaken
  by_cases hengaged : (withholdStrike y d w).seq.automation = .engaged
  · rw [h.motorTest hengaged hmotor (by simp) (by simp) (by simp), startIncoming_atBoundary hthreaded hfire] at ht
    have hnot : automationAfter w .rodShort ≠ .halted := by
      rw [← hautomation, hengaged]
      decide
    refine ⟨?_, ?_, ?_, ?_, fun hhalted => absurd hhalted hnot, fun _ => ?_⟩ <;> rw [ht]
    · exact haccrued
    · exact hcurrent
    · exact hstrike
    · exact hdark
    · exact ⟨hengaged, rfl, by simp [Projector.started], by simp⟩
  · rw [motorTest_idle _ hengaged] at ht
    rw [ht]
    refine ⟨haccrued, hcurrent, hstrike, hdark, fun hhalted => ⟨hautomation.trans hhalted, hmotor, hthreaded⟩,
      fun hon => absurd (hautomation.trans hon) hengaged⟩

end AtLead

end

end Sys2Proof.Machine
end

section
/-! The four tests of a quiet boundary at the swap point (R73, R77, R79), and the statement on the lead tests. -/

namespace Sys2Proof.Machine

open Sys2Proof

section
variable {s t u v w : State} {p : Side} {o i : Reel} {r : Readings}

/-! ### The countdown of a record that has run to its end (R89 to R93) -/

theorem roundingAdds_exact (rounding q : Nat) : roundingAdds rounding q .exact = 0 := by
  unfold roundingAdds
  split <;> first | rfl | contradiction

theorem evaluate_ended {f e rate stall rounding : Nat} {raised : Bool} (hend : e ≤ f) (hrate : stall ≤ rate) :
    (evaluate f e rate stall rounding raised).state = .ordered
      ∧ (evaluate f e rate stall rounding raised).t = some 0
      ∧ (evaluate f e rate stall rounding raised).overrun = true := by
  have hzero : e - f = 0 := Nat.sub_eq_zero_of_le hend
  have hexact : remainderClass 0 rate = .exact := if_pos rfl
  unfold evaluate
  dsimp only
  rw [if_neg hrate.not_gt, hzero, Nat.mul_zero, Nat.zero_div, Nat.zero_mod, hexact, roundingAdds_exact]
  exact ⟨rfl, rfl, decide_eq_true hend⟩

theorem countdownAtSwap_of (hordered : s.seq.countdown.state = .ordered) (ht : s.seq.countdown.t = some 0)
    (hover : s.seq.countdown.overrun = true) : s.countdownAtSwap = true := by
  simp [State.countdownAtSwap, hordered, ht, hover]

theorem ordered_of_countdownAtSwap (h : s.countdownAtSwap = true) :
    s.seq.countdown.state = .ordered ∧ s.seq.countdown.t = some 0 := by
  simp only [State.countdownAtSwap, Bool.and_eq_true, decide_eq_true_eq] at h
  exact h.1

/-! ### What the frame of a quiet boundary is judged on -/

/-- A record of a reel number as its house cue leaves it, once taken (R132). -/
def Reel.cueMarked (n : Nat) (y : Reel) : Reel := if y.number = n then { y with cueTaken := true } else y

theorem cueMarked_cueOnly (n : Nat) : CueOnly (Reel.cueMarked n) := fun y => by
  unfold Reel.cueMarked
  split
  · exact ⟨true, rfl⟩
  · exact ⟨y.cueTaken, rfl⟩

theorem takeHouseCue_records (e : Reel) (c : HouseCue) (s : State) :
    (takeHouseCue e c s).reels.records = s.reels.records.map (Reel.cueMarked e.number) := by
  rw [takeHouseCue, automaticFade_eq]
  rfl

/-- The house cue is all that is judged of the list, and it bears on the cue taken flag alone (R132). -/
theorem judgeHouseCue_cueOnly (s : State) :
    ∃ g, CueOnly g ∧ (judgeHouseCue s).reels.records = s.reels.records.map g := by
  have hsame : ∃ g, CueOnly g ∧ s.reels.records = s.reels.records.map g :=
    ⟨id, fun y => ⟨y.cueTaken, rfl⟩, (List.map_id _).symm⟩
  unfold judgeHouseCue
  split
  · exact hsame
  · rename_i e _
    (repeat' split)
    · exact ⟨_, cueMarked_cueOnly e.number, takeHouseCue_records ..⟩
    · exact hsame
    · exact hsame

theorem judged_leadPair (h : s.leadPair = some (p, i)) : ∃ g, CueOnly g ∧ (judged s).leadPair = some (p, g i) := by
  obtain ⟨g, hg, hrecords⟩ := judgeHouseCue_cueOnly (judgeWindow (sendFrame s))
  refine ⟨g, hg, ?_⟩
  rw [hg.leadPair (s := s) (by rw [judged, hrecords]; simp) fun q => judged_onScreen s q, h]
  rfl

theorem judged_state (s : State) (q : Side) : ((judged s).proj.get q).state = (s.proj.get q).state := by
  rw [judged_proj, (judgeWindow_only (sendFrame s)).2 q]
  rfl

/-- What a boundary's tests find of the booth before it: nothing is stirred, and the countdown is that of the boundary. -/
structure Presented (s u : State) : Prop where
  seq : u.seq = { s.seq with countdown := u.seq.countdown }
  cond : u.cond = s.cond
  fire : u.fire = s.fire
  working : u.store.working = s.store.working
  state : ∀ q, (u.proj.get q).state = (s.proj.get q).state
  pending : ∀ q, (s.proj.get q).startPending = false → (u.proj.get q).startPending = false
  lamp : ∀ q, (u.lamp.get q).state = (s.lamp.get q).state
  stock : ∀ q, (s.lamp.get q).state = .dark → (u.lamp.get q).stock = (s.lamp.get q).stock

theorem countdownStep_seq (s : State) :
    (countdownStep s).seq = { s.seq with countdown := (countdownStep s).seq.countdown } := by
  unfold countdownStep
  split <;> rfl

theorem Hushed.notPassed (h : Hushed r s.counted) : s.screenPassed (rampStep (Machine.ownWork r s)) = false := by
  rw [Bool.eq_false_iff, Ne, screenPassed_iff]
  rintro ⟨q, hon, hoff⟩
  rw [rampStep_onScreen, h.ownWork.onScreen, counted_onScreen, hoff] at hon
  cases hon

theorem Hushed.presented (h : Hushed r s.counted) : Presented s (judged (framed r s)) := by
  have hwork := h.ownWork
  have hcounted (q : Side) : (s.counted.proj.get q).state = (s.proj.get q).state := by rw [counted_get]; rfl
  have hframed : framed r s = countdownStep (rampStep (Machine.ownWork r s)) := framed_evaluated h.notPassed
  refine ⟨?_, ?_, ?_, ?_, fun q => ?_, fun q hq => (judged_counts _ q).pending ((framed_counts r s q).pending ?_),
    fun q => ?_, fun q hq => ?_⟩
  · have hseq : (judged (framed r s)).seq = (framed r s).seq := by simp [judged]
    rw [hseq, hframed, countdownStep_seq]
    simp only [rampStep_frame, hwork.seq]
    rfl
  · simp only [judged, judgeHouseCue_frame, judgeWindow_frame, sendFrame_frame, hframed, countdownStep_frame,
      rampStep_frame, hwork.cond]
    rfl
  · simp only [judged, judgeHouseCue_frame, judgeWindow_frame, sendFrame_frame, hframed, countdownStep_frame,
      rampStep_frame, hwork.fire]
    rfl
  · simp only [judged, judgeHouseCue_frame, judgeWindow_frame, sendFrame_frame, hframed, countdownStep_frame,
      rampStep_frame, hwork.working]
    rfl
  · rw [judged_state, framed_proj, hwork.state, hcounted]
  · rw [counted_get]
    exact hq
  · simp only [judged, judgeHouseCue_frame, judgeWindow_frame, sendFrame_frame, framed_lamp, hwork.lamp]
    rfl
  · simp only [judged, judgeHouseCue_frame, judgeWindow_frame, sendFrame_frame, framed_lamp]
    exact hwork.stock q hq

theorem Unstirred.steady (h : Unstirred s t) : Steady s t :=
  ⟨h.screen, h.seq ▸ .refl _, fun q _ => by rw [State.boundReel, h.reels]; rfl⟩

/-- The countdown of a quiet boundary whose record has run to its end. -/
theorem Hushed.countdownAtSwap (h : Hushed r s.counted) (hp : s.onScreen p = true) (hother : s.onScreen p.other = false)
    (ho : s.boundReel p = some o) (hend : o.effectiveEnd ≤ (s.proj.get p).f)
    (hstall : s.store.working.stall ≤ (s.proj.get p).rateCounted.rate) : (framed r s).countdownAtSwap = true := by
  have hshows : (Machine.ownWork r s).onScreen p = true := (h.ownWork.onScreen p).trans ((counted_onScreen s p).trans hp)
  have hcountdown := framed_showing h.ownWork.steady hshows hother ho
  have hrate : ((boundary r s).proj.get p).rate = (s.proj.get p).rateCounted.rate := by
    rw [(boundary_counts r s p).rate, counted_get]
  rw [hrate] at hcountdown
  obtain ⟨hordered, hzero, hover⟩ := evaluate_ended (rounding := s.store.working.rounding)
    (raised := s.seq.countdown.raised) hend hstall
  rw [← hcountdown] at hordered hzero hover
  exact countdownAtSwap_of hordered hzero hover

theorem Hushed.framed_leadPair (h : Hushed r s.counted) : (framed r s).leadPair = s.leadPair := by
  refine leadPair_congr ?_ fun q => ?_
  · rw [framed_evaluated h.notPassed, (countdownStep_frame _).2.2.1, (rampStep_frame _).2.2.1, h.ownWork.reels]
    rfl
  · rw [framed_onScreen, h.ownWork.onScreen, counted_onScreen]

/-- A quiet boundary whose record has run to its end makes its tests at the swap point. -/
theorem Hushed.atSwapPoint (h : Hushed r s.counted) (hengaged : s.seq.automation = .engaged)
    (hpair : s.leadPair = some (p, i)) (hopposite : i.projector = p.other) (hfire : s.fireAllows = true)
    (hcountdown : (framed r s).countdownAtSwap = true) :
    ∃ g, CueOnly g ∧ AtSwapPoint (judged (framed r s)) p (g i) := by
  have hpresented := h.presented
  have hsame : (judged (framed r s)).seq = (framed r s).seq := by simp [judged]
  obtain ⟨g, hg, hjudged⟩ := judged_leadPair (h.framed_leadPair.trans hpair)
  refine ⟨g, hg, ?_, hjudged, (hg.projector i).trans hopposite, ?_, ?_⟩
  · rw [hpresented.seq]; exact hengaged
  · rw [State.countdownAtSwap, hsame]; exact hcountdown
  · rw [State.fireAllows, hpresented.fire]; exact hfire

/-- No start is pending after the tests of a boundary that began with none. -/
theorem boundary_tests (h : Hushed r s.counted) (hpending : ∀ q, (s.proj.get q).startPending = false) :
    boundary r s = sequencerTests (judged (framed r s)) := by
  rw [boundary_evaluated h.notPassed]
  refine showStarts_idle fun q => ?_
  have hnone := (sequencerTests_counts (judged (framed r s)) q).pending (h.presented.pending q (hpending q))
  rw [State.starting, hnone, Bool.and_false]

/-! ### The halts (R159) -/

theorem halts_missedChangeover (s : Settings) : haltsAutomation s .missedChangeover = decide (s.halts[2] = 1) := by
  change (s.halts[2]?.getD 0 == 1) = _
  rw [Vector.getElem?_eq_getElem (by decide)]
  rfl

theorem halts_rodShort (s : Settings) : haltsAutomation s .rodShort = decide (s.halts[7] = 1) := by
  change (s.halts[7]?.getD 0 == 1) = _
  rw [Vector.getElem?_eq_getElem (by decide)]
  rfl

theorem automationAfter_engaged (hengaged : s.seq.automation = .engaged) (k : Condition) :
    automationAfter s k = if haltsAutomation s.store.working k = true then .halted else .engaged := by
  rw [automationAfter, hengaged]
  simp

/-! ### The four tests with the incoming projector THREADED and its lamp DARK -/

/-- What the statement asks of the tests when the changeover may be missed and the strike withheld. -/
structure TestedApart (s t : State) (p : Side) (missed withheld : Bool) : Prop where
  missing : missed = true →
    (t.record .missedChangeover).accrued = true ∧ t.seq.swapDue = true ∧ t.seq.swapReached = true
  halted : missed = true ∧ s.store.working.halts[2] = 1 →
    t.seq.automation = .halted ∧ t.seq.strikeTaken = false ∧ t.seq.motorTaken = false ∧ t.seq.withholding = none
      ∧ (t.lamp.get p.other).state = .dark ∧ (t.proj.get p.other).state = .threaded
  withholding : ¬(missed = true ∧ s.store.working.halts[2] = 1) → withheld = true →
    (t.record .rodShort).accrued = true ∧ t.current .rodShort = true ∧ t.seq.strikeTaken = false
      ∧ (t.lamp.get p.other).state = .dark
      ∧ (s.store.working.halts[7] = 1 →
          t.seq.automation = .halted ∧ t.seq.motorTaken = false ∧ (t.proj.get p.other).state = .threaded)
      ∧ (s.store.working.halts[7] ≠ 1 →
          t.seq.automation = .engaged ∧ t.seq.motorTaken = true
            ∧ (t.proj.get p.other).state = .starting ∧ (t.proj.get p.other).runUpTimer = some 120)
  striking : ¬(missed = true ∧ s.store.working.halts[2] = 1) → withheld = false →
    t.seq.automation = .engaged ∧ t.seq.strikeTaken = true ∧ t.seq.motorTaken = true
      ∧ (t.lamp.get p.other).state = .settling ∧ (t.lamp.get p.other).settlingTimer = some 40
      ∧ (t.proj.get p.other).state = .starting ∧ (t.proj.get p.other).runUpTimer = some 120

/-- The automation after the swap-point test: HALTED by a missed changeover that halts, else ENGAGED (R79, R159). -/
theorem AtSwapPoint.Reached.automation_cases (h : AtSwapPoint.Reached u w) (hengaged : u.seq.automation = .engaged) :
    w.seq.automation =
      if u.seq.swapReached = false ∧ u.store.working.halts[2] = 1 then .halted else .engaged := by
  rw [h.automation, hengaged, automationAfter_engaged hengaged, halts_missedChangeover]
  by_cases hnew : u.seq.swapReached = false <;> simp [hnew]

theorem ready_threaded (h : (s.proj.get p).state = .threaded) : s.ready p = false := by
  rw [Bool.eq_false_iff]
  intro hready
  rw [((ready_iff s p).1 hready).1] at h
  cases h

/-- The lead tests are made on what the swap-point test leaves ENGAGED. -/
theorem AtSwapPoint.Reached.atLead (h : AtSwapPoint.Reached u w) (hu : AtSwapPoint u p i)
    (hengaged : w.seq.automation = .engaged) (hdark : (u.lamp.get p.other).state = .dark)
    (hthreaded : (u.proj.get p.other).state = .threaded) (hstrike : u.seq.strikeTaken = false)
    (hmotor : u.seq.motorTaken = false) : AtLead w p i := by
  obtain ⟨hordered, hzero⟩ := ordered_of_countdownAtSwap hu.countdown
  refine ⟨hengaged, ?_, by rw [h.countdown]; exact hordered, by rw [h.countdown]; exact hzero, ?_, ?_, ?_,
    h.strikeTaken.trans hstrike, h.motorTaken.trans hmotor⟩
  · rw [← hu.pair]
    exact leadPair_congr (by rw [h.reels]) fun q => by rw [State.onScreen, h.proj]; rfl
  · rw [State.fireAllows, h.fire]; exact hu.fire
  · rw [h.lamp, hu.opposite]; exact hdark
  · rw [h.proj, hu.opposite]; exact hthreaded

theorem AtSwapPoint.tested (hu : AtSwapPoint u p i) (hstrike : u.seq.strikeTaken = false)
    (hmotor : u.seq.motorTaken = false) (hnone : u.seq.withholding = none) (hdark : (u.lamp.get p.other).state = .dark)
    (hthreaded : (u.proj.get p.other).state = .threaded) :
    TestedApart u (sequencerTests u) p (!u.seq.swapReached) (!u.rodSuffices i) := by
  have hready := ready_threaded hthreaded
  have hreached := hu.reached (m := .atBoundary) hready
  rw [hu.sequencerTests_unready hready]
  generalize Machine.swapPointTest .atBoundary u = w at hreached
  have hautomation := hreached.automation_cases hu.engaged
  have hrecalls := leadTests_recalls (some p) w
  have hmissed {b : Bool} : (!b) = true ↔ b = false := by cases b <;> decide
  have hrod : w.rodSuffices i = u.rodSuffices i := by
    rw [State.rodSuffices, State.rodSuffices, hreached.store, hreached.lamp]
  have hshort (hengaged : w.seq.automation = .engaged) :
      automationAfter w .rodShort = if u.store.working.halts[7] = 1 then .halted else .engaged := by
    rw [automationAfter_engaged hengaged, halts_rodShort, hreached.store]
    simp
  refine ⟨fun hnew => ?_, fun hhalts => ?_, fun hgoes hwithheld => ?_, fun hgoes hsuffices => ?_⟩
  · obtain ⟨haccrued, hwas, hdue⟩ := hreached.missed (hmissed.1 hnew)
    exact ⟨hrecalls.accrued _ haccrued, hrecalls.due.trans hdue, hrecalls.reached.trans hwas⟩
  · rw [hmissed] at hhalts
    rw [if_pos hhalts] at hautomation
    rw [leadTests_idle _ (by rw [hautomation]; decide), hreached.strikeTaken, hreached.motorTaken,
      hreached.withholding, hreached.lamp, hreached.proj]
    exact ⟨hautomation, hstrike, hmotor, hnone, hdark, hthreaded⟩
  · rw [hmissed] at hgoes
    rw [if_neg hgoes] at hautomation
    have hlead := hreached.atLead hu hautomation hdark hthreaded hstrike hmotor
    obtain ⟨haccrued, hcurrent, hnot, hstays, hhalting, hgoing⟩ :=
      hlead.withheld (hrod.trans (hmissed.1 hwithheld)) (hreached.withholding.trans hnone)
    rw [hu.opposite] at hstays hhalting hgoing
    refine ⟨haccrued, hcurrent, hnot, hstays, fun h7 => hhalting ?_, fun h7 => hgoing ?_⟩
    · rw [hshort hautomation, if_pos h7]
    · rw [hshort hautomation, if_neg h7]
  · rw [hmissed] at hgoes
    rw [if_neg hgoes] at hautomation
    have hlead := hreached.atLead hu hautomation hdark hthreaded hstrike hmotor
    have hstruck := hlead.struck (hrod.trans (by simpa using hsuffices))
    rwa [hu.opposite] at hstruck

/-! ### The statement -/

/-- The ownership of a quiet booth's motors, the other projector being neither INCHING nor STARTING. -/
theorem quiet_motors (hp : s.onScreen p = true)
    (hother : (s.proj.get p.other).state ≠ .inching ∧ (s.proj.get p.other).state ≠ .starting) (q : Side) :
    (s.proj.get q).state ≠ .inching ∧ (s.proj.get q).state ≠ .starting :=
  Side.forall_of_both (P := fun q => (s.proj.get q).state ≠ .inching ∧ (s.proj.get q).state ≠ .starting) p
    (by rw [(onScreen_iff s p).1 hp]; decide) hother q

end

end Sys2Proof.Machine
end

section
/-! The statement on the lead tests (R73, R74, R76, R79, R97, R100). -/

namespace Sys2Proof.Machine

open Sys2Proof

section
variable {s u : State} {p : Side} {o i : Reel} {r : Readings}

/-- The rod of a DARK lamp is no shorter after the blocks' own work, and the need of its record is the same. -/
theorem Presented.rodSuffices (h : Presented s u) {g : Reel → Reel} (hg : CueOnly g)
    (hdark : (s.lamp.get i.projector).state = .dark) : u.rodSuffices (g i) = s.rodSuffices i := by
  obtain ⟨taken, hi⟩ := hg i
  rw [hi, State.rodSuffices, State.rodSuffices, h.working, h.stock _ hdark]
  rfl

/-- What a boundary shows when it gives the screen to the ready projector, the changeover not being missed. -/
structure TestedSwap (s t : State) (p : Side) : Prop where
  shows : t.onScreen p.other = true
  runout : (t.proj.get p).state = .runout
  engaged : t.seq.automation = .engaged
  strikeTaken : t.seq.strikeTaken = false
  motorTaken : t.seq.motorTaken = false
  swapReached : t.seq.swapReached = false
  swapDue : t.seq.swapDue = false
  missed : t.record .missedChangeover = s.record .missedChangeover

theorem AtSwapPoint.testedSwap (hu : AtSwapPoint u p i) (hready : u.ready p.other = true)
    (hdue : u.seq.swapReached = false ∨ u.seq.swapDue = true) : TestedSwap u (sequencerTests u) p := by
  obtain ⟨hpassed, hengaged, hcond⟩ := hu.sequencerTests_swapped hready hdue
  exact ⟨hpassed.shows, hpassed.runout, hengaged, hpassed.fresh.strikeTaken, hpassed.fresh.motorTaken,
    hpassed.fresh.swapReached, hpassed.fresh.swapDue, by rw [State.record, hcond]; rfl⟩

/-- A quiet boundary at the swap point of an ordinary pair: the tests of the booth as it stood before, but for the countdown
and the cue taken flag. -/
theorem quiet_boundary (hquiet : s.Quiet r p) (hengaged : s.seq.automation = .engaged)
    (hpair : s.leadPair = some (p, i)) (ho : s.outgoingReel = some o) (hopposite : i.projector = p.other)
    (hend : o.effectiveEnd ≤ (s.proj.get p).f) (hstall : s.store.working.stall ≤ (s.proj.get p).rateCounted.rate)
    (hmotor : (s.proj.get p.other).state ≠ .inching ∧ (s.proj.get p.other).state ≠ .starting) :
    ∃ u g, boundary r s = sequencerTests u ∧ Presented s u ∧ CueOnly g ∧ AtSwapPoint u p (g i) := by
  have hhushed := hushed_of_quiet hquiet (quiet_motors hquiet.1.1 hmotor)
  obtain ⟨⟨hp, hother, -⟩, -, hfire, hunits, -⟩ := hquiet
  obtain ⟨hout, -⟩ := leadPair_eq_some hpair
  rw [State.outgoingReel, hout] at ho
  have hcountdown := hhushed.countdownAtSwap hp hother ho hend hstall
  obtain ⟨g, hg, hat⟩ := hhushed.atSwapPoint hengaged hpair hopposite hfire hcountdown
  exact ⟨_, g, boundary_tests hhushed fun q => (hunits q).1, hhushed.presented, hg, hat⟩

theorem exec_boundary (r : Readings) (s : State) : exec (.linePeriodBoundary r) s = .next (boundary r s) := rfl

/-- Settles O47: the rows are the tests on the record as it stands, and a quiet boundary makes the four in their order on
what its own work leaves. -/
theorem leadTestsFollowTheCountdown : Obligations.LeadTestsFollowTheCountdown := by
  unfold Obligations.LeadTestsFollowTheCountdown
  constructor
  · intro s p o r hengaged hout ho hr
    refine ⟨fun hintermission hlast hbound => ⟨fun lead hthreaded hmotor hordered ht => ?_, ?_⟩, fun hflags => ?_,
      fun hnothing => congrArg Host.Outcome.next (strikeTest_nothing hr hnothing), fun hstill => ?_⟩
    · exact exec_motorTest_ordered (motorPair_some hengaged hout ho hr hintermission hlast hbound hthreaded hmotor)
        hthreaded hordered ht
    · rintro c (⟨rfl, hdark, hstrike⟩ | ⟨rfl, hthreaded, hmotor⟩) hunordered
      · refine unorderedAnswer_of_exec (congrArg Host.Outcome.next ?_)
        rw [strikeTest_asked (leadPair_some hout ho hr hintermission hlast hbound) hengaged hdark hstrike,
          unawareTest_unordered hunordered]
      · refine unorderedAnswer_of_exec (congrArg Host.Outcome.next ?_)
        rw [motorTest_asked (motorPair_some hengaged hout ho hr hintermission hlast hbound hthreaded hmotor),
          unawareTest_unordered hunordered]
    · refine ⟨congrArg Host.Outcome.next (strikeTest_noPair (leadPair_none ho hr hflags)),
        congrArg Host.Outcome.next (motorTest_noPair (motorPair_none (r := r) ho ?_))⟩
      obtain h | h | h := hflags
      · exact .inr (.inl h)
      · exact .inr (.inr (.inl h))
      · exact .inr (.inr (.inr (.inr ⟨hr, .inl h⟩)))
    · refine congrArg Host.Outcome.next (motorTest_noPair (motorPair_none (r := r) ho ?_))
      obtain h | h := hstill
      · exact .inr (.inr (.inr (.inr ⟨hr, .inr h⟩)))
      · exact .inr (.inr (.inr (.inl h)))
  · intro readings s p o i hquiet hengaged ho hi hintermission hlast hbound hopposite hend hstall
    have hout : s.outgoing = some p := (outgoing_eq hquiet.1.2.1).trans (if_pos hquiet.1.1)
    have hpair := leadPair_some hout ho hi hintermission hlast hbound
    refine ⟨_, exec_boundary readings s, ?_, fun hready hdue => ?_⟩
    · rintro missed withheld hstrike hmotor - hnone hdark hthreaded rfl rfl
      obtain ⟨u, g, ht, hu, hg, hat⟩ := quiet_boundary hquiet hengaged hpair ho hopposite hend hstall
        (by rw [hthreaded]; exact ⟨ProjectorState.noConfusion, ProjectorState.noConfusion⟩)
      have hincoming : (s.lamp.get i.projector).state = .dark := by rw [hopposite]; exact hdark
      have htested := hat.tested (by rw [hu.seq]; exact hstrike) (by rw [hu.seq]; exact hmotor)
        (by rw [hu.seq]; exact hnone) ((hu.lamp _).trans hdark) ((hu.state _).trans hthreaded)
      rw [hu.rodSuffices hg hincoming, show u.seq.swapReached = s.seq.swapReached by rw [hu.seq], ← ht] at htested
      obtain ⟨hmissing, hhalted, hwithholding, hstriking⟩ := htested
      rw [hu.working] at hhalted hwithholding hstriking
      exact ⟨hmissing, hhalted, hwithholding, hstriking⟩
    · obtain ⟨u, g, ht, hu, hg, hat⟩ := quiet_boundary hquiet hengaged hpair ho hopposite hend hstall
        (by rw [((ready_iff s _).1 hready).1]; exact ⟨ProjectorState.noConfusion, ProjectorState.noConfusion⟩)
      have hstill : u.ready p.other = true := by
        rw [← hready]
        simp only [State.ready, State.screenAllowed, State.fireAllows, hu.state, hu.lamp, hu.fire]
      obtain ⟨hshows, hrunout, hon, hstrike, hmotor, hreached, hlate, hmissed⟩ :=
        hat.testedSwap hstill (by rw [hu.seq]; exact hdue)
      rw [ht]
      exact ⟨hshows, hrunout, hon, hstrike, hmotor, hreached, hlate,
        hmissed.trans (by rw [State.record, hu.cond]; rfl)⟩

end

end Sys2Proof.Machine
end

section
/-! The rows of the show start, of the house cue and of a douse timer (R82, R84, R131, R132). -/

namespace Sys2Proof.Machine

open Sys2Proof

section
variable {s : State} {p l : Side} {r : Reel} {m : Moment}

/-! ### The show start (R84) -/

/-- A projector unit after the second step of its show start: started, where R63 allows it, and its fade flag set. -/
def State.startFaded (s : State) (p : Side) : Projector :=
  if ((s.proj.get p).state = .threaded ∨ (s.proj.get p).state = .inching) ∧ s.fireAllows = true then
    { (s.proj.get p).started with startFade := true }
  else { s.proj.get p with startFade := true }

/-- The light of the house after a fade of an automatic source (R131, R132). -/
def State.houseFaded (s : State) (percent tenths : Nat) : Light :=
  if s.lights.house.mode = .auto ∧ s.fireAllows = true then s.lights.house.rampTo (percent * 16) tenths
  else s.lights.house

theorem startAllowed_iff (s : State) (p : Side) :
    s.startAllowed p = true ↔
      ((s.proj.get p).state = .threaded ∨ (s.proj.get p).state = .inching) ∧ s.fireAllows = true := by
  simp [State.startAllowed]

theorem showStartFadeAndMotor_taken (hengaged : s.seq.automation = .engaged)
    (hpending : (s.proj.get p).startPending = true) (hlit : (s.lamp.get p).state = .lit)
    (hfade : (s.proj.get p).startFade = false) :
    showStartFadeAndMotor p .between s =
      { s with
        proj := s.proj.set p (s.startFaded p)
        lights := { s.lights with house := s.houseFaded s.store.working.showLevel s.store.working.showRamp } } := by
  rw [showStartFadeAndMotor, if_pos ⟨(starting_iff p s).2 ⟨hengaged, hpending⟩, hlit, hfade⟩]
  dsimp only
  rw [automaticFade_eq]
  generalize hu : State.onProj _ p _ = u
  have hallowed : u.startAllowed p = s.startAllowed p := by
    subst hu
    simp only [State.startAllowed, State.onProj_proj, Both.get_set_same]
    rfl
  unfold askStart State.startFaded
  simp only [hallowed, startAllowed_iff]
  subst hu
  split
  · simp only [startMotor, State.onProj, Both.get_set_same, Both.set_set]
    rfl
  · rfl

/-- Each step of a show start is the sequencer's to take (R84). -/
theorem showStart_idle (h : s.starting p = false) :
    showStartStrike p m s = s ∧ showStartFadeAndMotor p m s = s ∧ showStartOpen p s = s := by
  refine ⟨?_, if_neg (by simp [h]), ?_⟩
  · unfold showStartStrike
    split
    · rfl
    · exact if_neg (by simp [h])
  · unfold showStartOpen
    split
    · rfl
    · exact if_neg (by simp [h])

theorem showStartStrike_burning (h : (s.lamp.get p).state ≠ .dark) : showStartStrike p m s = s := by
  unfold showStartStrike
  split
  · rfl
  · exact if_neg fun hdark => h hdark.2

theorem showStartOpen_taken (hengaged : s.seq.automation = .engaged) (hpending : (s.proj.get p).startPending = true)
    (hr : s.boundReel p = some r) (hleader : r.leader ≤ (s.proj.get p).f) (hopen : s.openAllowed p = true) :
    showStartOpen p s = enterScreen p s := by
  rw [showStartOpen, hr]
  exact if_pos ⟨(starting_iff p s).2 ⟨hengaged, hpending⟩, hleader, hopen⟩

theorem showStartOpen_held
    (h : s.boundReel p = none ∨ (∃ r, s.boundReel p = some r ∧ (s.proj.get p).f < r.leader)
      ∨ (s.proj.get p).state ≠ .running ∨ s.screenAllowed p = false ∨ s.onScreen p.other = true) :
    showStartOpen p s = s := by
  have hheld (hopen : s.openAllowed p ≠ true) : showStartOpen p s = s := by
    unfold showStartOpen
    split
    · rfl
    · exact if_neg fun ht => hopen ht.2.2
  obtain hnone | ⟨r, hr, hleader⟩ | hrest := h
  · rw [showStartOpen, hnone]
  · rw [showStartOpen, hr]
    exact if_neg fun ht => hleader.not_ge ht.2.1
  · refine hheld fun hopen => ?_
    obtain ⟨hrunning, hallowed, halone⟩ := (openAllowed_iff s p).1 hopen
    obtain hstate | hscreen | hother := hrest
    · exact hstate hrunning
    · exact Bool.false_ne_true (hscreen.symm.trans hallowed)
    · exact Bool.false_ne_true (halone.symm.trans hother)

/-! ### The house cue (R132) -/

/-- A house cue is judged on the record of the projector ON_SCREEN and on the countdown's N. -/
theorem judgeHouseCue_eq {c : HouseCue} {n : Nat} (hr : s.outgoingReel = some r) (hc : r.cue = some c)
    (hn : s.seq.countdown.n = some n) :
    judgeHouseCue s =
      if s.engaged = true ∧ r.cueTaken = false ∧ n ≤ c.point then takeHouseCue r c s else s := by
  unfold judgeHouseCue
  simp only [hr, hc, hn]

theorem takeHouseCue_eq (r : Reel) (c : HouseCue) (s : State) :
    takeHouseCue r c s =
      { s with
        reels := { s.reels with records := s.reels.records.map (Reel.cueMarked r.number) }
        lights := { s.lights with house := s.houseFaded c.level c.ramp } } := by
  rw [takeHouseCue, automaticFade_eq]
  rfl

/-! ### The douse timer (R82) -/

theorem ReadTimer.due_iff (x : ReadTimer) : ReadTimer.due x = true ↔ x.Last := by
  cases x <;> simp [ReadTimer.due, TimeLeft.due, ReadTimer.Last]

/-- The douse timer of a lamp taken away. -/
def State.undoused (s : State) (l : Side) : State := s.onSeq fun q => { q with douse := q.douse.set l none }

theorem expireDouse_early (h : ¬(s.seq.douse.get l).Last) : expireDouse l s = s :=
  if_neg fun hdue => h ((ReadTimer.due_iff _).1 hdue)

theorem expireDouse_halted (h : (s.seq.douse.get l).Last) (hhalted : s.seq.automation = .halted) :
    expireDouse l s = s.undoused l :=
  (if_pos ((ReadTimer.due_iff _).2 h)).trans (if_pos hhalted)

theorem expireDouse_late (h : (s.seq.douse.get l).Last) (hlive : s.seq.automation ≠ .halted) :
    expireDouse l s = extinguishLamp l (s.undoused l) :=
  (if_pos ((ReadTimer.due_iff _).2 h)).trans (if_neg hlive)

theorem expireDouse_dark (h : (s.seq.douse.get l).Last) (hdark : (s.lamp.get l).state = .dark) :
    expireDouse l s = s.undoused l := by
  by_cases hhalted : s.seq.automation = .halted
  · exact expireDouse_halted h hhalted
  · exact (expireDouse_late h hhalted).trans (extinguishLamp_dark (s := s.undoused l) hdark)

theorem expireDouse_putOut (h : (s.seq.douse.get l).Last) (hlive : s.seq.automation ≠ .halted)
    (hburning : (s.lamp.get l).state ≠ .dark) :
    s.PutOut (expireDouse l s) l ∧ s.LineKept (expireDouse l s) := by
  rw [expireDouse_late h hlive]
  obtain ⟨hline, hrotation, -, -, -, -, hpending, -⟩ := extinguishLamp_frame l (s.undoused l)
  obtain ⟨hlamp, hproj, hreels, hseq, honly, hrest⟩ := extinguishLamp_putOut (s := s.undoused l) hburning
  refine ⟨⟨hlamp, hproj, hreels, ?_, honly, hrest⟩, hline, hrotation, hpending⟩
  refine hseq.trans ?_
  simp only [State.undoused, State.onSeq_seq, Both.set_set]
  rfl

end

end Sys2Proof.Machine
end

section
/-! The house cue of a record that shows through a boundary (R132). -/

namespace Sys2Proof.Machine

open Sys2Proof

section
variable {s : State} {p : Side} {e : Reel} {m : Moment}

/-! ### The tests keep the list where the screen does not pass (R73) -/

/-- An ending changes a record's status only as it passes the screen. -/
theorem takeEnding_reels {o : Side} (e : Reel) (m : Moment) (ho : s.onScreen o = true) :
    (takeEnding o e m s).reels = s.reels ∨ Passed o (takeEnding o e m s) := by
  unfold takeEnding
  split
  · exact .inl (by simp [intermissionEnding])
  · split
    · exact .inl (by simp [lastReelEnding])
    · split
      · rename_i i hi
        obtain rfl := incomingReady_eq ho hi
        exact .inr (swapScreens_passed ..)
      · exact .inl (by simp)

theorem swapPointTest_reels (m : Moment) (s : State) :
    (swapPointTest m s).reels = s.reels ∨ ∃ o, s.outgoing = some o ∧ Passed o (swapPointTest m s) := by
  unfold swapPointTest reachSwapPoint
  (repeat' split)
  any_goals exact .inl rfl
  rename_i o r ho _ _
  exact (takeEnding_reels (s := s.reached) r m (outgoing_onScreen (s := s.reached) ho)).imp_right
    fun hpassed => ⟨o, ho, hpassed⟩

theorem lateSwapTest_reels (m : Moment) (s : State) :
    (lateSwapTest m s).reels = s.reels ∨ ∃ o, s.outgoing = some o ∧ Passed o (lateSwapTest m s) := by
  obtain hsame | ⟨o, ho, -, hpassed⟩ := lateSwapTest_cases m s
  · exact .inl (by rw [hsame])
  · exact .inr ⟨o, ho, hpassed⟩

theorem leadTests_reels (evaluated : Option Side) (s : State) : (leadTests evaluated s).reels = s.reels := by
  unfold leadTests
  dsimp only
  (repeat' split) <;> simp

/-- A projector that shows alone and is still ON_SCREEN after the tests: the list is as it was. -/
theorem sequencerTests_reels (hother : s.onScreen p.other = false) (ht : (sequencerTests s).onScreen p = true) :
    (sequencerTests s).reels = s.reels := by
  have hlead (u : State) (hu : (leadTests s.outgoing u).onScreen p = true) : u.onScreen p = true := by
    rw [onScreen_iff] at hu ⊢
    exact (leadTests_screen _ u p).shows hu
  have hoff {o : Side} {u : State} (hu : u.onScreen p.other = false) (ho : u.outgoing = some o) : o = p := by
    rw [outgoing_eq hu] at ho
    split at ho
    · exact (Option.some.inj ho).symm
    · cases ho
  have hstays {u : State} (hpassed : Passed p u) : u.onScreen p ≠ true := Bool.eq_false_iff.1 hpassed.off
  have hlate := hlead _ ht
  have hpoint {o : Side} (ho : s.outgoing = some o) : ¬Passed o (swapPointTest .atBoundary s) := fun hpassed => by
    rw [lateSwapTest_notDue _ hpassed.fresh.swapDue] at hlate
    obtain rfl := hoff hother ho
    exact hstays hpassed hlate
  unfold sequencerTests
  rw [leadTests_reels]
  obtain hfirst | ⟨o, ho, hpassed⟩ := swapPointTest_reels .atBoundary s
  · obtain hsecond | ⟨o, ho, hpassed⟩ := lateSwapTest_reels .atBoundary (swapPointTest .atBoundary s)
    · exact hsecond.trans hfirst
    · obtain hkept | ⟨q, hq, -, hpassed'⟩ := swapPointTest_cases .atBoundary s
      · obtain rfl := hoff (hkept.off hother) ho
        exact absurd hlate (hstays hpassed)
      · exact absurd hpassed' (hpoint hq)
  · exact absurd hpassed (hpoint ho)

/-! ### The record judged (R132) -/

/-- The house cue of the record that shows, judged while ENGAGED: taken once, when N is at its point or below. -/
theorem judgeHouseCue_boundReel {c : HouseCue} {n : Nat} (hp : s.onScreen p = true) (hother : s.onScreen p.other = false)
    (hengaged : s.seq.automation = .engaged) (he : s.boundReel p = some e) (hc : e.cue = some c)
    (hn : s.seq.countdown.n = some n) :
    (judgeHouseCue s).boundReel p = some { e with cueTaken := e.cueTaken || decide (n ≤ c.point) } := by
  have hreel : s.outgoingReel = some e := by
    rw [State.outgoingReel, outgoing_eq hother, if_pos hp]
    exact he
  rw [judgeHouseCue_eq hreel hc hn]
  by_cases htaken : s.engaged = true ∧ e.cueTaken = false ∧ n ≤ c.point
  · obtain ⟨-, hfree, hreached⟩ := htaken
    rw [if_pos ⟨decide_eq_true hengaged, hfree, hreached⟩, State.boundReel, takeHouseCue_records,
      (cueMarked_cueOnly e.number).boundTo, show boundTo s.reels.records p = some e from he]
    simp [Reel.cueMarked, hreached]
  · have hflag : (e.cueTaken || decide (n ≤ c.point)) = e.cueTaken := by
      cases hmarked : e.cueTaken
      · have habove : ¬n ≤ c.point := fun hreached => htaken ⟨decide_eq_true hengaged, hmarked, hreached⟩
        simpa using habove
      · rfl
    rw [if_neg htaken, he, hflag]

theorem judged_automation (s : State) : (judged s).seq.automation = s.seq.automation := by simp [judged]

theorem judged_boundReel {c : HouseCue} {n : Nat} (hp : s.onScreen p = true) (hother : s.onScreen p.other = false)
    (hengaged : s.seq.automation = .engaged) (he : s.boundReel p = some e) (hc : e.cue = some c)
    (hn : s.seq.countdown.n = some n) :
    (judged s).boundReel p = some { e with cueTaken := e.cueTaken || decide (n ≤ c.point) } := by
  have hscreen (q : Side) : (judgeWindow (sendFrame s)).onScreen q = s.onScreen q := judgeWindow_onScreen (sendFrame s) q
  refine judgeHouseCue_boundReel ((hscreen p).trans hp) ((hscreen _).trans hother) ?_ ?_ hc ?_
  · simpa using hengaged
  · simpa [State.boundReel] using he
  · simpa using hn

/-- The tests and the show starts leave automation alone that is not ENGAGED, and never engage it (R70). -/
theorem engaged_before_tests (h : (showStarts (sequencerTests s)).seq.automation = .engaged) :
    s.seq.automation = .engaged := by
  by_contra hidle
  rw [sequencerTests_idle hidle, showStarts_idle (starting_idle hidle)] at h
  exact hidle h

theorem Countdown.Moves.n {c d : Countdown} (h : c.Moves d) : d.n = c.n := by
  obtain rfl | ⟨-, rfl⟩ := h <;> rfl

/-- The house cue of a boundary: a record that shows through it, automation ENGAGED at its end. -/
theorem boundary_houseCue (r : Readings) {c : HouseCue} {n : Nat} (hs : s.Showing p)
    (ht : (boundary r s).onScreen p = true) (hengaged : (boundary r s).seq.automation = .engaged)
    (he : s.boundReel p = some e) (hc : e.cue = some c) (hn : (boundary r s).seq.countdown.n = some n) :
    (boundary r s).boundReel p = some { e with cueTaken := e.cueTaken || decide (n ≤ c.point) } := by
  obtain ⟨-, hother, hpending⟩ := hs
  obtain ⟨hsteady, hframed, -⟩ := boundary_stays hother hpending ht
  have hpassed := notPassed_of_steady hsteady
  have hframedOther : (framed r s).onScreen p.other = false := off_of_notPassed hpassed hother
  have hbound : (framed r s).boundReel p = some e :=
    (framed_boundReel r s).trans ((hsteady.bound p ((framed_onScreen r s p).symm.trans hframed)).trans he)
  have hcount : (framed r s).seq.countdown.n = some n := (boundary_countdown r s).n.symm.trans hn
  have hclear : ((framed r s).proj.get p).startPending = false :=
    (framed_counts r s p).pending (by rw [counted_get]; exact hpending)
  rw [boundary_evaluated hpassed] at ht hengaged ⊢
  generalize framed r s = u at *
  have hjudged := judged_boundReel hframed hframedOther
    ((judged_automation u).symm.trans (engaged_before_tests hengaged)) hbound hc hcount
  have hcleared := (sequencerTests_counts (judged u) p).pending ((judged_counts u p).pending hclear)
  have hleaves := showStarts_leaves (.inr hcleared)
  have hreels := sequencerTests_reels ((judged_onScreen u p.other).trans hframedOther) (hleaves.onScreen.symm.trans ht)
  rw [hleaves.bound, State.boundReel, hreels]
  exact hjudged

end

end Sys2Proof.Machine
end

section
/-! A lamp whose douse timer runs, in RUNOUT: the blocks' own work of a boundary up to the douse timers (R73, R82). -/

namespace Sys2Proof.Machine

open Sys2Proof

section
variable {s t u : State} {p k : Side}

/-- What the work at a boundary leaves of a projector in RUNOUT whose lamp is to be doused: the lamp's state, its douse
timer, and the RUNOUT; and a sequencer that is not ENGAGED keeps its automation, by which the douse is judged. -/
structure Carries (p : Side) (s t : State) : Prop where
  state : (t.lamp.get p).state = (s.lamp.get p).state
  douse : t.seq.douse.get p = s.seq.douse.get p
  idle : s.seq.automation ≠ .engaged → t.seq.automation = s.seq.automation
  runout : (s.proj.get p).state = .runout → (t.proj.get p).state = .runout

namespace Carries

theorem refl (p : Side) (s : State) : Carries p s s := ⟨rfl, rfl, fun _ => rfl, id⟩

theorem trans (h : Carries p s t) (h' : Carries p t u) : Carries p s u where
  state := h'.state.trans h.state
  douse := h'.douse.trans h.douse
  idle hidle := (h'.idle (by rw [h.idle hidle]; exact hidle)).trans (h.idle hidle)
  runout := h'.runout ∘ h.runout

theorem of_eq (hproj : t.proj = s.proj) (hlamp : t.lamp = s.lamp) (hdouse : t.seq.douse = s.seq.douse)
    (hauto : t.seq.automation = s.seq.automation) : Carries p s t :=
  ⟨by rw [hlamp], by rw [hdouse], fun _ => hauto, by rw [hproj]; exact id⟩

theorem of_lamp_kept (hproj : t.proj = s.proj) (hlamp : t.lamp.get p = s.lamp.get p)
    (hdouse : t.seq.douse.get p = s.seq.douse.get p) (hauto : t.seq.automation = s.seq.automation) : Carries p s t :=
  ⟨by rw [hlamp], hdouse, fun _ => hauto, by rw [hproj]; exact id⟩

theorem of_leaves (h : Leaves p s t) (hlamp : t.lamp.get p = s.lamp.get p)
    (hdouse : t.seq.douse.get p = s.seq.douse.get p) (hauto : t.seq.automation = s.seq.automation) : Carries p s t :=
  ⟨by rw [hlamp], hdouse, fun _ => hauto, fun hrunout => h.state.trans hrunout⟩

/-- A lamp that is another one, or that keeps its state. -/
theorem onLamp {g : Lamp → Lamp} (h : k ≠ p ∨ (g (s.lamp.get k)).state = (s.lamp.get k).state) :
    Carries p s (s.onLamp k g) := by
  refine ⟨?_, rfl, fun _ => rfl, id⟩
  rw [State.onLamp_lamp, Both.get_set]
  split
  · rename_i hk
    subst hk
    exact h.elim (fun hne => absurd rfl hne) id
  · rfl

theorem onProj {g : Projector → Projector} (h : (s.proj.get p).state = .runout → k = p →
    (g (s.proj.get k)).state = .runout) : Carries p s (s.onProj k g) := by
  refine ⟨rfl, rfl, fun _ => rfl, fun hrunout => ?_⟩
  rw [State.onProj_proj, Both.get_set]
  split
  · rename_i hk
    exact h hrunout hk
  · exact hrunout

end Carries

/-! ### The shared operations -/

theorem raiseCondition_carries (c : Condition) (d : Detail) (s : State) : Carries p s (raiseCondition c d s) where
  state := by simp
  douse := by simp
  idle hidle := by simp [raiseCondition_automation, automationAfter, hidle]
  runout := by simp

theorem lampToDark_carries (hk : k ≠ p) (g : Lamp → Lamp) (s : State) : Carries p s (lampToDark k g s) := by
  refine .of_leaves (lampToDark_leaves ..) ?_ ?_ (by simp) <;> rw [lampToDark_eq] <;> exact Both.get_set_ne _ _ hk

theorem stopProjector_carries (hk : k ≠ p) (s : State) : Carries p s (stopProjector k s) := by
  refine ⟨by simp, ?_, by simp, ?_⟩ <;> rw [stopProjector_eq]
  · dsimp only
    split
    · exact Both.get_set_ne _ _ hk
    · rfl
  · intro hrunout
    rwa [Both.get_set_ne _ _ hk]

theorem failStart_carries (hk : k ≠ p) (s : State) : Carries p s (failStart k s) :=
  (stopProjector_carries hk s).trans (raiseCondition_carries ..)

theorem reachSpeed_carries (hk : k ≠ p) (s : State) : Carries p s (reachSpeed k s) :=
  .of_leaves (reachSpeed_leaves hk s) (by simp) (by simp) (by simp)

theorem darkenScreen_carries (k : Side) (s : State) (hon : s.onScreen k = true) : Carries p s (darkenScreen k s) :=
  ⟨by simp, by simp, by simp, fun hrunout => ((darkenScreen_dims hon).state (by
    rw [onScreen_eq_false_iff, hrunout]; decide)).trans hrunout⟩

/-! ### The projectors, the lamps' timers and the gates -/

/-- The projectors' work leaves no film-loss switch to be judged that was not (R151). -/
theorem projectorWork_loss (h : s.NoStandingLoss) (q : Side) : (projectorWork q s).NoStandingLoss := by
  refine Side.forall_of_both q (.inl (projectorWork_judged q s)) ?_
  have hunit := (projectorWork_leaves (Side.ne_other q) s).unit
  have hcheck : ((projectorWork q s).proj.get q.other).lossCheck = (s.proj.get q.other).lossCheck :=
    (congrArg Projector.lossCheck hunit :)
  have hfilm : ((projectorWork q s).proj.get q.other).filmLoss = (s.proj.get q.other).filmLoss :=
    (congrArg Projector.filmLoss hunit :)
  rw [hcheck, hfilm]
  exact h q.other

theorem projectorWork_carries (hloss : s.NoStandingLoss) (hrunout : (s.proj.get p).state = .runout) (q : Side) :
    Carries p s (projectorWork q s) := by
  obtain rfl | hq := eq_or_ne q p
  · obtain ⟨hrest, hstate, -, -⟩ := projectorWork_tick hloss (by rw [hrunout]; decide) (by rw [hrunout]; decide)
    exact ⟨by rw [hrest], by rw [hrest], fun _ => by rw [hrest], fun h => (hstate q).trans h⟩
  · have hcounted (v : State) (g : Projector → Projector) : Carries p v (v.onProj q g) :=
      .onProj fun _ h => absurd h hq
    have hinch (v : State) : Carries p v (tickInch q v) := by
      unfold tickInch expireInch
      (repeat' split)
      · exact failStart_carries hq v
      · exact .refl p v
      · exact hcounted v _
    have hrun (v : State) : Carries p v (tickRunUp q v) := by
      unfold tickRunUp endRunUp expireRunUp
      (repeat' split)
      any_goals exact reachSpeed_carries hq v
      any_goals exact failStart_carries hq v
      any_goals exact hcounted v _
      all_goals exact .refl p v
    rw [projectorWork, judgeStanding_none (hloss q)]
    exact ((hcounted s _).trans (hinch _)).trans (hrun _)

theorem failAttempt_carries (hk : k ≠ p) (amperes : Nat) (m : Moment) (s : State) :
    Carries p s (failAttempt k amperes m s) := by
  unfold failAttempt failStrike
  dsimp only
  have hread : Carries p s (s.onLamp k fun x =>
      { x with amperes := amperes, strikerClosed := false, attemptTimer := none }) := .onLamp (.inl hk)
  refine hread.trans ?_
  split
  · exact .onLamp (.inl hk)
  · exact (lampToDark_carries hk ..).trans (raiseCondition_carries ..)

/-- The timers of the other lamp; a LIT lamp has none. -/
theorem lampWork_carries (hlit : (s.lamp.get p).state = .lit) (k : Side) (amperes : Nat) :
    Carries p s (lampWork k amperes s) := by
  obtain rfl | hk := eq_or_ne k p
  · rw [lampWork_lit amperes hlit]
    exact .refl k s
  · have hon (v : State) (g : Lamp → Lamp) : Carries p v (v.onLamp k g) := .onLamp (.inl hk)
    have hsettling : Carries p s (expireSettling k .atBoundary s) := by
      unfold expireSettling
      split
      · exact hon s _
      · exact .refl p s
    have hwait : Carries p s (expireWait k .atBoundary s) := by
      unfold expireWait
      split
      · exact hon s _
      · exact .refl p s
    have hreading (v : State) : Carries p v (firstReading k amperes v) := by
      unfold firstReading judgeArc
      (repeat' split)
      any_goals exact hon v _
      exact .refl p v
    have hattempt : Carries p s (tickAttempt k amperes s) := by
      unfold tickAttempt judgeArc expireAttempt
      (repeat' split)
      any_goals exact hon s _
      any_goals exact .refl p s
      exact failAttempt_carries hk ..
    unfold lampWork expireWarm
    (repeat' split)
    any_goals exact hon s _
    any_goals exact .refl p s
    · exact hsettling.trans (hreading _)
    · exact hwait.trans (hreading _)
    · exact hattempt

theorem gateWork_carries (q : Side) (s : State) : Carries p s (gateWork q s) := by
  unfold gateWork
  dsimp only
  (repeat' split)
  any_goals exact (darkenScreen_carries q s ‹_›).trans (raiseCondition_carries ..)
  any_goals exact .onProj fun h hq => by rw [hq]; exact h
  exact .refl p s

/-! ### The current watch (R111) -/

/-- An arc lost on the other lamp, which is not swapped to a projector in RUNOUT (R66, R86). -/
theorem loseArc_carries (hk : k ≠ p) (hrunout : (s.proj.get p).state = .runout) (m : Moment) :
    Carries p s (loseArc k m s) := by
  have hdark := lampToDark_carries hk (fun x => { x with lowCurrent := 10 }) s
  have hother : k.other = p := (Side.eq_other_of_ne hk.symm).symm
  have hunready : s.ready k.other = false := by rw [State.ready, hother, hrunout]; rfl
  unfold loseArc
  dsimp only
  refine Carries.trans ?_ (raiseCondition_carries ..)
  split
  · rw [lampToDark_ready_other, if_neg (by simp [hunready])]
    exact hdark.trans (darkenScreen_carries k _ (by rwa [lampToDark_onScreen]))
  · exact hdark

theorem arcWatch_carries {amperes : Nat} (hrunout : (s.proj.get p).state = .runout) (k : Side)
    (hburn : k = p → 30 ≤ amperes) : Carries p s (arcWatch k amperes s) := by
  obtain rfl | hk := eq_or_ne k p
  · obtain hsame | hread := arcWatch_burning s (hburn rfl)
    · rw [hsame]
      exact .refl k s
    · rw [hread]
      exact .onLamp (.inr rfl)
  · have hread (g : Lamp → Lamp) : Carries p s (s.onLamp k g) := .onLamp (.inl hk)
    unfold arcWatch expireArc
    (repeat' split)
    any_goals exact hread _
    any_goals exact .refl p s
    exact (hread _).trans (loseArc_carries (s := s.arcRead k amperes) hk hrunout _)

/-! ### The feed, the shutters, the link and the save -/

theorem tickFeed_idle (l : Side) (volts amperes : Nat) (s : State) (hidle : s.seq.automation ≠ .engaged) :
    (tickFeed l volts amperes s).seq.automation = s.seq.automation := by
  have htrim (inBand : Bool) (v : State) (hv : v.seq.automation ≠ .engaged) :
      (countTrim l inBand v).seq.automation = v.seq.automation := by
    unfold countTrim
    dsimp only
    (repeat' split)
    any_goals rfl
    exact (raiseCondition_carries (p := l) _ _ (v.onLamp l Lamp.trimEnded)).idle hv
  unfold tickFeed feedInterval feedOnce
  (repeat' split)
  · exact htrim _ (s.onLamp l _) hidle
  · rfl
  · rfl

theorem tickFeed_carries (l : Side) (volts amperes : Nat) (s : State) : Carries p s (tickFeed l volts amperes s) where
  state := (tickFeed_lampStates ..).state p
  douse := by rw [(tickFeed_lampStates ..).douse]
  idle := tickFeed_idle l volts amperes s
  runout h := (tickFeed_leaves ..).state.trans h

theorem tickShutter_carries (q : Port) (s : State) : Carries p s (tickShutter q s) := by
  refine ⟨by simp, by rw [(tickShutter_lampStates q s).douse], fun hidle => ?_, by simp⟩
  have hjam : (raiseJam q (s.onShutter q Shutter.jammed)).seq.automation = s.seq.automation :=
    (raiseCondition_carries (p := .a) _ _ (s.onShutter q Shutter.jammed)).idle hidle
  unfold tickShutter expireFall expireRaise
  (repeat' split)
  any_goals exact hjam
  all_goals rfl

/-! ### The work before the douse timers (R73) -/

/-- A boundary's own work comes last to the douse timers, and carries one that runs in RUNOUT to them. -/
theorem ownWork_carries {r : Readings} (hrunout : (s.proj.get p).state = .runout) (hloss : s.NoStandingLoss)
    (hlit : (s.lamp.get p).state = .lit) (hburn : 30 ≤ r.amperes.get p) :
    ∃ u, Carries p s u ∧ ownWork r s = tickDouse .b (tickDouse .a u) := by
  have hcounted : Carries p s s.counted :=
    (Carries.onProj fun h hq => by rw [hq]; exact h).trans (.onProj fun h hq => by rw [hq]; exact h)
  have hcheck : s.counted.NoStandingLoss := fun q => by rw [counted_get]; exact hloss q
  have hfirst := projectorWork_carries hcheck (hcounted.runout hrunout) .a
  have hmotors := hcounted.trans (hfirst.trans
    (projectorWork_carries (projectorWork_loss hcheck .a) (hfirst.runout (hcounted.runout hrunout)) .b))
  have hlampA := hmotors.trans (lampWork_carries (hmotors.state.trans hlit) .a r.amperes.a)
  have hlamps := hlampA.trans (lampWork_carries (hlampA.state.trans hlit) .b r.amperes.b)
  have hgates := (hlamps.trans (gateWork_carries .a _)).trans (gateWork_carries .b _)
  have harcA := hgates.trans (arcWatch_carries (hgates.runout hrunout) .a fun h => h ▸ hburn)
  have harcs := harcA.trans (arcWatch_carries (harcA.runout hrunout) .b fun h => h ▸ hburn)
  have hfed := (harcs.trans (tickFeed_carries .a r.volts.a r.amperes.a _)).trans
    (tickFeed_carries .b r.volts.b r.amperes.b _)
  have hfell := (((hfed.trans (tickShutter_carries .a _)).trans (tickShutter_carries .b _)).trans
    (tickShutter_carries .observation1 _)).trans (tickShutter_carries .observation2 _)
  have hlink (v : State) : Carries p v (judgeLink v) := .of_eq (by simp) (by simp) (by simp) (by simp)
  have hsave (v : State) : Carries p v (tickSave v) := .of_eq (by simp) (by simp) (by simp) (by simp)
  exact ⟨_, (hfell.trans (hlink _)).trans (hsave _), rfl⟩

/-! ### The douse timers (R82) -/

theorem extinguishLamp_carries (hk : k ≠ p) (s : State) : Carries p s (extinguishLamp k s) := by
  unfold extinguishLamp
  dsimp only
  (repeat' split)
  · exact .refl p s
  · exact (lampToDark_carries hk ..).trans (darkenScreen_carries k _ (by rwa [lampToDark_onScreen]))
  · exact lampToDark_carries hk ..

theorem tickDouse_carries (hk : k ≠ p) (s : State) : Carries p s (tickDouse k s) := by
  have hset (x : ReadTimer) : Carries p s (s.onSeq fun q => { q with douse := q.douse.set k x }) :=
    ⟨rfl, Both.get_set_ne _ _ hk, fun _ => rfl, id⟩
  unfold tickDouse expireDouse
  (repeat' split)
  · exact hset none
  · exact (hset none).trans (extinguishLamp_carries hk _)
  · exact hset _

/-- Both douse timers at a boundary: one lamp's own, with the other's before it or after. -/
theorem tickDouses_split (p : Side) (s : State) :
    ∃ u, Carries p s u ∧ Carries p (tickDouse p u) (tickDouse .b (tickDouse .a s)) := by
  cases p
  · exact ⟨s, .refl .a s, tickDouse_carries (by decide) _⟩
  · exact ⟨_, tickDouse_carries (by decide) s, .refl .b _⟩

theorem tickDouse_counted {y : TimeLeft} (hy : s.seq.douse.get p = some y) (hleft : 2 ≤ y.periods) :
    (tickDouse p s).seq.douse.get p = some y.counted ∧ (tickDouse p s).lamp = s.lamp := by
  have hearly : ¬ReadTimer.due (s.seq.douse.get p) = true := by
    simpa [hy, ReadTimer.due, TimeLeft.due] using Nat.lt_of_succ_le hleft
  rw [tickDouse, if_neg hearly]
  exact ⟨by rw [State.onSeq_seq, Both.get_set_same, hy]; rfl, rfl⟩

theorem tickDouse_due {y : TimeLeft} (hy : s.seq.douse.get p = some y) (hleft : y.periods ≤ 1)
    (hlit : (s.lamp.get p).state = .lit) :
    (tickDouse p s).seq.douse.get p = none
      ∧ ((tickDouse p s).lamp.get p).state = if s.seq.automation = .halted then .lit else .dark := by
  have hlast : (s.seq.douse.get p).Last := ⟨y, hy, hleft⟩
  rw [tickDouse, if_pos ((ReadTimer.due_iff _).2 hlast)]
  split
  · rename_i hhalted
    rw [expireDouse_halted hlast hhalted]
    exact ⟨Both.get_set_same .., hlit⟩
  · rename_i hlive
    obtain ⟨⟨hlamp, -, -, hseq, -⟩, -⟩ := expireDouse_putOut hlast hlive (by rw [hlit]; decide)
    rw [hlamp, hseq]
    exact ⟨Both.get_set_same .., by rw [Both.get_set_same]; rfl⟩

end

end Sys2Proof.Machine
end

section
/-! A lamp whose douse timer runs, in RUNOUT: what follows its timer at a boundary, and the statement on the show start,
the house cue and the douse (R73, R82, R84, R132). -/

namespace Sys2Proof.Machine

open Sys2Proof

section
variable {s t : State} {p : Side} {m : Moment} {i o : Side}

theorem Carries.of_stays (h : Stays p s t) (hlamp : t.lamp.get p = s.lamp.get p)
    (hdouse : t.seq.douse.get p = s.seq.douse.get p) (hauto : t.seq.automation = s.seq.automation) : Carries p s t :=
  ⟨by rw [hlamp], hdouse, fun _ => hauto, fun hrunout => h.state.elim (·.trans hrunout) id⟩

/-! ### The screen (R78, R79) -/

theorem startDouse_carries (hk : o ≠ p) (m : Moment) (s : State) : Carries p s (startDouse o m s) := by
  unfold startDouse
  (repeat' split)
  · exact lampToDark_carries hk ..
  · exact .of_lamp_kept rfl rfl (Both.get_set_ne _ _ hk) rfl
  · exact .refl p s

theorem leaveScreen_carries (ho : s.onScreen o = true) : Carries p s (leaveScreen o .runout s) :=
  .of_stays (leaveScreen_stays ho) (by simp) (by simp) (by simp)

theorem enterScreen_carries (hi : i ≠ p) (s : State) : Carries p s (enterScreen i s) :=
  .of_leaves (enterScreen_leaves hi s) (by simp) (by simp) (by simp)

theorem swapScreens_carries (m : Moment) (hi : i ≠ p) (hop : o ≠ p) (ho : s.onScreen o = true) :
    Carries p s (swapScreens i o m s) :=
  ((leaveScreen_carries ho).trans (enterScreen_carries hi _)).trans (startDouse_carries hop m _)

theorem automaticFade_carries (percent tenths : Nat) (s : State) : Carries p s (automaticFade percent tenths s) :=
  .of_eq (by simp) (by simp) (by simp) (by simp)

/-! ### The tests (R73) -/

theorem missChangeover_carries (o : Side) (s : State) : Carries p s (missChangeover o s) :=
  Carries.trans (t := s.onSeq _) (.of_eq rfl rfl rfl rfl) (raiseCondition_carries ..)

section
variable (hrunout : (s.proj.get p).state = .runout)
include hrunout

/-- A projector in RUNOUT is neither the outgoing projector nor ready to come in. -/
theorem ne_of_onScreen (ho : s.onScreen o = true) : o ≠ p := by
  rintro rfl
  rw [onScreen_iff, hrunout] at ho
  cases ho

theorem ne_of_incomingReady (hi : s.incomingReady = some i) : i ≠ p := by
  rintro rfl
  have hrunning := incomingReady_running hi
  rw [hrunout] at hrunning
  cases hrunning

theorem takeEnding_carries (hengaged : s.seq.automation = .engaged) (r : Reel) (m : Moment) (ho : s.onScreen o = true) :
    Carries p s (takeEnding o r m s) := by
  have hop := ne_of_onScreen hrunout ho
  have hended (percent tenths : Nat) :
      Carries p s (startDouse o m (automaticFade percent tenths (leaveScreen o .runout s))) :=
    ((leaveScreen_carries ho).trans (automaticFade_carries ..)).trans (startDouse_carries hop m _)
  unfold takeEnding
  (repeat' split)
  · exact hended ..
  · obtain ⟨hstate, hdouse, -, hkept⟩ := hended 100 s.store.working.endRamp
    refine ⟨?_, ?_, fun hidle => absurd hengaged hidle, fun h => (automationOff_leaves _).state.trans (hkept h)⟩
    · simpa [lastReelEnding] using hstate
    · simpa [lastReelEnding] using hdouse
  · exact swapScreens_carries m (ne_of_incomingReady hrunout ‹_›) hop ho
  · exact missChangeover_carries o s

theorem swapPointTest_carries (m : Moment) : Carries p s (swapPointTest m s) := by
  unfold swapPointTest reachSwapPoint
  split
  · rename_i hreached
    have hengaged : s.seq.automation = .engaged := of_decide_eq_true hreached.1
    (repeat' split)
    any_goals exact .refl p s
    rename_i ho _ _
    exact Carries.trans (t := s.reached) (.of_eq rfl rfl rfl rfl)
      (takeEnding_carries (s := s.reached) hrunout hengaged _ m (outgoing_onScreen (s := s) ho))
  · exact .refl p s

theorem lateSwapTest_carries (m : Moment) : Carries p s (lateSwapTest m s) := by
  unfold lateSwapTest
  (repeat' split)
  any_goals exact .refl p s
  rename_i ho hi
  have hon := outgoing_onScreen ho
  exact swapScreens_carries m (ne_of_incomingReady hrunout hi) (ne_of_onScreen hrunout hon) hon

end

theorem withholdStrike_carries (w : Withholding) (d : Detail) (s : State) : Carries p s (withholdStrike w d s) := by
  unfold withholdStrike
  split
  · exact .refl p s
  · exact Carries.trans (t := s.onSeq _) (.of_eq rfl rfl rfl rfl) (raiseCondition_carries ..)

theorem raiseUnordered_carries (o : Side) (s : State) : Carries p s (raiseUnordered o s) := by
  unfold raiseUnordered
  split
  · exact .refl p s
  · exact Carries.trans (t := s.onSeq _) (.of_eq rfl rfl rfl rfl) (raiseCondition_carries ..)

/-- An automatic strike is asked of a DARK lamp, not of one that is LIT (R106). -/
theorem automaticStrike_carries (hlit : (s.lamp.get p).state = .lit) (l : Side) (m : Moment) :
    Carries p s (automaticStrike l m s) := by
  unfold automaticStrike
  split
  · rename_i hdark
    have hl : l ≠ p := by
      rintro rfl
      rw [hlit] at hdark
      cases hdark.1
    refine .of_lamp_kept (by simp) ?_ (by simp) (by simp)
    simp [beginStrike, Both.get_set_ne _ _ hl]
  · exact .refl p s

theorem strikeTest_carries (hlit : (s.lamp.get p).state = .lit) (m : Moment) : Carries p s (strikeTest m s) := by
  unfold strikeTest unawareTest strikeIncoming
  (repeat' split)
  any_goals exact .refl p s
  · exact raiseUnordered_carries ..
  · exact (automaticStrike_carries hlit _ m).trans (.of_eq rfl rfl rfl rfl)
  · exact withholdStrike_carries ..

theorem startIncoming_carries (hrunout : (s.proj.get p).state = .runout) (r : Reel) (m : Moment) :
    Carries p s (startIncoming r m s) := by
  have hsits : s.Sits p := by rw [State.Sits, hrunout]; decide
  have hasked := askStart_leaves m (q := r.projector) (.inl hsits)
  exact Carries.trans (.of_leaves hasked (by simp) (by simp) (by simp)) (.of_eq rfl rfl rfl rfl)

theorem motorTest_carries (hrunout : (s.proj.get p).state = .runout) (m : Moment) : Carries p s (motorTest m s) := by
  unfold motorTest unawareTest
  (repeat' split)
  any_goals exact .refl p s
  · exact raiseUnordered_carries ..
  · exact startIncoming_carries hrunout ..

theorem leadTests_carries (hrunout : (s.proj.get p).state = .runout) (hlit : (s.lamp.get p).state = .lit)
    (evaluated : Option Side) : Carries p s (leadTests evaluated s) := by
  have hstrike : Carries p s (if s.outgoing = evaluated then strikeTest .atBoundary s else s) := by
    split
    · exact strikeTest_carries hlit _
    · exact .refl p s
  unfold leadTests
  dsimp only
  generalize (if s.outgoing = evaluated then strikeTest .atBoundary s else s) = u at hstrike
  refine hstrike.trans ?_
  split
  · exact motorTest_carries (hstrike.runout hrunout) _
  · exact .refl p u

theorem sequencerTests_carries (hrunout : (s.proj.get p).state = .runout) (hlit : (s.lamp.get p).state = .lit) :
    Carries p s (sequencerTests s) := by
  have hpoint := swapPointTest_carries hrunout .atBoundary
  have hlate := hpoint.trans (lateSwapTest_carries (hpoint.runout hrunout) .atBoundary)
  exact hlate.trans (leadTests_carries (hlate.runout hrunout) (hlate.state.trans hlit) _)

/-! ### The show starts and the whole boundary (R84) -/

theorem showStartStrike_carries (hlit : (s.lamp.get p).state = .lit) (l : Side) (m : Moment) :
    Carries p s (showStartStrike l m s) := by
  unfold showStartStrike
  (repeat' split)
  any_goals exact .refl p s
  · exact automaticStrike_carries hlit l m
  · exact withholdStrike_carries ..

/-- A show start neither strikes a LIT lamp, nor starts a projector in RUNOUT, nor gives it the screen. -/
theorem showStartSteps_carries (hrunout : (s.proj.get p).state = .runout) (hlit : (s.lamp.get p).state = .lit)
    (q : Side) : Carries p s (showStartSteps q s) := by
  have hsits {u : State} (hu : (u.proj.get p).state = .runout) : u.Sits p ∨ q ≠ p :=
    .inl (by rw [State.Sits, hu]; decide)
  have hstrike := showStartStrike_carries hlit q .atBoundary
  have hmotor (u : State) (hu : (u.proj.get p).state = .runout) : Carries p u (showStartFadeAndMotor q .atBoundary u) :=
    .of_leaves (showStartFadeAndMotor_leaves _ (hsits hu)) (by simp) (by simp) (by simp)
  have hopen (u : State) (hu : (u.proj.get p).state = .runout) : Carries p u (showStartOpen q u) := by
    unfold showStartOpen
    (repeat' split)
    any_goals exact .refl p u
    rename_i hopen
    obtain ⟨-, -, hallowed⟩ := hopen
    refine enterScreen_carries ?_ u
    rintro rfl
    have hrunning := openAllowed_running hallowed
    rw [hu] at hrunning
    cases hrunning
  have hstarted := hstrike.trans (hmotor _ (hstrike.runout hrunout))
  exact hstarted.trans (hopen _ (hstarted.runout hrunout))

theorem showStarts_carries (hrunout : (s.proj.get p).state = .runout) (hlit : (s.lamp.get p).state = .lit) :
    Carries p s (showStarts s) := by
  have hfirst := showStartSteps_carries hrunout hlit .a
  exact hfirst.trans (showStartSteps_carries (hfirst.runout hrunout) (hfirst.state.trans hlit) .b)

theorem judged_carries (s : State) : Carries p s (judged s) :=
  ⟨by simp [judged], by simp [judged], by simp [judged], fun h => (judged_state s p).trans h⟩

theorem framed_carries (r : Readings) (s : State) : Carries p (ownWork r s) (framed r s) := by
  refine ⟨by rw [framed_lamp], ?_, fun _ => framed_seq_automation r s, fun h => by rw [framed_proj]; exact h⟩
  unfold framed
  split
  · simp
  · rw [countdownStep_seq]
    simp

/-- What follows the frame of a boundary carries a lamp to be doused. -/
theorem boundary_carries (r : Readings) (hrunout : ((framed r s).proj.get p).state = .runout)
    (hlit : ((framed r s).lamp.get p).state = .lit) : Carries p (framed r s) (boundary r s) := by
  have hsent (u : State) : Carries p u (sendFrame u) := .of_eq rfl rfl rfl rfl
  cases hpass : s.screenPassed (rampStep (ownWork r s))
  · rw [boundary_evaluated hpass]
    generalize framed r s = u at *
    have hjudged := judged_carries (p := p) u
    have htested := hjudged.trans (sequencerTests_carries (hjudged.runout hrunout) (hjudged.state.trans hlit))
    exact htested.trans (showStarts_carries (htested.runout hrunout) (htested.state.trans hlit))
  · rw [boundary_passed hpass]
    generalize framed r s = u at *
    exact (hsent u).trans (showStarts_carries ((hsent u).runout hrunout) hlit)

/-! ### The douse timer at a boundary (R82) -/

section
variable {r : Readings} {y : TimeLeft} (hrunout : (s.proj.get p).state = .runout) (hloss : s.NoStandingLoss)
  (hlit : (s.lamp.get p).state = .lit) (hburn : 30 ≤ r.amperes.get p) (hy : s.seq.douse.get p = some y)
include hrunout hloss hlit hburn hy

theorem boundary_douseCounted (hleft : 2 ≤ y.periods) :
    (boundary r s).seq.douse.get p = some y.counted ∧ ((boundary r s).lamp.get p).state = .lit := by
  obtain ⟨u, hbefore, hown⟩ := ownWork_carries hrunout hloss hlit hburn
  obtain ⟨v, hfirst, hsecond⟩ := tickDouses_split p u
  have hcarried := hbefore.trans hfirst
  obtain ⟨hdouse, hlamp⟩ := tickDouse_counted (hcarried.douse.trans hy) hleft
  rw [← hown] at hsecond
  have hframed := hsecond.trans (framed_carries r s)
  have hticked : ((tickDouse p v).proj.get p).state = .runout := (tickDouse_dims p v).state
    (by rw [onScreen_eq_false_iff, hcarried.runout hrunout]; decide) |>.trans (hcarried.runout hrunout)
  have hburning : ((framed r s).lamp.get p).state = .lit := by
    rw [hframed.state, hlamp, hcarried.state]
    exact hlit
  have hrest := boundary_carries r (hframed.runout hticked) hburning
  exact ⟨hrest.douse.trans (hframed.douse.trans hdouse), hrest.state.trans hburning⟩

theorem boundary_douseDue (hleft : y.periods ≤ 1) (hidle : s.seq.automation ≠ .engaged) :
    (boundary r s).seq.douse.get p = none
      ∧ ((boundary r s).lamp.get p).state = if s.seq.automation = .halted then .lit else .dark := by
  obtain ⟨u, hbefore, hown⟩ := ownWork_carries hrunout hloss hlit hburn
  obtain ⟨v, hfirst, hsecond⟩ := tickDouses_split p u
  have hcarried := hbefore.trans hfirst
  obtain ⟨hdouse, hlamp⟩ := tickDouse_due (hcarried.douse.trans hy) hleft (hcarried.state.trans hlit)
  rw [hcarried.idle hidle] at hlamp
  rw [← hown] at hsecond
  have hframed := hsecond.trans (framed_carries r s)
  have hseq : (boundary r s).seq = (framed r s).seq := by
    obtain ⟨hboundary, -⟩ := boundary_idle r hidle
    generalize boundary r s = t at hboundary ⊢
    rw [hboundary]
  have hlamps : (boundary r s).lamp = (framed r s).lamp := (boundary_lamp_idle r hidle).trans (framed_lamp r s).symm
  rw [hseq, hlamps]
  exact ⟨hframed.douse.trans hdouse, hframed.state.trans hlamp⟩

end

end

/-- Settles O48: the rows by the conditions of each step, the boundary by the record that is judged and by the work that
carries a running douse timer to its own count. -/
theorem showStartHouseCueAndDouse : Obligations.ShowStartHouseCueAndDouse := by
  unfold Obligations.ShowStartHouseCueAndDouse
  intro p s
  refine ⟨fun ⟨hengaged, hpending⟩ => ⟨fun hlit hfade => ?_, fun r hr hleader hrunning hallowed halone => ?_, fun h => ?_,
    fun hburning => congrArg Host.Outcome.next (showStartStrike_burning hburning),
    fun hheld => congrArg Host.Outcome.next (showStartOpen_held hheld)⟩, fun hidle c hc => ?_, fun r c n hr hc hn => ?_,
    fun hlast => ⟨fun hkept => ?_, fun hlive hburning => ?_⟩,
    fun hearly => congrArg Host.Outcome.next (expireDouse_early hearly), fun r => ⟨_, exec_boundary r s, ?_, ?_⟩⟩
  · have htaken := showStartFadeAndMotor_taken hengaged hpending hlit hfade
    exact ⟨_, congrArg Host.Outcome.next htaken, rfl, rfl, rfl⟩
  · have htaken := showStartOpen_taken hengaged hpending hr hleader ((openAllowed_iff s p).2 ⟨hrunning, hallowed, halone⟩)
    obtain ⟨hline, hrotation, -, -, -, -, -, hkept, -⟩ := enterScreen_frame p s
    exact ⟨_, congrArg Host.Outcome.next htaken, enterScreen_opened p s, hline, hrotation, hkept⟩
  · refine congrArg Host.Outcome.next (if_neg ?_)
    rintro ⟨-, hlit, hfade⟩
    obtain hdark | hset := h
    · exact hdark hlit
    · exact Bool.false_ne_true (hfade.symm.trans hset)
  · have hnone : s.starting p = false := by
      rw [Bool.eq_false_iff, Ne, starting_iff]
      rintro ⟨hengaged, hpending⟩
      exact hidle.elim (· hengaged) fun hclear => Bool.false_ne_true (hclear.symm.trans hpending)
    obtain ⟨hstrike, hmotor, hopen⟩ := showStart_idle (m := .between) hnone
    obtain rfl | rfl | rfl := hc
    · exact congrArg Host.Outcome.next hstrike
    · exact congrArg Host.Outcome.next hmotor
    · exact congrArg Host.Outcome.next hopen
  · have hjudged := judgeHouseCue_eq hr hc hn
    refine ⟨fun hengaged hfree hreached => ?_, fun hheld => ?_⟩
    · rw [if_pos ⟨decide_eq_true hengaged, hfree, hreached⟩, takeHouseCue_eq] at hjudged
      exact congrArg Host.Outcome.next hjudged
    · refine congrArg Host.Outcome.next (hjudged.trans (if_neg ?_))
      rintro ⟨hengaged, hfree, hreached⟩
      obtain hidle | htaken | habove := hheld
      · exact hidle (of_decide_eq_true hengaged)
      · exact Bool.false_ne_true (hfree.symm.trans htaken)
      · exact habove.not_ge hreached
  · exact congrArg Host.Outcome.next (hkept.elim (expireDouse_halted hlast) (expireDouse_dark hlast))
  · exact ⟨_, rfl, expireDouse_putOut hlast hlive hburning⟩
  · exact fun e c n hs ht hengaged he hc hn => ⟨_, boundary_houseCue r hs ht hengaged he hc hn, rfl⟩
  · exact fun y hrunout hloss hlit hburn hy => ⟨boundary_douseCounted hrunout hloss hlit hburn hy,
      boundary_douseDue hrunout hloss hlit hburn hy⟩

end Sys2Proof.Machine
end
